-- ==== Sys2Proof/Word.lean ====
section
/-!
DEFINITION. The byte that all three serial lines carry (R190), and nothing else: quantities of the rules are
whole numbers (00_scope.md, "Units and number conventions") and are `Nat` or `Int` in this model.
-/

namespace Sys2Proof

/-- One byte of a line (R190: most significant bit first, multi-byte fields most significant byte first). -/
abbrev Byte := BitVec 8

end Sys2Proof
end

