-- ==== Sys2Proof/Syntax.lean ====
section
/-!
DEFINITION. The commands of the block: one constructor of `Instr` for each row of spec/opcode_table.json, and the
wire-level records that the commands carry. Field values are whole numbers as received; `WellFormed` bounds each by the
width R190 gives its kind, and the range checks of the rules are part of the meanings.
-/

namespace Sys2Proof

/-- One value for each of the four feeders 0..3 (00_scope.md, units). -/
structure PerFeeder where
  f0 : Nat
  f1 : Nat
  f2 : Nat
  f3 : Nat
deriving DecidableEq, Repr

/-- The fields of a CLAIM frame (section 2.2, R191) but for the sender and the sender epoch count. A departure of
`none` is NONE. -/
structure Claim where
  feeder : Nat
  busId : Nat
  dep : Option Int
  need : Nat
  ask : Nat
  pledge : Nat
  drawn : Int
  grant : Nat
  serviceLimit : Nat
  feederLimit : Nat
  late : Bool
  atRisk : Bool
  withdrawn : Bool
  isolated : Bool
  inEvent : Bool
deriving DecidableEq, Repr

/-- A leg as an OFFER frame carries it: departure, required energy, state code (R191: PENDING 0, DONE 1, MISSED 2). -/
structure RawLeg where
  dep : Int
  req : Nat
  state : Nat
deriving DecidableEq, Repr

/-- The payload of an OFFER frame (R191); the leg count is the length of `legs`. -/
structure Offer where
  busId : Nat
  parkedEpoch : Nat
  dayAge : Nat
  cap : Nat
  floor : Nat
  lastE : Nat
  cursor : Nat
  cumImp : Int
  cumExp : Int
  cumResp : Int
  sessions : Nat
  legs : List RawLeg
deriving DecidableEq, Repr

/-- A frame's content apart from its sender, and apart from a CLAIM's sender epoch count, which is filled when it is
driven (R18). -/
inductive Frame where
  | claim (c : Claim)
  | event (seq demand remaining : Nat)
  | query (busId : Nat)
  | offer (o : Offer)
  | taken (busId chosen : Nat)
deriving DecidableEq, Repr

/-- One entry of the band table as CONFIGURE carries it (section 7.3, R193). -/
structure BandCfg where
  low : Nat
  high : Nat
  response : Nat
  dwell : Nat
  recovery : Nat
  enabled : Nat
deriving DecidableEq, Repr

/-- The configuration record (section 10.3), as received. `mask` holds cause code n at bit n − 1 (R190). -/
structure ConfigRecord where
  bayId : Nat
  feeder : Nat
  bayCount : Nat
  serviceLimit : Nat
  limits : PerFeeder
  chargerRating : Nat
  dischargeRating : Nat
  commitment : Nat
  dHold : Nat
  rampStep : Nat
  eventMax : Nat
  parkHold : Nat
  lead : Nat
  window : Nat
  band0 : BandCfg
  band1 : BandCfg
  band2 : BandCfg
  band3 : BandCfg
  mask : BitVec 24
deriving DecidableEq, Repr

/-- The fields of PLUG (R51, R193). -/
structure PlugFields where
  busId : Nat
  cap : Nat
  e0 : Nat
  floor : Nat
  pAccept : Nat
  consent : Nat
  dischargeLimit : Nat
deriving DecidableEq, Repr

/-- One new leg of CHAIN_LOAD (R57, R193). -/
structure NewLeg where
  dayOffset : Nat
  minute : Nat
  req : Nat
deriving DecidableEq, Repr

/-- The commands: one constructor for each row of spec/opcode_table.json, in the table's order. -/
inductive Instr where
  /-- POWER_ON_RESET (R11, R187). -/
  | powerOnReset
  /-- TICK_EVENT (R1). -/
  | tickEvent
  /-- EPOCH_BOUNDARY (R2). -/
  | epochBoundary
  /-- CLOCK_DISAGREE_END (R6). -/
  | clockDisagreeEnd
  /-- CLAIM_FRAME (R5, R17, R36): a CLAIM that passed R15's structure checks but for the sender's range. -/
  | claimFrame (sender epoch : Nat) (c : Claim)
  /-- EVENT_FRAME (R17, R122). -/
  | eventFrame (sender origin seq demand remaining : Nat)
  /-- QUERY_FRAME (R17, R153). -/
  | queryFrame (sender busId : Nat)
  /-- OFFER_FRAME (R17, R147). -/
  | offerFrame (sender : Nat) (o : Offer)
  /-- TAKEN_FRAME (R17, R156). -/
  | takenFrame (sender busId chosen : Nat)
  /-- LINE_IDLE (R14, R24). -/
  | lineIdle
  /-- LINE_BUSY (R14, R24). -/
  | lineBusy
  /-- BACKOFF_EXPIRY (R24). -/
  | backoffExpiry
  /-- FRAME_SENT (R25). -/
  | frameSent
  /-- COLLISION (R25). -/
  | collision
  /-- TAKEN_EXPIRY (R23). -/
  | takenExpiry
  /-- LISTENING_PERIOD_END (R29). -/
  | listeningPeriodEnd
  /-- PEER_STALE (R38). -/
  | peerStale (bay : Nat)
  /-- PEER_REMOVED (R38). -/
  | peerRemoved (bay : Nat)
  /-- ALLOTMENT_COMPLETION (R75). -/
  | allotmentCompletion
  /-- MEASURE (R96, R192): the bytes of the record received. -/
  | measure (bytes : List Byte)
  /-- METER_LOST (R98). -/
  | meterLost
  /-- GSENSE_EDGE (R113): the interval since the previous rising edge, in units of 0.1 µs. -/
  | gsenseEdge (interval : Nat)
  /-- EDGE_WATCH_EXPIRY (R114). -/
  | edgeWatchExpiry
  /-- BAND_TRIGGER (R115) of band 0..3. -/
  | bandTrigger (band : Nat)
  /-- BAND_RECOVERED (R115) of band 0..3. -/
  | bandRecovered (band : Nat)
  /-- EVENT_REFRESH (R121). -/
  | eventRefresh
  /-- EVENT_COUNTDOWN_END (R134). -/
  | eventCountdownEnd
  /-- CONTEXT_EXPIRED (R143) of the park entry of a bus. -/
  | contextExpired (busId : Nat)
  /-- TAKEN_WAIT_END (R157) of the park entry of a bus. -/
  | takenWaitEnd (busId : Nat)
  /-- QUERY_WINDOW_CLOSE (R149). -/
  | queryWindowClose
  /-- EMPTY_TRANSACTION (R176). -/
  | emptyTransaction
  /-- CONFIGURE (R180, R181). -/
  | configure (r : ConfigRecord)
  /-- SET_TIME (R7). -/
  | setTime (epoch : Nat)
  /-- PLUG (R51). -/
  | plug (p : PlugFields)
  /-- VEHICLE_UPDATE (R56). -/
  | vehicleUpdate (pAccept dischargeLimit consent : Nat)
  /-- CHAIN_LOAD (R57). -/
  | chainLoad (legs : List NewLeg)
  /-- UNPLUG (R61). -/
  | unplug
  /-- DISPATCH (R118): demand and duration in minutes. -/
  | dispatch (demand minutes : Nat)
  /-- MARK (R171). -/
  | mark (tag : BitVec 32)
  /-- CLOSE_BANK (R169). -/
  | closeBank
  /-- RELEASE_BANK (R168). -/
  | releaseBank (bank : Nat)
  /-- READ_LOG (R170). -/
  | readLog (bank index : Nat)
  /-- READ_STATUS (R182). -/
  | readStatus
  /-- READ_SESSION (R70). -/
  | readSession
  /-- READ_PEER whose selector byte is not 1 (R46, R179): selector 0 is by index, every other is refused. -/
  | readPeerByIndex (selector index : Nat)
  /-- READ_PEER whose selector byte is 1 (R47). -/
  | readPeerByBay (bay : Nat)
  /-- SNAPSHOT (R108). -/
  | snapshot
  /-- READ_SNAPSHOT (R109). -/
  | readSnapshot
  /-- CLEAR_FLAGS (R184). -/
  | clearFlags (set : BitVec 24)
  /-- SET_NOTICE_MASK (R185). -/
  | setNoticeMask (set : BitVec 24)
  /-- CLEAR_COUNTERS (R173). -/
  | clearCounters
  /-- BAY_RESET (R188). -/
  | bayReset
  /-- DROPPED_FRAME (R15, R17): the bytes taken, and whether the last byte was whole (R191). -/
  | droppedFrame (bytes : List Byte) (whole : Bool)
  /-- FORMAT_REFUSAL (R176, R179): the whole bytes of the transaction. -/
  | formatRefusal (bytes : List Byte)
deriving DecidableEq, Repr

end Sys2Proof
end

