-- ==== Sys2Proof/Config.lean ====
section
/-!
DEFINITION. The constants of the spec that more than one rule uses, and the free values: constants without a body, of
which nothing can be proved, for what the spec leaves open.
-/

namespace Sys2Proof.Config

/-- Epochs in a day (section 1.1). -/
abbrev dayEpochs : Nat := 43200

/-- Ticks in an epoch (section 1.1). -/
abbrev epochTicks : Nat := 20

/-- The lowest departure epoch that is held (section 1.5, R9). -/
abbrev minDeparture : Int := -43200

/-- The latest departure epoch (section 1.5). -/
abbrev maxDeparture : Int := 86399

/-- The encoding of the departure NONE (R190). -/
abbrev noDeparture : Int := 8388607

/-- Attempts that a frame may make in one epoch (R26). -/
abbrev maxAttempts : Nat := 12

/-- Epoch boundaries after which an unsent TAKEN is removed (R23). -/
abbrev takenLife : Nat := 4

/-- The listening period in epoch boundaries (R28). -/
abbrev listeningPeriod : Nat := 3

/-- The streak at which a station becomes ISOLATED (R30). -/
abbrev isolationStreak : Nat := 8

/-- The silence counts at which an entry becomes STALE and at which it is removed (R38). -/
abbrev staleSilence : Nat := 3
abbrev removalSilence : Nat := 15

/-- The tick events within which a computation completes (R75). -/
abbrev completionTicks : Nat := 5

/-- The gap count at which METER_LOST begins (R98). -/
abbrev lostGaps : Nat := 4

/-- The edge watch at which SENSE_FAULT begins (R114). -/
abbrev edgeWatchLimit : Nat := 3

/-- The refresh countdown of an event's holder (R121). -/
abbrev refreshPeriod : Nat := 5

/-- The query window and the TAKEN-wait in epoch boundaries (R146, R153). -/
abbrev windowLength : Nat := 3
abbrev takenWait : Nat := 4

/-- The park table's entries (R142) and a bank's records (R166). -/
abbrev parkEntries : Nat := 4
abbrev bankRecords : Nat := 12

/-- Bit times without a transition after which the depot link is idle (R14), and of idle between records of the stage line
(R192). -/
abbrev depotIdleBits : Nat := 16
abbrev stageIdleBits : Nat := 20

/-- The readback and receive threshold of the depot link in millivolts, in either polarity (section 11.7, R191). -/
abbrev receiverThreshold : Int := 200

/-- FREE VALUE (R134, R103, R105): whether RSV takes an occasion before the other blocks, for the occasion stamped by a
counter of State. Log entries 2 and 3. -/
opaque rsvFirst (stamp : Nat) : Bool

/-- FREE VALUE (R55, R149): whether PRK takes an epoch boundary before SES, for the boundary stamped by a counter of State.
Log entry 12. -/
opaque prkFirst (stamp : Nat) : Bool

/-- FREE VALUE: what a response carries in a figure for which the spec states no value; `site` names the figure, `stamp`
the reading. Log entry 26. -/
opaque unreported (site stamp : Nat) : Nat

/-- FREE VALUE: what the receive path reads of a level between the thresholds, in the bit time stamped by a count of bit times;
the spec states none. Log entry 54. -/
opaque levelBetween (stamp : Nat) : Bool

end Sys2Proof.Config
end

