-- ==== Sys2Proof/WellFormed.lean ====
section
/-!
DEFINITION. Which operands a line can carry: each field within the width R190 and R191 to R193 give its kind. Whether a
field lies in the range of its rule is decided by the meanings, not here.
-/

namespace Sys2Proof

/-- `n` fits `bytes` bytes, unsigned. -/
def fitsU (bytes n : Nat) : Bool := decide (n < 256 ^ bytes)

/-- `x` fits `bytes` bytes in two's complement. -/
def fitsI (bytes : Nat) (x : Int) : Bool :=
  decide (-(256 ^ bytes / 2 : Nat) ≤ x) && decide (x < (256 ^ bytes / 2 : Nat))

/-- A departure that three bytes can carry: NONE, or a value that does not read as NONE (R190). -/
def fitsDeparture : Option Int → Bool
  | none => true
  | some d => fitsI 3 d && decide (d ≠ Config.noDeparture)

def Claim.wellFormed (c : Claim) : Bool :=
  fitsU 1 c.feeder && fitsU 1 c.busId && fitsDeparture c.dep && fitsU 2 c.need && fitsU 2 c.ask && fitsU 2 c.pledge &&
    fitsI 2 c.drawn && fitsU 2 c.grant && fitsU 2 c.serviceLimit && fitsU 2 c.feederLimit

def RawLeg.wellFormed (l : RawLeg) : Bool := fitsI 3 l.dep && fitsU 3 l.req && fitsU 1 l.state

/-- At most 9 legs: a longer payload would pass the 96 bytes of R15 (a ninth leg fits them and fails R17). -/
def Offer.wellFormed (o : Offer) : Bool :=
  fitsU 1 o.busId && fitsU 2 o.parkedEpoch && fitsU 1 o.dayAge && fitsU 4 o.cap && fitsU 4 o.floor && fitsU 4 o.lastE &&
    fitsU 1 o.cursor && fitsI 4 o.cumImp && fitsI 4 o.cumExp && fitsI 4 o.cumResp && fitsU 1 o.sessions &&
    decide (o.legs.length ≤ 9) && o.legs.all RawLeg.wellFormed

def Frame.wellFormed : Frame → Bool
  | .claim c => c.wellFormed
  | .event q d r => fitsU 1 q && fitsU 2 d && fitsU 2 r
  | .query b => fitsU 1 b
  | .offer o => o.wellFormed
  | .taken b c => fitsU 1 b && fitsU 1 c

def BandCfg.wellFormed (b : BandCfg) : Bool :=
  fitsU 2 b.low && fitsU 2 b.high && fitsU 1 b.response && fitsU 2 b.dwell && fitsU 2 b.recovery && fitsU 1 b.enabled

def ConfigRecord.wellFormed (r : ConfigRecord) : Bool :=
  fitsU 1 r.bayId && fitsU 1 r.feeder && fitsU 1 r.bayCount && fitsU 2 r.serviceLimit && fitsU 2 r.limits.f0 &&
    fitsU 2 r.limits.f1 && fitsU 2 r.limits.f2 && fitsU 2 r.limits.f3 && fitsU 2 r.chargerRating &&
    fitsU 2 r.dischargeRating && fitsU 2 r.commitment && fitsU 2 r.dHold && fitsU 2 r.rampStep && fitsU 1 r.eventMax &&
    fitsU 1 r.parkHold && fitsU 1 r.lead && fitsU 1 r.window && r.band0.wellFormed && r.band1.wellFormed &&
    r.band2.wellFormed && r.band3.wellFormed

def PlugFields.wellFormed (p : PlugFields) : Bool :=
  fitsU 1 p.busId && fitsU 4 p.cap && fitsU 4 p.e0 && fitsU 4 p.floor && fitsU 2 p.pAccept && fitsU 1 p.consent &&
    fitsU 2 p.dischargeLimit

def NewLeg.wellFormed (l : NewLeg) : Bool := fitsU 1 l.dayOffset && fitsU 2 l.minute && fitsU 3 l.req

/-- A command whose operands the lines can carry. A CHAIN_LOAD record of at most 256 bytes holds at most 42 legs (R176,
R193); a READ_PEER whose selector is 1 is `readPeerByBay`; a grid period is at least 2 ms (section 11.7), so never 0. -/
def Instr.wellFormed : Instr → Bool
  | .claimFrame b e c => fitsU 1 b && fitsU 2 e && c.wellFormed
  | .eventFrame b o q d r => fitsU 1 b && fitsU 1 o && fitsU 1 q && fitsU 2 d && fitsU 2 r
  | .queryFrame b i => fitsU 1 b && fitsU 1 i
  | .offerFrame b o => fitsU 1 b && o.wellFormed
  | .takenFrame b i c => fitsU 1 b && fitsU 1 i && fitsU 1 c
  | .peerStale b => decide (1 ≤ b ∧ b ≤ 64)
  | .peerRemoved b => decide (1 ≤ b ∧ b ≤ 64)
  | .gsenseEdge n => decide (0 < n)
  | .bandTrigger i => decide (i < 4)
  | .bandRecovered i => decide (i < 4)
  | .contextExpired b => decide (1 ≤ b ∧ b ≤ 255)
  | .takenWaitEnd b => decide (1 ≤ b ∧ b ≤ 255)
  | .configure r => r.wellFormed
  | .setTime e => fitsU 2 e
  | .plug p => p.wellFormed
  | .vehicleUpdate p d c => fitsU 2 p && fitsU 2 d && fitsU 1 c
  | .chainLoad ls => decide (ls.length ≤ 42) && ls.all NewLeg.wellFormed
  | .dispatch d m => fitsU 2 d && fitsU 2 m
  | .releaseBank b => fitsU 1 b
  | .readLog b i => fitsU 1 b && fitsU 1 i
  | .readPeerByIndex s i => fitsU 1 s && decide (s ≠ 1) && fitsU 1 i
  | .readPeerByBay b => fitsU 1 b
  | .formatRefusal bs => !bs.isEmpty
  | .powerOnReset | .tickEvent | .epochBoundary | .clockDisagreeEnd | .lineIdle | .lineBusy | .backoffExpiry
  | .frameSent | .collision | .takenExpiry | .listeningPeriodEnd | .allotmentCompletion | .measure _ | .meterLost
  | .edgeWatchExpiry | .eventRefresh | .eventCountdownEnd | .queryWindowClose | .emptyTransaction | .unplug | .mark _
  | .closeBank | .readStatus | .readSession | .snapshot | .readSnapshot | .clearFlags _ | .setNoticeMask _
  | .clearCounters | .bayReset | .droppedFrame _ _ => true

end Sys2Proof
end

