-- ==== Sys2Proof/Decode.lean ====
section
/-!
DEFINITION. The bytes of the three lines (chapter 11): field encodings (R190), frames and their CRC (R191), stage line
records (R192), command records (R193); both directions. The table of commands gives no row any bits, so
`decodeTableWord` answers none.
-/

namespace Sys2Proof

/-! ## Field encodings (R190) -/

/-- `n` in `k` bytes, most significant first. -/
def beBytes : Nat → Nat → List Byte
  | 0, _ => []
  | k + 1, n => beBytes k (n / 256) ++ [BitVec.ofNat 8 n]

/-- The number that bytes spell, most significant first. -/
def beNat (bs : List Byte) : Nat := bs.foldl (fun acc b => acc * 256 + b.toNat) 0

def u8 (n : Nat) : List Byte := beBytes 1 n
def u16 (n : Nat) : List Byte := beBytes 2 n
def u24 (n : Nat) : List Byte := beBytes 3 n
def u32 (n : Nat) : List Byte := beBytes 4 n

/-- Two's complement in `k` bytes (R190). -/
def beInt (k : Nat) (x : Int) : List Byte := beBytes k (x % (256 ^ k : Nat)).toNat

def i16 (x : Int) : List Byte := beInt 2 x
def i24 (x : Int) : List Byte := beInt 3 x
def i32 (x : Int) : List Byte := beInt 4 x

/-- A yes-or-no byte (R190). -/
def yesNo (b : Bool) : List Byte := u8 (if b then 1 else 0)

/-- A departure, or a parked time, with NONE (R190). -/
def departureBytes (d : Option Int) : List Byte := i24 (d.getD Config.noDeparture)

/-- Flags in one byte, the least significant bit for the first (R190). -/
def flagBits : List Bool → Nat
  | [] => 0
  | b :: bs => (if b then 1 else 0) + 2 * flagBits bs

/-- The field of `k` bytes that begins at byte `at'` of a record. -/
def field (bs : List Byte) (at' k : Nat) : Nat := beNat ((bs.drop at').take k)

/-- A number of `k` bytes read as two's complement. -/
def signed (k n : Nat) : Int := if n < 256 ^ k / 2 then (n : Int) else (n : Int) - (256 ^ k : Nat)

def fieldI (bs : List Byte) (at' k : Nat) : Int := signed k (field bs at' k)

/-- A three-byte departure: NONE reads as `none` (R190). -/
def fieldDeparture (bs : List Byte) (at' : Nat) : Option Int :=
  let d := fieldI bs at' 3
  if d = Config.noDeparture then none else some d

/-- Bit `i` of a flag byte. -/
def fieldFlag (bs : List Byte) (at' i : Nat) : Bool := (field bs at' 1).testBit i

/-! ## Bits (R190 to R192) -/

/-- The bits of a byte in the order in which they travel, the most significant first (R190). -/
def bitsOf (b : Byte) : List Bool := (List.range 8).map fun i => b.getLsbD (7 - i)

/-- The byte of eight bits in the order in which they travel (R190). -/
def byteOf (b7 b6 b5 b4 b3 b2 b1 b0 : Bool) : Byte :=
  BitVec.ofBool b7 ++ BitVec.ofBool b6 ++ BitVec.ofBool b5 ++ BitVec.ofBool b4 ++ BitVec.ofBool b3 ++ BitVec.ofBool b2 ++
    BitVec.ofBool b1 ++ BitVec.ofBool b0

/-- A byte as ten bit times on the depot link and the stage line: start bit 0, the data bits, stop bit 1 (R191, R192). -/
def lineBits (b : Byte) : List Bool := false :: (bitsOf b ++ [true])

/-- The bytes of the levels of successive bit times, and whether they end whole: the last byte has its stop bit, and no bit stands
after the last whole byte (R191). A level 0 where no byte is under way is a start bit; a level 1 there is the line at rest.
`stopped` says whether the byte before has its stop bit (log entry 52). -/
def assemble (stopped : Bool) : List Bool → List Byte × Bool
  | [] => ([], stopped)
  | true :: rest => assemble stopped rest
  | false :: b7 :: b6 :: b5 :: b4 :: b3 :: b2 :: b1 :: b0 :: stop :: rest =>
    (byteOf b7 b6 b5 b4 b3 b2 b1 b0 :: (assemble stop rest).1, (assemble stop rest).2)
  | false :: _ => ([], false)

/-! ## Frames (R15, R191) -/

/-- One byte through the CRC register: polynomial x¹⁶ + x¹² + x⁵ + 1, most significant bit first, unreflected (R191). -/
def crcByte (r : BitVec 16) (b : Byte) : BitVec 16 :=
  (List.range 8).foldl (fun r _ => if r.msb then (r <<< 1) ^^^ 0x1021#16 else r <<< 1)
    (r ^^^ ((b.zeroExtend 16) <<< 8))

/-- The CRC-16 of a frame: register preset to all ones, no final inversion (R191). -/
def crc16 (bs : List Byte) : BitVec 16 := bs.foldl crcByte 0xFFFF#16

/-- The kind codes of frames (R191). -/
def Frame.kindCode : Frame → Nat
  | .claim _ => 1
  | .event _ _ _ => 2
  | .query _ => 3
  | .offer _ => 4
  | .taken _ _ => 5

/-- The 20 claim bytes that follow the sender epoch count, in CLAIM order (R191). -/
def Claim.bytes (c : Claim) : List Byte :=
  u8 c.feeder ++ u8 c.busId ++ departureBytes c.dep ++ u16 c.need ++ u16 c.ask ++ u16 c.pledge ++ i16 c.drawn ++
    u16 c.grant ++ u16 c.serviceLimit ++ u16 c.feederLimit ++
    u8 (flagBits [c.late, c.atRisk, c.withdrawn, c.isolated, c.inEvent])

def RawLeg.bytes (l : RawLeg) : List Byte := i24 l.dep ++ u24 l.req ++ u8 l.state

def Offer.bytes (o : Offer) : List Byte :=
  u8 o.busId ++ u16 o.parkedEpoch ++ u8 o.dayAge ++ u32 o.cap ++ u32 o.floor ++ u32 o.lastE ++ u8 o.legs.length ++
    u8 o.cursor ++ i32 o.cumImp ++ i32 o.cumExp ++ i32 o.cumResp ++ u8 o.sessions ++ o.legs.flatMap RawLeg.bytes

/-- The payload of a frame driven by bay `bay` at epoch count `epoch` (R18, R191). -/
def Frame.payload (bay epoch : Nat) : Frame → List Byte
  | .claim c => u16 epoch ++ c.bytes
  | .event q d r => u8 bay ++ u8 q ++ u16 d ++ u16 r
  | .query b => u8 b
  | .offer o => o.bytes
  | .taken b c => u8 b ++ u8 c

/-- A frame without its CRC: kind, sender bay, payload length, payload. -/
def Frame.body (bay epoch : Nat) (f : Frame) : List Byte :=
  u8 f.kindCode ++ u8 bay ++ u8 (f.payload bay epoch).length ++ f.payload bay epoch

/-- The bytes of a frame on the line (R191). -/
def Frame.bytes (bay epoch : Nat) (f : Frame) : List Byte :=
  f.body bay epoch ++ u16 (crc16 (f.body bay epoch)).toNat

/-- The payload length that chapter 11 gives a kind code (for OFFER, what its leg count implies), R15. -/
def payloadLength (bs : List Byte) : Nat → Option Nat
  | 1 => some 22
  | 2 => some 6
  | 3 => some 1
  | 4 => some (31 + 7 * field bs 19 1)
  | 5 => some 2
  | _ => none

/-- The structure checks of R15. `whole` is false where the last byte lacks its stop bit or bits follow it (R191). -/
def structureOk (bs : List Byte) (whole : Bool) : Bool :=
  whole && decide (5 ≤ bs.length) && decide (field bs 2 1 ≤ 96) && decide (bs.length = field bs 2 1 + 5) &&
    decide (field bs (bs.length - 2) 2 = (crc16 (bs.take (bs.length - 2))).toNat) &&
    decide (payloadLength bs (field bs 0 1) = some (field bs 2 1)) &&
    decide (1 ≤ field bs 1 1 ∧ field bs 1 1 ≤ 64)

def claimAt (bs : List Byte) : Claim :=
  { feeder := field bs 5 1, busId := field bs 6 1, dep := fieldDeparture bs 7, need := field bs 10 2,
    ask := field bs 12 2, pledge := field bs 14 2, drawn := fieldI bs 16 2, grant := field bs 18 2,
    serviceLimit := field bs 20 2, feederLimit := field bs 22 2, late := fieldFlag bs 24 0,
    atRisk := fieldFlag bs 24 1, withdrawn := fieldFlag bs 24 2, isolated := fieldFlag bs 24 3,
    inEvent := fieldFlag bs 24 4 }

def rawLegAt (bs : List Byte) (i : Nat) : RawLeg :=
  { dep := fieldI bs (34 + 7 * i) 3, req := field bs (37 + 7 * i) 3, state := field bs (40 + 7 * i) 1 }

def offerAt (bs : List Byte) : Offer :=
  { busId := field bs 3 1, parkedEpoch := field bs 4 2, dayAge := field bs 6 1, cap := field bs 7 4,
    floor := field bs 11 4, lastE := field bs 15 4, cursor := field bs 20 1, cumImp := fieldI bs 21 4,
    cumExp := fieldI bs 25 4, cumResp := fieldI bs 29 4, sessions := field bs 33 1,
    legs := (List.range (field bs 19 1)).map (rawLegAt bs) }

/-- The frame command that bytes of a good structure spell. -/
def frameAt (bs : List Byte) : Option Instr :=
  match field bs 0 1 with
  | 1 => some (.claimFrame (field bs 1 1) (field bs 3 2) (claimAt bs))
  | 2 => some (.eventFrame (field bs 1 1) (field bs 3 1) (field bs 4 1) (field bs 5 2) (field bs 7 2))
  | 3 => some (.queryFrame (field bs 1 1) (field bs 3 1))
  | 4 => some (.offerFrame (field bs 1 1) (offerAt bs))
  | 5 => some (.takenFrame (field bs 1 1) (field bs 3 1) (field bs 4 1))
  | _ => none

/-- What the receive path makes of the bytes it has taken: a frame command, or none where R15's checks fail. -/
def decodeFrame (bs : List Byte) (whole : Bool) : Option Instr :=
  if structureOk bs whole then frameAt bs else none

/-- The command at a receiver that a frame driven by `bay` at `epoch` becomes. -/
def Frame.toInstr (bay epoch : Nat) : Frame → Instr
  | .claim c => .claimFrame bay epoch c
  | .event q d r => .eventFrame bay bay q d r
  | .query b => .queryFrame bay b
  | .offer o => .offerFrame bay o
  | .taken b c => .takenFrame bay b c

/-! ## Stage line records (R192) -/

/-- The sum of a record's bytes modulo 256. -/
def byteSum (bs : List Byte) : Nat := (bs.foldl (fun acc b => acc + b.toNat) 0) % 256

/-- A record with the check byte that makes all its bytes sum to 0 modulo 256. -/
def withCheck (bs : List Byte) : List Byte := bs ++ u8 ((256 - byteSum bs) % 256)

/-- SETPOINT: kind 1, exchange sequence, applied setpoint, check. -/
def setpointRecord (seq : Nat) (applied : Int) : List Byte := withCheck (u8 1 ++ u8 seq ++ i16 applied)

/-- A MEASURE record's fields. -/
structure Measure where
  seq : Nat
  power : Int
  volts : Nat
  fault : Bool
  isOpen : Bool
deriving DecidableEq, Repr

/-- MEASURE: kind 2, echoed sequence, measured power, DC voltage, flags, check. -/
def Measure.bytes (m : Measure) : List Byte :=
  withCheck (u8 2 ++ u8 m.seq ++ i16 m.power ++ u16 m.volts ++ u8 (flagBits [m.fault, m.isOpen]))

/-- The record checks of R192: 8 bytes, kind 2, bytes summing to 0 modulo 256. -/
def decodeMeasure (bs : List Byte) : Option Measure :=
  if bs.length = 8 ∧ field bs 0 1 = 2 ∧ byteSum bs = 0 then
    some { seq := field bs 1 1, power := fieldI bs 2 2, volts := field bs 4 2, fault := fieldFlag bs 6 0,
           isOpen := fieldFlag bs 6 1 }
  else none

/-! ## Command records (R193) -/

/-- The kind code of a command record; `none` for a command that is no record of the bay port. -/
def Instr.portKind : Instr → Option Nat
  | .configure _ => some 1
  | .setTime _ => some 2
  | .plug _ => some 3
  | .vehicleUpdate _ _ _ => some 4
  | .chainLoad _ => some 5
  | .unplug => some 6
  | .dispatch _ _ => some 7
  | .mark _ => some 8
  | .closeBank => some 9
  | .releaseBank _ => some 10
  | .readLog _ _ => some 11
  | .readStatus => some 12
  | .readSession => some 13
  | .readPeerByIndex _ _ => some 14
  | .readPeerByBay _ => some 14
  | .snapshot => some 15
  | .readSnapshot => some 16
  | .clearFlags _ => some 17
  | .setNoticeMask _ => some 18
  | .clearCounters => some 19
  | .bayReset => some 20
  | .powerOnReset | .tickEvent | .epochBoundary | .clockDisagreeEnd | .claimFrame _ _ _ | .eventFrame _ _ _ _ _
  | .queryFrame _ _ | .offerFrame _ _ | .takenFrame _ _ _ | .lineIdle | .lineBusy | .backoffExpiry | .frameSent
  | .collision | .takenExpiry | .listeningPeriodEnd | .peerStale _ | .peerRemoved _ | .allotmentCompletion
  | .measure _ | .meterLost | .gsenseEdge _ | .edgeWatchExpiry | .bandTrigger _ | .bandRecovered _ | .eventRefresh
  | .eventCountdownEnd | .contextExpired _ | .takenWaitEnd _ | .queryWindowClose | .emptyTransaction
  | .droppedFrame _ _ | .formatRefusal _ => none

/-- The length that chapter 11 gives a command kind (for CHAIN_LOAD, what its leg count implies). -/
def recordLength (bs : List Byte) : Nat → Option Nat
  | 1 => some 71
  | 2 => some 3
  | 3 => some 19
  | 4 => some 6
  | 5 => some (2 + 6 * field bs 1 1)
  | 6 => some 1
  | 7 => some 5
  | 8 => some 5
  | 9 => some 1
  | 10 => some 2
  | 11 => some 3
  | 12 => some 1
  | 13 => some 1
  | 14 => some 3
  | 15 => some 1
  | 16 => some 1
  | 17 => some 4
  | 18 => some 4
  | 19 => some 1
  | 20 => some 1
  | _ => none

/-- The format stage of R179. A CHAIN_LOAD of one byte has no leg count and fails, as 2 + 0 is not 1. -/
def formatOk (bs : List Byte) : Bool :=
  decide (bs.length ≤ 256) && decide (recordLength bs (field bs 0 1) = some bs.length)

def BandCfg.bytes (b : BandCfg) : List Byte :=
  u16 b.low ++ u16 b.high ++ u8 b.response ++ u16 b.dwell ++ u16 b.recovery ++ u8 b.enabled

/-- The bay's place in the depot: fields 1 to 8 of a configuration record. -/
def ConfigRecord.placeBytes (r : ConfigRecord) : List Byte :=
  u8 r.bayId ++ u8 r.feeder ++ u8 r.bayCount ++ u16 r.serviceLimit ++ u16 r.limits.f0 ++ u16 r.limits.f1 ++
    u16 r.limits.f2 ++ u16 r.limits.f3

/-- Its ratings and times: fields 9 to 17. -/
def ConfigRecord.ratingBytes (r : ConfigRecord) : List Byte :=
  u16 r.chargerRating ++ u16 r.dischargeRating ++ u16 r.commitment ++ u16 r.dHold ++ u16 r.rampStep ++ u8 r.eventMax ++
    u8 r.parkHold ++ u8 r.lead ++ u8 r.window

/-- The 70 bytes of a configuration record. -/
def ConfigRecord.bytes (r : ConfigRecord) : List Byte :=
  r.placeBytes ++ r.ratingBytes ++ r.band0.bytes ++ r.band1.bytes ++ r.band2.bytes ++ r.band3.bytes ++ u24 r.mask.toNat

def NewLeg.bytes (l : NewLeg) : List Byte := u8 l.dayOffset ++ u16 l.minute ++ u24 l.req

/-- The fields of a command record after its kind. -/
def Instr.fieldBytes : Instr → List Byte
  | .configure r => r.bytes
  | .setTime e => u16 e
  | .plug p => u8 p.busId ++ u32 p.cap ++ u32 p.e0 ++ u32 p.floor ++ u16 p.pAccept ++ u8 p.consent ++ u16 p.dischargeLimit
  | .vehicleUpdate p d c => u16 p ++ u16 d ++ u8 c
  | .chainLoad ls => u8 ls.length ++ ls.flatMap NewLeg.bytes
  | .dispatch d m => u16 d ++ u16 m
  | .mark t => u32 t.toNat
  | .releaseBank b => u8 b
  | .readLog b i => u8 b ++ u8 i
  | .readPeerByIndex s i => u8 s ++ u8 i
  | .readPeerByBay b => u8 1 ++ u8 b
  | .clearFlags f => u24 f.toNat
  | .setNoticeMask f => u24 f.toNat
  | _ => []

/-- The command record of a bay port command; empty for every other command. -/
def encodeRecord (i : Instr) : List Byte :=
  match i.portKind with
  | some k => u8 k ++ i.fieldBytes
  | none => []

def bandAt (bs : List Byte) (at' : Nat) : BandCfg :=
  { low := field bs at' 2, high := field bs (at' + 2) 2, response := field bs (at' + 4) 1,
    dwell := field bs (at' + 5) 2, recovery := field bs (at' + 7) 2, enabled := field bs (at' + 9) 1 }

def configAt (bs : List Byte) : ConfigRecord :=
  { bayId := field bs 1 1, feeder := field bs 2 1, bayCount := field bs 3 1, serviceLimit := field bs 4 2,
    limits := { f0 := field bs 6 2, f1 := field bs 8 2, f2 := field bs 10 2, f3 := field bs 12 2 },
    chargerRating := field bs 14 2, dischargeRating := field bs 16 2, commitment := field bs 18 2,
    dHold := field bs 20 2, rampStep := field bs 22 2, eventMax := field bs 24 1, parkHold := field bs 25 1,
    lead := field bs 26 1, window := field bs 27 1, band0 := bandAt bs 28, band1 := bandAt bs 38,
    band2 := bandAt bs 48, band3 := bandAt bs 58, mask := BitVec.ofNat 24 (field bs 68 3) }

def newLegAt (bs : List Byte) (i : Nat) : NewLeg :=
  { dayOffset := field bs (2 + 6 * i) 1, minute := field bs (3 + 6 * i) 2, req := field bs (5 + 6 * i) 3 }

/-- The command that the bytes of a record of good format spell. -/
def recordAt (bs : List Byte) : Option Instr :=
  match field bs 0 1 with
  | 1 => some (.configure (configAt bs))
  | 2 => some (.setTime (field bs 1 2))
  | 3 => some (.plug { busId := field bs 1 1, cap := field bs 2 4, e0 := field bs 6 4, floor := field bs 10 4,
                       pAccept := field bs 14 2, consent := field bs 16 1, dischargeLimit := field bs 17 2 })
  | 4 => some (.vehicleUpdate (field bs 1 2) (field bs 3 2) (field bs 5 1))
  | 5 => some (.chainLoad ((List.range (field bs 1 1)).map (newLegAt bs)))
  | 6 => some .unplug
  | 7 => some (.dispatch (field bs 1 2) (field bs 3 2))
  | 8 => some (.mark (BitVec.ofNat 32 (field bs 1 4)))
  | 9 => some .closeBank
  | 10 => some (.releaseBank (field bs 1 1))
  | 11 => some (.readLog (field bs 1 1) (field bs 2 1))
  | 12 => some .readStatus
  | 13 => some .readSession
  | 14 => if field bs 1 1 = 1 then some (.readPeerByBay (field bs 2 1))
          else some (.readPeerByIndex (field bs 1 1) (field bs 2 1))
  | 15 => some .snapshot
  | 16 => some .readSnapshot
  | 17 => some (.clearFlags (BitVec.ofNat 24 (field bs 1 3)))
  | 18 => some (.setNoticeMask (BitVec.ofNat 24 (field bs 1 3)))
  | 19 => some .clearCounters
  | 20 => some .bayReset
  | _ => none

/-- The command of a transaction's whole bytes (R176, R179): EMPTY_TRANSACTION where there is none, FORMAT_REFUSAL where
the format stage fails, else the command the record spells. -/
def decodeTransaction (bs : List Byte) : Instr :=
  if bs.isEmpty then .emptyTransaction
  else if formatOk bs then (recordAt bs).getD (.formatRefusal bs) else .formatRefusal bs

/-! ## The opcode table -/

/-- The command that a word spells by the table's bits: the table gives no row any bits, so none. -/
def decodeTableWord (_nbits _w : Nat) : Option Instr := none

end Sys2Proof
end

