-- ==== Sys2Proof/Machine/State.lean ====
section
/-!
DEFINITION. The state of the block: everything the spec's chapters list as state, as plain data, and its value after
power-on reset. INVENTORY.md lists each field with its rule. Standing values that the spec defines as functions of other
state (E, the target, the limits in effect, ...) are computed in Ops.lean and stored nowhere (log entry 34).
-/

namespace Sys2Proof.Machine

/-! ## Clock (chapter 1) -/

/-- Section 1.1. `disagree` is the disagreement age. `tickOwed` is the model's own: an epoch boundary has been taken
before the tick event that completes with it, and the tick stands at 19 until that event (log entry 7). -/
structure Clk where
  epoch : Nat
  tick : Nat
  set : Bool
  disagree : Option Nat
  tickOwed : Bool
deriving DecidableEq, Repr

/-! ## Depot link interface (chapter 2) -/

/-- Section 2.5, in the order that encodes them (R190). -/
inductive Station where
  | unconfigured | listening | active | isolated
deriving DecidableEq, Repr

/-- What makes two queued frames the same place in the queue (R20): the kind, for an OFFER with its bus id. -/
inductive FrameKey where
  | claim | event | query | offer (busId : Nat) | taken
deriving DecidableEq, Repr

/-- An entry of the transmit queue (section 2.3); its time of entry is its place in the list (log entry 33). `age` counts
for a TAKEN. -/
structure QEntry where
  frame : Frame
  attempts : Nat
  age : Nat
deriving DecidableEq, Repr

/-- A removal or a replacement that waits for the end of a transmission (R21). -/
inductive Held where
  | remove
  | replace (f : Frame)
deriving DecidableEq, Repr

/-- The access state (R24, R25): `backoff` holds the chosen frame and the backoff in bit times, `sending` the frame, the
bytes being driven and what R21 holds back. -/
inductive Access where
  | notContending
  | waiting
  | backoff (key : FrameKey) (bitTimes : Nat)
  | sending (key : FrameKey) (bytes : List Byte) (held : Option Held)
deriving DecidableEq, Repr

/-- The link interface. `armed`: the frame next taken began after the line was last idle (R14). -/
structure Lnk where
  station : Station
  listening : Nat
  streak : Nat
  dupBay : Bool
  queue : List QEntry
  access : Access
  lineIdle : Bool
  armed : Bool
deriving DecidableEq, Repr

/-! ## Peer table (chapter 3) -/

inductive PeerState where
  | live | stale
deriving DecidableEq, Repr

/-- A peer entry (section 3.1). -/
structure PeerEntry where
  bay : Nat
  epoch : Nat
  claim : Claim
  state : PeerState
  silence : Nat
deriving DecidableEq, Repr

structure Ptb where
  entries : List PeerEntry
  limitDisagree : Bool
  dupBus : Bool
deriving DecidableEq, Repr

/-! ## Sessions (chapter 4) and accounts (chapter 6) -/

inductive LegState where
  | pending | done | missed
deriving DecidableEq, Repr

structure Leg where
  dep : Int
  req : Nat
  state : LegState
deriving DecidableEq, Repr

/-- A trip chain and its cursor (section 4.4). -/
structure Chain where
  legs : List Leg
  cursor : Nat
deriving DecidableEq, Repr

/-- Whole Wh and residue in Ws (section 6.3). -/
structure Integrator where
  wh : Int
  ws : Nat
deriving DecidableEq, Repr

inductive Origin where
  | cold | restored | locally
deriving DecidableEq, Repr

/-- The live session record (section 4.1). E is `Session.energy` (R106); the phase and WITHDRAWN are computed. -/
structure Session where
  busId : Nat
  origin : Origin
  cap : Nat
  floor : Nat
  e0 : Nat
  pAccept : Nat
  consent : Bool
  dischargeLimit : Nat
  chain : Chain
  need : Nat
  ask : Nat
  pledge : Nat
  dischargeable : Nat
  curtailable : Nat
  surplus : Int
  late : Bool
  atRisk : Bool
  imp : Integrator
  exp : Integrator
  resp : Integrator
  cumImp : Int
  cumExp : Int
  cumResp : Int
  sessions : Nat
  plugEpoch : Nat
deriving DecidableEq, Repr

/-- The own claim most recently built (R47, R68) and the epoch count at which it was built. -/
structure BuiltClaim where
  claim : Claim
  epoch : Nat
deriving DecidableEq, Repr

/-- The snapshot record (R108). -/
structure Snapshot where
  epoch : Nat
  tick : Nat
  live : Bool
  busId : Nat
  imp : Integrator
  exp : Integrator
  resp : Integrator
  energy : Nat
  grant : Nat
  target : Int
  applied : Int
  measured : Int
deriving DecidableEq, Repr

/-! ## Allotment (chapter 5) -/

/-- The latched input set (section 5.1). -/
structure AltInputs where
  peers : List PeerEntry
  own : Claim
  ownBay : Nat
  bayCount : Nat
  lEff : Nat
  fEff : PerFeeder
  origin : Nat
  epoch : Nat
deriving DecidableEq, Repr

/-- A computation in flight: its inputs, and the tick events it has seen (R75, log entry 10). -/
structure Flight where
  inputs : AltInputs
  ticks : Nat
deriving DecidableEq, Repr

structure Row where
  bay : Nat
  feeder : Nat
  grant : Nat
deriving DecidableEq, Repr

/-- The result table's one result (section 5.1). -/
structure AltResult where
  epoch : Nat
  origin : Nat
  rows : List Row
  service : Nat
  feeders : PerFeeder
deriving DecidableEq, Repr

/-- ALT (section 5.1): IN_FLIGHT while `flight` is present; `discard` is the discard mark, which R73 and R93 clear and R77 and
R78 set, and which stands in between (log entry 43). -/
structure Alt where
  flight : Option Flight
  discard : Bool
  result : Option AltResult
  grant : Nat
deriving DecidableEq, Repr

/-- A live claim in the passes (R82), with the grant it has so far. -/
structure Taker where
  bay : Nat
  feeder : Nat
  dep : Option Int
  need : Nat
  ask : Nat
  grant : Nat
deriving DecidableEq, Repr

/-- The working headroom H and h[0..3] (R81). -/
structure Headroom where
  service : Nat
  feeders : PerFeeder
deriving DecidableEq, Repr

/-! ## Stage line (chapter 6) -/

/-- Section 6.1, in the order that encodes them. -/
inductive Answer where
  | awaiting | answered | spoiled
deriving DecidableEq, Repr

/-- The stage line. `answer` is the answer state of the open exchange, none before the first exchange opens (R111);
`sent` is the SETPOINT record last sent. -/
structure Stg where
  seq : Nat
  answer : Option Answer
  applied : Int
  gap : Nat
  measured : Int
  volts : Nat
  isOpen : Bool
  meterLost : Bool
  stageFault : Bool
  sent : List Byte
deriving DecidableEq, Repr

/-! ## Grid reserve (chapter 7) -/

inductive BandPhase where
  | out | dwell | triggered | recover
deriving DecidableEq, Repr

/-- A band monitor (R115); `mark` is its contributing mark. -/
structure Band where
  phase : BandPhase
  count : Nat
  mark : Bool
deriving DecidableEq, Repr

structure Member where
  bay : Nat
  pledge : Nat
deriving DecidableEq, Repr

inductive Standing where
  | member | withdrawn | outside
deriving DecidableEq, Repr

/-- The reserve unit (section 7.1). `edgeSeen`: a rising edge has opened a period (R113). -/
structure Rsv where
  freq : Option Nat
  edgeSeen : Bool
  edgeWatch : Nat
  senseFault : Bool
  bands : List Band
  hostDemand : Nat
  hostDuration : Nat
  ownSeq : Nat
  active : Bool
  holder : Option Nat
  lastSeq : Nat
  dActive : Nat
  remaining : Nat
  refresh : Nat
  baseline : Nat
  members : List Member
  origin : Nat
  ownPledge : Nat
  standing : Option Standing
  share : Nat
  shareSum : Nat
  shortfall : Bool
deriving DecidableEq, Repr

/-! ## Parking (chapter 8) -/

/-- A context: what of a session is kept across bays (section 8.1). -/
structure Context where
  cap : Nat
  floor : Nat
  lastE : Nat
  chain : Chain
  cumImp : Int
  cumExp : Int
  cumResp : Int
  sessions : Nat
deriving DecidableEq, Repr

structure Rival where
  bay : Nat
  parked : Int
deriving DecidableEq, Repr

/-- What an OFFERED entry holds: its TAKEN-wait and its rival records. -/
structure OfferWait where
  wait : Nat
  rivals : List Rival
deriving DecidableEq, Repr

/-- A park table entry (section 8.1): OFFERED while `offered` is present, PARKED otherwise. -/
structure ParkEntry where
  busId : Nat
  parkedEpoch : Nat
  dayAge : Nat
  hold : Nat
  ctx : Context
  offered : Option OfferWait
deriving DecidableEq, Repr

structure Candidate where
  bay : Nat
  parked : Int
  ctx : Context
deriving DecidableEq, Repr

/-- The query state while QUERYING (section 8.3). -/
structure Query where
  busId : Nat
  countdown : Nat
  offers : Nat
  best : Option Candidate
deriving DecidableEq, Repr

/-- R158, in the order that encodes them. -/
inductive HandoverResult where
  | restored | cold | noCapacity | locally
deriving DecidableEq, Repr

structure Handover where
  result : HandoverResult
  busId : Nat
  epoch : Nat
  offerer : Nat
  offers : Nat
  lastE : Nat
deriving DecidableEq, Repr

/-- The window bus id, the window countdown and the offers heard that stand while the query state is IDLE (section 8.3, R149,
R151, R158; log entry 44). -/
structure WindowFigures where
  busId : Nat
  countdown : Nat
  offers : Nat
deriving DecidableEq, Repr

/-- PRK: QUERYING while `query` is present, and IDLE with the figures of `idle` otherwise. -/
structure Prk where
  entries : List ParkEntry
  query : Option Query
  idle : WindowFigures
  last : Option Handover
deriving DecidableEq, Repr

/-! ## Capture log (chapter 9) -/

/-- The 24 causes in order of their codes (section 9.2). -/
inductive Cause where
  | plugCold | plugRestored | plugLocal | unplug | legMissed | handoverOut | contextExpired | contextEvicted
  | eventTaken | eventChanged | eventEnded | withdrawn | atRisk | meterLost | stageFault | senseFault | isolated
  | dupBay | dupBus | clockAdopt | clockDisagree | mark | bayReset | linkCrc
deriving DecidableEq, Repr

inductive BankState where
  | empty | filling | full
deriving DecidableEq, Repr

/-- A stored record (section 9.1, R194). -/
structure LogRecord where
  seq : Nat
  epoch : Nat
  tick : Nat
  cause : Cause
  busId : Nat
  grant : Nat
  applied : Int
  measured : Int
  dActive : Nat
  energy : Nat
  detail : BitVec 32
deriving DecidableEq, Repr

structure Bank where
  state : BankState
  records : List LogRecord
deriving DecidableEq, Repr

/-- The capture log; `counters` holds the 24 counters in order of cause code, `mask` cause n at bit n − 1. -/
structure Log where
  a : Bank
  b : Bank
  seq : Nat
  counters : List Nat
  lost : Nat
  mask : BitVec 24
deriving DecidableEq, Repr

/-! ## Bay port (chapter 10) -/

/-- The notice flags, in the order of the flag table of section 10.5. -/
inductive Notice where
  | bankAFull | bankBFull | logOverflow | eventTaken | eventEnded | shortfall | withdrawn | handoverDone | legMissed
  | atRisk | late | meterLost | stageFault | senseFault | isolated | dupBay | dupBus | clockUnset | clockDisagree
  | limitDisagree
deriving DecidableEq, Repr

/-- R178, in the order that encodes them. -/
inductive Status where
  | ok | state | range | format
deriving DecidableEq, Repr

/-- A response record (R178, R193): `kind` 0 is READY. -/
structure Response where
  kind : Nat
  status : Status
  answer : Nat
  station : Station
  flags : BitVec 20
  payload : List Byte
deriving DecidableEq, Repr

structure Prt where
  response : Response
  answer : Nat
  flags : BitVec 20
  mask : BitVec 20
deriving DecidableEq, Repr

/-! ## The whole state -/

/-- The state of the block. `pending` is the queue of commands that wait and `choices` the counter that free values are
applied to: both are the model's own. -/
structure State where
  clk : Clk
  lnk : Lnk
  ptb : Ptb
  ses : Option Session
  lastClaim : Option BuiltClaim
  alt : Alt
  stg : Stg
  snap : Option Snapshot
  rsv : Rsv
  prk : Prk
  log : Log
  prt : Prt
  cfg : Option ConfigRecord
  pending : List Instr
  choices : Nat
deriving DecidableEq, Repr

/-- No rule stops the part, so no step ends in a fault: the type has no constructor, raised by nobody (safe). -/
inductive Fault where
deriving DecidableEq, Repr

/-- The refusals. -/
inductive Refusal where
  /-- A row of the table without a meaning yet; raised by `exec`'s refused arms alone, of which there is none (safe). -/
  | notModelled (mnemonic : String)
deriving DecidableEq, Repr

/-! ## The state after power-on reset -/

/-- R11. -/
def Clk.reset : Clk := { epoch := 0, tick := 0, set := false, disagree := none, tickOwed := false }

/-- R34; the line starts idle (DESIGN CHOICE, log entry 1). -/
def Lnk.reset : Lnk :=
  { station := .unconfigured, listening := 0, streak := 0, dupBay := false, queue := [], access := .notContending,
    lineIdle := true, armed := false }

/-- R49. -/
def Ptb.reset : Ptb := { entries := [], limitDisagree := false, dupBus := false }

/-- R93. -/
def Alt.reset : Alt := { flight := none, discard := false, result := none, grant := 0 }

/-- R111. -/
def Stg.reset : Stg :=
  { seq := 0, answer := none, applied := 0, gap := 0, measured := 0, volts := 0, isOpen := false, meterLost := false,
    stageFault := false, sent := [] }

/-- R139: a monitor OUT, count 0, no mark. -/
def Band.reset : Band := { phase := .out, count := 0, mark := false }

/-- R139. -/
def Rsv.reset : Rsv :=
  { freq := none, edgeSeen := false, edgeWatch := 0, senseFault := false,
    bands := [Band.reset, Band.reset, Band.reset, Band.reset], hostDemand := 0, hostDuration := 0, ownSeq := 0,
    active := false, holder := none, lastSeq := 0, dActive := 0, remaining := 0, refresh := 0, baseline := 0,
    members := [], origin := 0, ownPledge := 0, standing := none, share := 0, shareSum := 0, shortfall := false }

/-- No window has been open since power-on: no bus, nothing left to count, no offer heard (DESIGN CHOICE, log entry 44). -/
def WindowFigures.reset : WindowFigures := { busId := 0, countdown := 0, offers := 0 }

/-- R159. -/
def Prk.reset : Prk := { entries := [], query := none, idle := WindowFigures.reset, last := none }

/-- The full set of causes 1..21 (R164). -/
def Log.fullMask : BitVec 24 := 0x1FFFFF#24

/-- R175. -/
def Log.reset : Log :=
  { a := { state := .filling, records := [] }, b := { state := .empty, records := [] }, seq := 0,
    counters := List.replicate 24 0, lost := 0, mask := Log.fullMask }

/-- The flag CLOCK_UNSET alone: bit 17 of the notice flags. -/
def Prt.clockUnsetOnly : BitVec 20 := 0x20000#20

/-- R187: READY with reset cause POWER_ON (0), answer count 0, and CLOCK_UNSET the only flag. R187 and R193 give this record,
which answers no command, no status: OK is the model's choice (DESIGN CHOICE, log entry 45). -/
def Prt.reset : Prt :=
  { response := { kind := 0, status := .ok, answer := 0, station := .unconfigured, flags := Prt.clockUnsetOnly,
                  payload := [0#8] },
    answer := 0, flags := Prt.clockUnsetOnly, mask := 0#20 }

/-- The machine when power-on reset ends (R11, R34, R49, R71, R93, R111, R139, R159, R175, R187). -/
def State.reset : State :=
  { clk := Clk.reset, lnk := Lnk.reset, ptb := Ptb.reset, ses := none, lastClaim := none, alt := Alt.reset,
    stg := Stg.reset, snap := none, rsv := Rsv.reset, prk := Prk.reset, log := Log.reset, prt := Prt.reset, cfg := none,
    pending := [], choices := 0 }

end Sys2Proof.Machine
end

