-- ==== Sys2Proof/Machine/Ops.lean ====
section
/-!
DEFINITION. The named operations that the blocks share: updates of one block's state, the standing values that the spec
defines as functions of other state, and the standing rules that follow a change (R101, R132, R91).
-/

namespace Sys2Proof

def PerFeeder.get (p : PerFeeder) : Nat → Nat
  | 0 => p.f0
  | 1 => p.f1
  | 2 => p.f2
  | _ => p.f3

def PerFeeder.set (p : PerFeeder) (f x : Nat) : PerFeeder :=
  match f with
  | 0 => { p with f0 := x }
  | 1 => { p with f1 := x }
  | 2 => { p with f2 := x }
  | _ => { p with f3 := x }

/-- The value of `g` for each feeder. -/
def PerFeeder.of (g : Nat → Nat) : PerFeeder := { f0 := g 0, f1 := g 1, f2 := g 2, f3 := g 3 }

/-- The band table's entries in order. -/
def ConfigRecord.bands (c : ConfigRecord) : List BandCfg := [c.band0, c.band1, c.band2, c.band3]

end Sys2Proof

namespace Sys2Proof.Machine

/-! ## Updates of one field -/

def State.setClk (s : State) (x : Clk) : State := { s with clk := x }
def State.setLnk (s : State) (x : Lnk) : State := { s with lnk := x }
def State.setPtb (s : State) (x : Ptb) : State := { s with ptb := x }
def State.setSes (s : State) (x : Option Session) : State := { s with ses := x }
def State.setLastClaim (s : State) (x : Option BuiltClaim) : State := { s with lastClaim := x }
def State.setAlt (s : State) (x : Alt) : State := { s with alt := x }
def State.setStg (s : State) (x : Stg) : State := { s with stg := x }
def State.setSnap (s : State) (x : Option Snapshot) : State := { s with snap := x }
def State.setRsv (s : State) (x : Rsv) : State := { s with rsv := x }
def State.setPrk (s : State) (x : Prk) : State := { s with prk := x }
def State.setLog (s : State) (x : Log) : State := { s with log := x }
def State.setPrt (s : State) (x : Prt) : State := { s with prt := x }
def State.setCfg (s : State) (x : Option ConfigRecord) : State := { s with cfg := x }
def State.setPending (s : State) (x : List Instr) : State := { s with pending := x }
def State.setChoices (s : State) (x : Nat) : State := { s with choices := x }
/-! ## Computed views: accounts and sessions -/

/-- clamp(x, a, b) of 00_scope.md. -/
def clampInt (x a b : Int) : Int := if x < a then a else if b < x then b else x

/-- E = clamp(E0 + import whole Wh − export whole Wh, 0, C) (R106). -/
def Session.energy (v : Session) : Nat := (clampInt (v.e0 + v.imp.wh - v.exp.wh) 0 v.cap).toNat

/-- E, or 0 with no session live (R110). -/
def State.energy (s : State) : Nat := (s.ses.map Session.energy).getD 0

/-- The live session's bus, or 0 (R163). -/
def State.liveBus (s : State) : Nat := (s.ses.map Session.busId).getD 0

/-- A session is pending while PRK's query window for it is open (R50). -/
def State.isPending (s : State) : Bool := s.ses.isSome && s.prk.query.isSome

/-- A session is live and settled (R50). -/
def State.isSettled (s : State) : Bool := s.ses.isSome && !s.prk.query.isSome

/-- The cursor leg, where there is one (section 4.4). -/
def Chain.cursorLeg (c : Chain) : Option Leg := c.legs[c.cursor]?

/-- The station is ACTIVE or ISOLATED. -/
def State.isClaiming (s : State) : Bool := s.lnk.station == .active || s.lnk.station == .isolated

/-! ## Computed views: configuration and limits -/

def State.ownBay (s : State) : Nat := (s.cfg.map ConfigRecord.bayId).getD 0
def State.ownFeeder (s : State) : Nat := (s.cfg.map ConfigRecord.feeder).getD 0
def State.bayCount (s : State) : Nat := (s.cfg.map ConfigRecord.bayCount).getD 0
def State.ownService (s : State) : Nat := (s.cfg.map ConfigRecord.serviceLimit).getD 0
def State.ownLimit (s : State) (f : Nat) : Nat := (s.cfg.map fun c => c.limits.get f).getD 0
def State.rampStep (s : State) : Nat := (s.cfg.map ConfigRecord.rampStep).getD 0

/-- The event maximum in epochs, 30 to the minute (section 7.1). -/
def State.eventMaxEpochs (s : State) : Nat := (s.cfg.map fun c => c.eventMax * 30).getD 0

def PeerEntry.isLive (p : PeerEntry) : Bool := p.state == .live

/-- The held draw of an entry: max(drawn, 0) while STALE, none while LIVE (R40). -/
def PeerEntry.held (p : PeerEntry) : Nat := if p.isLive then 0 else p.claim.drawn.toNat

/-- The sum of the held draws of entries on feeder `f` (R40). -/
def heldOn (peers : List PeerEntry) (f : Nat) : Nat :=
  ((peers.filter fun p => p.claim.feeder == f).map PeerEntry.held).sum

/-- The sum of all held draws (R40). -/
def heldTotal (peers : List PeerEntry) : Nat := (peers.map PeerEntry.held).sum

/-- L_eff: the least of the own service limit and the LIVE entries' (R41); 0 without a configuration. -/
def State.lEff (s : State) : Nat :=
  (s.ptb.entries.filter PeerEntry.isLive).foldl (fun m p => min m p.claim.serviceLimit) s.ownService

/-- F_eff[f]: the least of the own F[f] and the feeder limits of LIVE entries that report feeder f (R41). -/
def State.fEff (s : State) (f : Nat) : Nat :=
  (s.ptb.entries.filter fun p => p.isLive && p.claim.feeder == f).foldl (fun m p => min m p.claim.feederLimit)
    (s.ownLimit f)

/-- floor(L_eff / bay count) (R33). -/
def State.fairShare (s : State) : Nat := s.lEff / s.bayCount

/-! ## Computed views: reserve -/

/-- P, the sum of the frozen pledges (R124). -/
def Rsv.pledgeSum (r : Rsv) : Nat := (r.members.map Member.pledge).sum

/-- floor(R × m / 100), m the largest response among the contributing bands, 0 when none contributes (R116). -/
def State.bandDemand (s : State) : Nat :=
  match s.cfg with
  | none => 0
  | some c =>
    c.commitment *
      ((c.bands.zip s.rsv.bands).foldl (fun m p => if p.2.mark then max m p.1.response else m) 0) / 100

/-- max(host demand, band demand) (R119). -/
def State.selfDemand (s : State) : Nat := max s.rsv.hostDemand s.bandDemand

/-- The session's WITHDRAWN flag: RSV's own standing is WITHDRAWN (R137). -/
def State.isWithdrawn (s : State) : Bool := s.rsv.standing == some .withdrawn

/-- The event target (R131), 0 while IDLE (R140). -/
def State.eventTarget (s : State) : Int :=
  if s.rsv.active then
    match s.ses with
    | none => 0
    | some v =>
      max ((s.rsv.baseline : Int) - s.rsv.share) (if v.consent then -(v.dischargeLimit : Int) else 0)
  else 0

/-! ## Computed views: target and setpoint (R100, R101) -/

/-- The first five rows of R100's table. -/
def State.forcedZero (s : State) : Bool :=
  !s.isClaiming || s.ses.isNone || s.isPending || s.stg.stageFault || s.stg.meterLost

/-- The lower bound: 0 in a forced-zero case and without consent, else −(discharge limit) (R100). -/
def State.lowerBound (s : State) : Int :=
  if s.forcedZero then 0
  else match s.ses with
    | none => 0
    | some v => if v.consent then -(v.dischargeLimit : Int) else 0

/-- The value R100's table selects, before it is bounded. -/
def State.selectedTarget (s : State) : Int :=
  if s.forcedZero then 0
  else if s.rsv.active then (if s.isWithdrawn then (s.rsv.baseline : Int) else s.eventTarget)
  else (s.alt.grant : Int)

/-- The target: never above the own grant, never below the lower bound (R100). -/
def State.target (s : State) : Int := clampInt s.selectedTarget s.lowerBound s.alt.grant

/-! ## Standing rules that follow a change -/

/-- R101 at this moment: the applied setpoint is 0 while OPEN is set, else kept between the lower bound and the target.
Every change of what they are computed from is followed by this. -/
def State.follow (s : State) : State :=
  s.setStg { s.stg with
    applied := if s.stg.isOpen then 0 else clampInt s.stg.applied s.lowerBound s.target }

/-- Sets the own grant, with it the baseline of an event in progress (R132), and lets the setpoint follow (R101). -/
def State.setGrant (s : State) (g : Nat) : State :=
  let s1 := s.setAlt { s.alt with grant := g }
  (if s1.rsv.active then s1.setRsv { s1.rsv with baseline := g } else s1).follow

/-- R91: while ISOLATED the own grant stays at or below the fair share. -/
def State.capIsolated (s : State) : State :=
  if s.lnk.station == .isolated then s.setGrant (min s.alt.grant s.fairShare) else s

/-- Replaces the live session record. -/
def State.modSes (s : State) (f : Session → Session) : State := s.setSes (s.ses.map f)

/-- Uses one stamp of the free values. -/
def State.bumpChoices (s : State) : State := s.setChoices (s.choices + 1)

/-- Rotation order (R80): bay ids o + 1, ..., 64, 1, ..., o. -/
def rotationOrder (o : Nat) : List Nat := (List.range 64).map fun k => (o + k) % 64 + 1

/-- `xs` in rotation order, each found by its bay id (R80, R129). -/
def inRotation {α : Type} (bay : α → Nat) (o : Nat) (xs : List α) : List α :=
  (rotationOrder o).filterMap fun b => xs.find? fun x => bay x == b

/-- A departure after a day rollover (R9). -/
def shiftDeparture (d : Int) : Int := max (d - 43200) Config.minDeparture

end Sys2Proof.Machine
end

