-- ==== Sys2Proof/Machine/Flags.lean ====
section
/-!
DEFINITION. The notice flags of PRT, the conditions they stand for, and ATTN (section 10.5).
-/

namespace Sys2Proof.Machine

/-- The position of a flag in the flag set (R190: the order of the table of section 10.5, BANK_A_FULL at bit 0). -/
def Notice.bit : Notice → Nat
  | .bankAFull => 0
  | .bankBFull => 1
  | .logOverflow => 2
  | .eventTaken => 3
  | .eventEnded => 4
  | .shortfall => 5
  | .withdrawn => 6
  | .handoverDone => 7
  | .legMissed => 8
  | .atRisk => 9
  | .late => 10
  | .meterLost => 11
  | .stageFault => 12
  | .senseFault => 13
  | .isolated => 14
  | .dupBay => 15
  | .dupBus => 16
  | .clockUnset => 17
  | .clockDisagree => 18
  | .limitDisagree => 19

/-- The flags of condition kind, from bit 9 on. -/
def conditionNotices : List Notice :=
  [.atRisk, .late, .meterLost, .stageFault, .senseFault, .isolated, .dupBay, .dupBus, .clockUnset, .clockDisagree,
   .limitDisagree]

/-- The flag alone, as a set. -/
def Notice.flag (n : Notice) : BitVec 20 := BitVec.twoPow 20 n.bit

/-- Whether a condition holds; an event flag has no condition (section 10.5). -/
def State.holds (s : State) : Notice → Bool
  | .atRisk => (s.ses.map Session.atRisk).getD false
  | .late => (s.ses.map Session.late).getD false
  | .meterLost => s.stg.meterLost
  | .stageFault => s.stg.stageFault
  | .senseFault => s.rsv.senseFault
  | .isolated => s.lnk.station == .isolated
  | .dupBay => s.lnk.dupBay
  | .dupBus => s.ptb.dupBus
  | .clockUnset => !s.clk.set
  | .clockDisagree => s.clk.disagree.isSome
  | .limitDisagree => s.ptb.limitDisagree
  | .bankAFull | .bankBFull | .logOverflow | .eventTaken | .eventEnded | .shortfall | .withdrawn | .handoverDone
  | .legMissed => false

/-- A block raises a notice: PRT sets its flag (R183). -/
def State.raise (s : State) (n : Notice) : State := s.setPrt { s.prt with flags := s.prt.flags ||| n.flag }

/-- The flags of the conditions among `ns` that hold. -/
def State.heldFlags (s : State) (ns : List Notice) : BitVec 20 :=
  ns.foldl (fun acc n => if s.holds n then acc ||| n.flag else acc) 0#20

/-- CLEAR_FLAGS (R184): the flags of `set` are cleared, but for those of conditions that hold. -/
def State.clearNotices (s : State) (set : BitVec 20) : State :=
  s.setPrt { s.prt with flags := s.prt.flags &&& ~~~(set &&& ~~~(s.heldFlags conditionNotices)) }

/-- ATTN is asserted while a flag that is set has its mask bit set (R186). -/
def State.attn (s : State) : Bool := decide (s.prt.flags &&& s.prt.mask ≠ 0#20)

end Sys2Proof.Machine
end

