-- ==== Sys2Proof/Machine/Log.lean ====
section
/-!
DEFINITION. The capture log: taking a capture (R161 to R167) and the banks' changes by command (R168, R169, R173).
-/

namespace Sys2Proof.Machine

/-- The cause codes of section 9.2. -/
def Cause.code : Cause → Nat
  | .plugCold => 1
  | .plugRestored => 2
  | .plugLocal => 3
  | .unplug => 4
  | .legMissed => 5
  | .handoverOut => 6
  | .contextExpired => 7
  | .contextEvicted => 8
  | .eventTaken => 9
  | .eventChanged => 10
  | .eventEnded => 11
  | .withdrawn => 12
  | .atRisk => 13
  | .meterLost => 14
  | .stageFault => 15
  | .senseFault => 16
  | .isolated => 17
  | .dupBay => 18
  | .dupBus => 19
  | .clockAdopt => 20
  | .clockDisagree => 21
  | .mark => 22
  | .bayReset => 23
  | .linkCrc => 24

/-- Whether R161 stores a capture of the cause: MARK and BAY_RESET always, LINK_CRC never, the others as the mask in force
says (R164). -/
def Log.enables (g : Log) (c : Cause) : Bool :=
  match c with
  | .mark | .bayReset => true
  | .linkCrc => false
  | _ => g.mask.getLsbD (c.code - 1)

/-- The counter of the cause advances and stays at 63 (R172). -/
def Log.count (g : Log) (c : Cause) : Log :=
  { g with counters := g.counters.modify (c.code - 1) fun n => min 63 (n + 1) }

/-- The record of a capture at this moment (R161 to R163, R165). `bus` is given by the causes that name a parked
context. -/
def State.record (s : State) (c : Cause) (detail : BitVec 32) (bus : Option Nat) : LogRecord :=
  { seq := s.log.seq, epoch := s.clk.epoch, tick := s.clk.tick, cause := c, busId := bus.getD s.liveBus,
    grant := s.alt.grant, applied := s.stg.applied, measured := s.stg.measured,
    dActive := if s.rsv.active then s.rsv.dActive else 0, energy := s.energy, detail := detail }

/-- An EMPTY bank begins filling; any other stays as it is (R166, R169). -/
def Bank.start (b : Bank) : Bank := if b.state == .empty then { b with state := .filling } else b

/-- A bank closed with the records it holds. -/
def Bank.closed (b : Bank) : Bank := { b with state := .full }

/-- The bank with a further record; the record that brings it to 12 closes it (R166). -/
def Bank.push (b : Bank) (r : LogRecord) : Bank :=
  { state := if b.records.length + 1 ≥ Config.bankRecords then .full else .filling, records := b.records ++ [r] }

def Log.nextSeq (g : Log) : Nat := (g.seq + 1) % 65536

/-- A record goes into the FILLING bank, which may fill and hand over to the other (R166); with no bank FILLING it is lost
(R167). -/
def State.store (s : State) (r : LogRecord) : State :=
  if s.log.a.state == .filling then
    let a := s.log.a.push r
    if a.state == .full then
      (s.setLog { s.log with a := a, b := s.log.b.start, seq := s.log.nextSeq }).raise .bankAFull
    else s.setLog { s.log with a := a, seq := s.log.nextSeq }
  else if s.log.b.state == .filling then
    let b := s.log.b.push r
    if b.state == .full then
      (s.setLog { s.log with b := b, a := s.log.a.start, seq := s.log.nextSeq }).raise .bankBFull
    else s.setLog { s.log with b := b, seq := s.log.nextSeq }
  else (s.setLog { s.log with lost := min 255 (s.log.lost + 1) }).raise .logOverflow

/-- LOG takes a capture (R161): it counts it, judges it against the mask in force, and stores or loses it. -/
def State.capture (s : State) (c : Cause) (detail : BitVec 32) (bus : Option Nat) : State :=
  let s1 := s.setLog (s.log.count c)
  if s1.log.enables c then s1.store (s1.record c detail bus) else s1

/-- A capture of the live session's bus with a whole number as detail. -/
def State.captureNat (s : State) (c : Cause) (detail : Nat) : State := s.capture c (BitVec.ofNat 32 detail) none

/-- Whether a bank is FILLING (R165). -/
def Log.anyFilling (g : Log) : Bool := g.a.state == .filling || g.b.state == .filling

/-- Whether CLOSE_BANK is taken (R169): the bank is FILLING with a record, the other EMPTY. -/
def canClose (bank other : Bank) : Bool := bank.state == .filling && !bank.records.isEmpty && other.state == .empty

/-- CLOSE_BANK once taken (R169). -/
def State.closeFilling (s : State) : State :=
  if canClose s.log.a s.log.b then
    (s.setLog { s.log with a := s.log.a.closed, b := s.log.b.start }).raise .bankAFull
  else (s.setLog { s.log with b := s.log.b.closed, a := s.log.a.start }).raise .bankBFull

/-- A released bank (R168): its records are discarded, and it fills at once where no bank is filling. -/
def releasedBank (other : Bank) : Bank :=
  { state := if other.state == .filling then .empty else .filling, records := [] }

/-- The bank named by a bank byte: A 0, B 1 (R193). -/
def Log.bank (g : Log) : Nat → Bank
  | 0 => g.a
  | _ => g.b

/-- RELEASE_BANK once taken (R168). -/
def State.releaseFull (s : State) (bank : Nat) : State :=
  if bank = 0 then s.setLog { s.log with a := releasedBank s.log.b }
  else s.setLog { s.log with b := releasedBank s.log.a }

end Sys2Proof.Machine
end

