-- ==== Sys2Proof/Machine/Peers.lean ====
section
/-!
DEFINITION. The peer table (chapter 3): writing and aging entries (R36, R38, R39), and the re-evaluation of the limits in
effect and of the two conditions (R41, R42, R43).
-/

namespace Sys2Proof.Machine

/-- Whether a LIVE entry reports limits that differ from the own configuration (R42). -/
def State.limitsDiffer (s : State) : Bool :=
  s.ptb.entries.any fun p =>
    p.isLive && (p.claim.serviceLimit != s.ownService || p.claim.feederLimit != s.ownLimit p.claim.feeder)

/-- The lowest bay whose LIVE entry reports the live session's bus (R43). -/
def State.busReporter (s : State) : Option Nat :=
  match s.ses with
  | none => none
  | some v => (s.ptb.entries.find? fun p => p.isLive && p.claim.busId == v.busId).map PeerEntry.bay

/-- LIMIT_DISAGREE is evaluated anew; its beginning raises its notice (R42). -/
def State.evalLimits (s : State) : State :=
  let s1 := s.setPtb { s.ptb with limitDisagree := s.limitsDiffer }
  if s.limitsDiffer && !s.ptb.limitDisagree then s1.raise .limitDisagree else s1

/-- DUP_BUS is evaluated anew; its beginning is captured and raises its notice (R43). -/
def State.evalDupBus (s : State) : State :=
  match s.busReporter with
  | none => s.setPtb { s.ptb with dupBus := false }
  | some bay =>
    let s1 := s.setPtb { s.ptb with dupBus := true }
    if s.ptb.dupBus then s1 else (s1.captureNat .dupBus bay).raise .dupBus

/-- What PTB does whenever its entries change (R36, R38, R41): the new limits in effect reach the cap of R91, then the two
conditions are evaluated. -/
def State.reevaluate (s : State) : State := s.capIsolated.evalLimits.evalDupBus

/-- An entry in its place by bay id, in place of one for the same bay (section 3.1). -/
def insertPeer (p : PeerEntry) : List PeerEntry → List PeerEntry
  | [] => [p]
  | q :: qs => if p.bay < q.bay then p :: q :: qs else if p.bay = q.bay then p :: qs else q :: insertPeer p qs

/-- d of R5: how far the sender's epoch count is ahead of the own, modulo a day. -/
def epochLead (own sender : Nat) : Nat := (sender + Config.dayEpochs - own) % Config.dayEpochs

/-- A claim's departure as stored (R36): brought into the own day where the sender has not yet rolled over. -/
def storedDeparture (own sender : Nat) (d : Option Int) : Option Int :=
  if 43195 ≤ epochLead own sender ∧ own < sender then d.map shiftDeparture else d

/-- PTB takes a CLAIM from bay `b` (R36); `own` is the own epoch count that R5 compared. -/
def State.takeClaim (s : State) (own b epoch : Nat) (c : Claim) : State :=
  let e : PeerEntry := { bay := b, epoch := epoch, claim := { c with dep := storedDeparture own epoch c.dep },
                         state := .live, silence := 0 }
  (s.setPtb { s.ptb with entries := insertPeer e s.ptb.entries }).reevaluate

/-- An entry one epoch boundary older (R38). -/
def PeerEntry.older (p : PeerEntry) : PeerEntry :=
  { p with silence := p.silence + 1, state := if p.silence + 1 ≥ Config.staleSilence then .stale else .live }

/-- The entries after an epoch boundary: each older, and those of silence 15 removed (R38). -/
def agedPeers (ps : List PeerEntry) : List PeerEntry :=
  (ps.map PeerEntry.older).filter fun p => decide (p.silence < Config.removalSilence)

/-- PTB at an epoch boundary (R38). -/
def State.ptbBoundary (s : State) : State :=
  (s.setPtb { s.ptb with entries := agedPeers s.ptb.entries }).reevaluate

/-- An entry after a day rollover (R39). -/
def PeerEntry.rolled (p : PeerEntry) : PeerEntry :=
  { p with claim := { p.claim with dep := p.claim.dep.map shiftDeparture } }

/-- PTB at a day rollover (R39). -/
def State.ptbRollover (s : State) : State :=
  s.setPtb { s.ptb with entries := s.ptb.entries.map PeerEntry.rolled }

end Sys2Proof.Machine
end

