-- ==== Sys2Proof/Machine/Allotment.lean ====
section
/-!
DEFINITION. The allotment engine (chapter 5): the computation over a latched input set (R80 to R89) and the engine's start,
completion, discard and abandonment (R73 to R79, R91).
-/

namespace Sys2Proof.Machine

/-! ## Preparation (R81, R82) -/

/-- The headroom before pass 1 (R81); subtraction of naturals stops at 0, as max(0, ...) does. -/
def AltInputs.headroom (i : AltInputs) : Headroom :=
  { service := i.lEff - heldTotal i.peers,
    feeders := PerFeeder.of fun f => i.fEff.get f - heldOn i.peers f }

/-- The ask used of a LIVE copy (R82): an ISOLATED peer is capped at the fair share. -/
def AltInputs.askUsed (i : AltInputs) (c : Claim) : Nat := if c.isolated then min c.ask (i.lEff / i.bayCount) else c.ask

/-- A LIVE copy as it enters the passes (R82). -/
def AltInputs.peerTaker (i : AltInputs) (p : PeerEntry) : Taker :=
  { bay := p.bay, feeder := p.claim.feeder, dep := p.claim.dep, need := min p.claim.need (i.askUsed p.claim),
    ask := i.askUsed p.claim, grant := 0 }

/-- The own claim as it enters the passes, as latched (R82). -/
def AltInputs.ownTaker (i : AltInputs) : Taker :=
  { bay := i.ownBay, feeder := i.own.feeder, dep := i.own.dep, need := i.own.need, ask := i.own.ask, grant := 0 }

/-- The live claims of a computation, in rotation order (R80, R82). -/
def AltInputs.takers (i : AltInputs) : List Taker :=
  inRotation Taker.bay i.origin (i.ownTaker :: (i.peers.filter PeerEntry.isLive).map i.peerTaker)

/-! ## The passes (R83 to R87) -/

/-- Whether `a` comes no later than `b` in departure order, NONE last (R83). -/
def departsBy (a b : Option Int) : Bool :=
  match a, b with
  | some x, some y => decide (x ≤ y)
  | some _, none => true
  | none, some _ => false
  | none, none => true

/-- `t` in its place in departure order, before those of equal departure (R83). -/
def insertByDeparture (t : Taker) : List Taker → List Taker
  | [] => [t]
  | u :: us => if departsBy t.dep u.dep then t :: u :: us else u :: insertByDeparture t us

/-- Departure order; equal departures keep the order they have in the list (R83). -/
def departureOrder (ts : List Taker) : List Taker := ts.foldr insertByDeparture []

/-- Headroom after `x` is taken on feeder `f`: from H and from h[f] together (R81). -/
def Headroom.use (h : Headroom) (f x : Nat) : Headroom :=
  { service := h.service - x, feeders := h.feeders.set f (h.feeders.get f - x) }

/-- One walk over claims in order: each takes `amount` of what those before it left. -/
def walk (amount : Taker → Headroom → Nat) : List Taker → Headroom → List Taker × Headroom
  | [], h => ([], h)
  | t :: ts, h =>
    let x := amount t h
    let rest := walk amount ts (h.use t.feeder x)
    ({ t with grant := t.grant + x } :: rest.1, rest.2)

/-- Pass 1: t = min(need used, H, h[f]) (R84). -/
def floorAmount (t : Taker) (h : Headroom) : Nat := min t.need (min h.service (h.feeders.get t.feeder))

/-- A claim's remainder r = ask used − grant (R85). -/
def Taker.remainder (t : Taker) : Nat := t.ask - t.grant

/-- A full round of pass 2: t = min(share, r, h[f]) (R85). -/
def shareAmount (share : Nat) (t : Taker) (h : Headroom) : Nat :=
  min share (min t.remainder (h.feeders.get t.feeder))

/-- The final round: one unit while H, r and h[f] are above 0 (R86). -/
def unitAmount (t : Taker) (h : Headroom) : Nat :=
  if 0 < h.service ∧ 0 < t.remainder ∧ 0 < h.feeders.get t.feeder then 1 else 0

/-- The number of eligible claims at the start of a round (R85). -/
def eligibleCount (ts : List Taker) (h : Headroom) : Nat :=
  (ts.filter fun t => decide (0 < t.remainder) && decide (0 < h.feeders.get t.feeder)).length

/-- Pass 2 in at most `fuel` rounds (R85, R86). -/
def fill : Nat → List Taker → Headroom → List Taker × Headroom
  | 0, ts, h => (ts, h)
  | fuel + 1, ts, h =>
    let n := eligibleCount ts h
    if n = 0 ∨ h.service = 0 then (ts, h)
    else if h.service / n = 0 then walk unitAmount ts h
    else
      let r := walk (shareAmount (h.service / n)) ts h
      fill fuel r.1 r.2

/-- The rounds within which pass 2 ends (R87). -/
def maxRounds : Nat := 65

/-- Both passes: floors by departure, then fill in rotation order. -/
def AltInputs.passes (i : AltInputs) : List Taker × Headroom :=
  let p1 := walk floorAmount (departureOrder i.takers) i.headroom
  fill maxRounds (inRotation Taker.bay i.origin p1.1) p1.2

def Taker.row (t : Taker) : Row := { bay := t.bay, feeder := t.feeder, grant := t.grant }

/-- The result that a latched set determines (R76, R88). -/
def AltInputs.result (i : AltInputs) : AltResult :=
  { epoch := i.epoch, origin := i.origin, rows := i.passes.1.map Taker.row, service := i.passes.2.service,
    feeders := i.passes.2.feeders }

/-- The row of a bay in a result (R45). -/
def AltResult.rowOf (r : AltResult) (bay : Nat) : Option Row := r.rows.find? fun w => w.bay == bay

/-! ## The engine -/

/-- The input set latched at this moment with the own claim just built (R73). -/
def State.altInputs (s : State) (own : Claim) : AltInputs :=
  { peers := s.ptb.entries, own := own, ownBay := s.ownBay, bayCount := s.bayCount, lEff := s.lEff,
    fEff := PerFeeder.of s.fEff, origin := s.clk.epoch % 64, epoch := s.clk.epoch }

/-- A computation starts: IN_FLIGHT, the discard mark cleared (R73). -/
def State.altStart (s : State) (own : Claim) : State :=
  s.setAlt { s.alt with flight := some { inputs := s.altInputs own, ticks := 0 }, discard := false }

/-- The discard mark is set on a computation in flight (R77, R78). -/
def State.altDiscard (s : State) : State :=
  s.setAlt { s.alt with discard := s.alt.discard || s.alt.flight.isSome }

/-- An epoch restart abandons a computation in flight (R79). -/
def State.altAbandon (s : State) : State := s.setAlt { s.alt with flight := none }

/-- The own row's grant in a result. -/
def AltInputs.ownGrant (i : AltInputs) : Nat := ((i.result.rowOf i.ownBay).map Row.grant).getD 0

/-- The completion (R75, R91): undisturbed, the result replaces the table and the own row the own grant, capped in
ISOLATED; marked for discard, the result is dropped. -/
def State.altComplete (s : State) : State :=
  match s.alt.flight with
  | none => s
  | some f =>
    let s1 := s.altAbandon
    if s.alt.discard then s1
    else
      let s2 := s1.setAlt { s1.alt with result := some f.inputs.result }
      s2.setGrant (if s2.lnk.station = .isolated then min f.inputs.ownGrant s2.fairShare else f.inputs.ownGrant)

/-- A computation in flight sees a tick event; the fifth completes it (R75, log entry 10). -/
def State.altTick (s : State) : State :=
  match s.alt.flight with
  | none => s
  | some f =>
    if f.ticks + 1 ≥ Config.completionTicks then s.altComplete
    else s.setAlt { s.alt with flight := some { f with ticks := f.ticks + 1 } }

end Sys2Proof.Machine
end

