-- ==== Sys2Proof/Machine/Link.lean ====
section
/-!
DEFINITION. The depot link interface (chapter 2): the transmit queue (R19 to R23), access to the line (R24 to R26), the
receive path's judgement of a frame (R14 to R17) and the station state (R28 to R32).
-/

namespace Sys2Proof.Machine

/-! ## The transmit queue -/

/-- The place of a frame in the queue (R20). -/
def keyOf : Frame → FrameKey
  | .claim _ => .claim
  | .event _ _ _ => .event
  | .query _ => .query
  | .offer o => .offer o.busId
  | .taken _ _ => .taken

/-- The rank of a kind, 0 the highest (R19). -/
def kindRank : FrameKey → Nat
  | .event => 0
  | .taken => 1
  | .offer _ => 2
  | .query => 3
  | .claim => 4

def QEntry.hasKey (k : FrameKey) (e : QEntry) : Bool := keyOf e.frame == k

/-- A frame as it enters the queue: attempt count 0, age 0 (R20). -/
def freshEntry (f : Frame) : QEntry := { frame := f, attempts := 0, age := 0 }

/-- The entry R19 chooses: of the highest kind with an entry below 12 attempts, the earliest such entry. -/
def chooseEntry (q : List QEntry) : Option QEntry :=
  (List.range 5).findSome? fun r =>
    q.find? fun e => decide (e.attempts < Config.maxAttempts) && kindRank (keyOf e.frame) == r

/-- The backoff in bit times (R24). -/
def backoffBits (bay attempts : Nat) : Nat := (bay * 5 + attempts * 11) % 64 * 8

/-- The access state that a choice made now leads to (R19, R24). -/
def accessChosen (l : Lnk) (bay : Nat) : Access :=
  match chooseEntry l.queue with
  | none => .notContending
  | some e => if l.lineIdle then .backoff (keyOf e.frame) (backoffBits bay e.attempts) else .waiting

def Access.isSending : Access → Bool
  | .sending _ _ _ => true
  | _ => false

/-- Makes the choice of R24 anew, but not during a transmission. -/
def State.rechoose (s : State) : State :=
  if s.lnk.access.isSending then s else s.setLnk { s.lnk with access := accessChosen s.lnk s.ownBay }

/-- R24 after the queue has changed at `k`: a backoff for another frame goes on; otherwise the choice is made anew. -/
def State.queueChanged (s : State) (k : FrameKey) : State :=
  match s.lnk.access with
  | .backoff k' _ => if k' = k then s.rechoose else s
  | _ => s.rechoose

/-- The queue with the entry at `k` replaced in its place by `f` (R20). -/
def replaceAt (q : List QEntry) (k : FrameKey) (f : Frame) : List QEntry :=
  q.map fun e => if e.hasKey k then freshEntry f else e

/-- The queue without the entry at `k`. -/
def removeAt (q : List QEntry) (k : FrameKey) : List QEntry := q.filter fun e => !e.hasKey k

/-- A block hands LNK a frame (R20, R21, R27). -/
def State.enqueue (s : State) (f : Frame) : State :=
  let k := keyOf f
  if s.lnk.station = .unconfigured then s
  else
    match s.lnk.access with
    | .sending k' bytes held =>
      if k' = k then s.setLnk { s.lnk with access := .sending k' bytes (some (.replace f)) }
      else if s.lnk.queue.any (QEntry.hasKey k) then s.setLnk { s.lnk with queue := replaceAt s.lnk.queue k f }
      else s.setLnk { s.lnk with queue := s.lnk.queue ++ [freshEntry f], access := .sending k' bytes held }
    | _ =>
      if s.lnk.queue.any (QEntry.hasKey k) then
        (s.setLnk { s.lnk with queue := replaceAt s.lnk.queue k f }).queueChanged k
      else (s.setLnk { s.lnk with queue := s.lnk.queue ++ [freshEntry f] }).queueChanged k

/-- A frame leaves the queue unsent, at the end of its transmission where it is being driven (R21, R23). -/
def State.dequeue (s : State) (k : FrameKey) : State :=
  match s.lnk.access with
  | .sending k' bytes _ =>
    if k' = k then s.setLnk { s.lnk with access := .sending k' bytes (some .remove) }
    else s.setLnk { s.lnk with queue := removeAt s.lnk.queue k }
  | _ => (s.setLnk { s.lnk with queue := removeAt s.lnk.queue k }).queueChanged k

/-- The removal of a TAKEN whose age has reached 4 (R23). Where that TAKEN is being driven and a removal or a replacement is
already held back, what is held stands: the replacement is a TAKEN of its own, whose age starts when it enters the queue at the
end of the transmission (R20, R21, log entry 46). -/
def State.expireTaken (s : State) : State :=
  match s.lnk.access with
  | .sending .taken _ (some _) => s
  | _ => s.dequeue .taken

/-! ## Station state -/

/-- Entry into ISOLATED (R31): the cap of R91 holds from this moment, then the capture and the notice. -/
def State.enterIsolated (s : State) : State :=
  ((s.setLnk { s.lnk with station := .isolated }).capIsolated.captureNat .isolated 0).raise .isolated

/-- An epoch counts as missed (R30): the streak rises to at most 8, and at 8 an ACTIVE station enters ISOLATED. -/
def State.missEpoch (s : State) : State :=
  let s1 := s.setLnk { s.lnk with streak := min Config.isolationStreak (s.lnk.streak + 1) }
  if s1.lnk.streak = Config.isolationStreak ∧ s1.lnk.station = .active then s1.enterIsolated else s1

/-- The listening countdown at an epoch boundary, and the end of the listening period (R28, R29). -/
def State.listeningBoundary (s : State) : State :=
  if s.lnk.listening ≤ 1 then
    let s1 := s.setLnk { s.lnk with listening := 0 }
    if s1.lnk.dupBay then s1.enterIsolated else (s1.setLnk { s1.lnk with station := .active }).follow
  else s.setLnk { s.lnk with listening := s.lnk.listening - 1 }

/-- Whether the frame at `k` is being driven. -/
def Access.drives (a : Access) (k : FrameKey) : Bool :=
  match a with
  | .sending k' _ _ => k' == k
  | _ => false

/-- Whether a replacement waits for the end of the transmission of the frame at `k` (R21). -/
def Access.replaces (a : Access) (k : FrameKey) : Bool :=
  match a with
  | .sending k' _ (some (.replace _)) => k' == k
  | _ => false

/-- What LNK does with the CLAIM held at an epoch boundary before the new claim comes (R22). A claim that is being driven stays,
and its epoch is judged by the end of its transmission; but a claim that an earlier boundary left waiting as its replacement is
still unsent, and gives way to the new one: its epoch counts as missed here (log entry 17). -/
def State.claimBoundary (s : State) : State :=
  if s.lnk.access.drives .claim then (if s.lnk.access.replaces .claim then s.missEpoch else s)
  else if s.lnk.queue.any (QEntry.hasKey .claim) then (s.dequeue .claim).missEpoch
  else s

/-- An entry at an epoch boundary: its attempt count returns to 0 (R22) and a TAKEN's age advances (R23). -/
def QEntry.boundary (e : QEntry) : QEntry :=
  { e with attempts := 0, age := if e.hasKey .taken then e.age + 1 else e.age }

/-- A TAKEN whose age has reached 4 (R23). -/
def QEntry.isExpired (e : QEntry) : Bool := e.hasKey .taken && decide (Config.takenLife ≤ e.age)

/-- LNK at an epoch boundary, up to the queuing of the new claim (R22, R23, R24, R28 to R31). -/
def State.lnkBoundary (s : State) : State :=
  let s1 := s.setLnk { s.lnk with queue := s.lnk.queue.map QEntry.boundary }
  let s2 := if s1.lnk.queue.any QEntry.isExpired then s1.expireTaken else s1
  let s3 := match s2.lnk.station with
    | .unconfigured => s2
    | .listening => s2.listeningBoundary
    | .active | .isolated => s2.claimBoundary
  s3.rechoose

/-! ## Access to the line -/

/-- The backoff runs out with the line idle: the station begins to drive the chosen frame, a CLAIM with the epoch count of
this moment (R18, R24). What it drives, and the fragment a collision leaves, it does not take (R14). The line is idle until its
next transition, which is LINE_BUSY (R14). -/
def State.beginDriving (s : State) : State :=
  match s.lnk.access with
  | .backoff k _ =>
    match s.lnk.queue.find? (QEntry.hasKey k) with
    | some e =>
      if s.lnk.lineIdle then
        s.setLnk { s.lnk with access := .sending k (e.frame.bytes s.ownBay s.clk.epoch) none, armed := false }
      else s
    | none => s
  | _ => s

/-- The queue when a transmission has ended with the frame sent (R21, R25). That a replacement which enters then has the time of
entry of the frame it replaces (R20), and so keeps its place among the OFFERs, is the model's choice (DESIGN CHOICE, log entry
50). -/
def queueAfterSent (q : List QEntry) (k : FrameKey) : Option Held → List QEntry
  | some (.replace f) => replaceAt q k f
  | _ => removeAt q k

/-- The queue when a transmission has ended in a collision (R21, R25, R26). -/
def queueAfterCollision (q : List QEntry) (k : FrameKey) : Option Held → List QEntry
  | some (.replace f) => replaceAt q k f
  | some .remove => removeAt q k
  | none => q.map fun e =>
      if e.hasKey k then { e with attempts := min Config.maxAttempts (e.attempts + 1) } else e

/-- The line's end of a transmission: the station drives no longer and contends again, at once where the line is idle (R24,
R25). -/
def State.stopDriving (s : State) (q : List QEntry) : State :=
  (s.setLnk { s.lnk with queue := q, access := .notContending }).rechoose

/-- A CLAIM has been sent: the streak is 0, and ISOLATED ends unless DUP_BAY holds (R30, R32). -/
def State.claimSent (s : State) : State :=
  s.setLnk { s.lnk with
    streak := 0,
    station := if s.lnk.station = .isolated ∧ s.lnk.dupBay = false then .active else s.lnk.station }

/-- The frame under way has been sent (R25). Its bits had transitions, so the line is busy (R14, R191). -/
def State.sentWhole (s : State) : State :=
  match s.lnk.access with
  | .sending k _ held =>
    let s1 := (s.setLnk { s.lnk with lineIdle := false }).stopDriving (queueAfterSent s.lnk.queue k held)
    if k = .claim then s1.claimSent else s1
  | _ => s

/-- The frame under way has collided (R25); a claim that a newer one replaces counts as missed (R22, log entry 16). Where no
transition came on the line since the station began to drive, the line is idle all the while (R14), and the wait for it is over as
it begins: a new backoff starts (R24). -/
def State.collided (s : State) : State :=
  match s.lnk.access with
  | .sending k _ held =>
    let s1 := s.stopDriving (queueAfterCollision s.lnk.queue k held)
    if k = .claim ∧ held.isSome then s1.missEpoch else s1
  | _ => s

/-- The line falls idle (R14, R24). -/
def State.lineFallsIdle (s : State) : State :=
  if s.lnk.access.isSending then s
  else
    let s1 := s.setLnk { s.lnk with lineIdle := true, armed := decide (s.lnk.station ≠ .unconfigured) }
    match s1.lnk.access with
    | .backoff _ _ => s1
    | _ => s1.rechoose

/-- The line becomes busy: a backoff is abandoned (R24). With the first transition after idle a frame begins, which the receive
path takes but where it is the one that the station itself drives (R14). -/
def State.lineGetsBusy (s : State) : State :=
  if s.lnk.access.isSending then s.setLnk { s.lnk with lineIdle := false, armed := false }
  else (s.setLnk { s.lnk with
    lineIdle := false
    armed := if s.lnk.lineIdle then decide (s.lnk.station ≠ .unconfigured) else s.lnk.armed }).rechoose

/-! ## The receive path -/

/-- The receive path takes frames: not in UNCONFIGURED, not while the station drives the line, and only frames that began
after the line was idle (R14). -/
def State.receives (s : State) : Bool :=
  decide (s.lnk.station ≠ .unconfigured) && s.lnk.armed && !s.lnk.access.isSending

/-- A frame is dropped and counted under LINK_CRC (R15, R17). -/
def State.dropFrame (s : State) : State := s.captureNat .linkCrc 0

/-- A frame with the own bay id as its sender (R16, R31). -/
def State.hearOwnBay (s : State) : State :=
  if s.lnk.dupBay then s
  else
    let s1 := ((s.setLnk { s.lnk with dupBay := true }).captureNat .dupBay 0).raise .dupBay
    if s1.lnk.station = .active then s1.enterIsolated else s1

/-- The judgement of a frame taken whole (R14 to R17): `fieldsOk` is R17's check of its fields, `deliver` the owning
block's rule. -/
def State.takeFrame (s : State) (sender : Nat) (fieldsOk : Bool) (deliver : State → State) : State :=
  if !s.receives then s
  else if !decide (1 ≤ sender ∧ sender ≤ 64) then s.dropFrame
  else if sender = s.ownBay then s.hearOwnBay
  else if fieldsOk then deliver s
  else s.dropFrame

end Sys2Proof.Machine
end

