-- ==== Sys2Proof/Machine/Reserve.lean ====
section
/-!
DEFINITION. The reserve unit (chapter 7): sensing (R113, R114), band monitors (R115 to R117), own EVENT frames (R119 to
R121), the receive rules (R122 to R128), shares (R129, R130), withdrawal (R135, R136) and the end of an event (R137).
-/

namespace Sys2Proof.Machine

/-! ## Shares (R129, R130) -/

/-- A member with the share computed for it so far. -/
structure MemberShare where
  bay : Nat
  pledge : Nat
  share : Nat
deriving DecidableEq, Repr

/-- The walk that hands out the leftover: one unit to each member whose share is below its pledge (R129). -/
def handOut : List MemberShare → Nat → List MemberShare
  | [], _ => []
  | m :: ms, left =>
    if m.share < m.pledge ∧ 0 < left then { m with share := m.share + 1 } :: handOut ms (left - 1)
    else m :: handOut ms left

/-- The shares of demand `d` over the frozen set in rotation order `o` (R129). -/
def memberShares (members : List Member) (o d : Nat) : List MemberShare :=
  let p := (members.map Member.pledge).sum
  let order := inRotation Member.bay o members
  if p = 0 then order.map fun m => { bay := m.bay, pledge := m.pledge, share := 0 }
  else if p ≤ d then order.map fun m => { bay := m.bay, pledge := m.pledge, share := m.pledge }
  else
    let floored := order.map fun m => ({ bay := m.bay, pledge := m.pledge, share := d * m.pledge / p } : MemberShare)
    handOut floored (d - (floored.map MemberShare.share).sum)

/-- The share of a bay among computed shares; 0 for a bay that is no member. -/
def shareOf (ms : List MemberShare) (bay : Nat) : Nat := ((ms.find? fun m => m.bay == bay).map MemberShare.share).getD 0

/-- A share computation (R129, R130): the own share, the share sum, SHORTFALL and its notice, and the target that follows.
`taking` says that it is the one at the taking. -/
def State.computeShares (s : State) (taking : Bool) : State :=
  let ms := memberShares s.rsv.members s.rsv.origin s.rsv.dActive
  let short := decide (s.rsv.pledgeSum < s.rsv.dActive)
  let s1 := s.setRsv { s.rsv with
    share := if s.rsv.standing = some .member then shareOf ms s.ownBay else 0
    shareSum := (ms.map MemberShare.share).sum
    shortfall := short }
  (if short && (taking || !s.rsv.shortfall) then s1.raise .shortfall else s1).follow

/-! ## Taking, changing and ending an event -/

/-- The own frozen pledge at the taking (R124). -/
def State.pledgeToFreeze (s : State) : Nat :=
  if s.isClaiming && s.isSettled then (s.lastClaim.map fun b => b.claim.pledge).getD 0 else 0

/-- The frozen pledge set at the taking: the own bay and every LIVE peer (R124). -/
def State.membersToFreeze (s : State) : List Member :=
  { bay := s.ownBay, pledge := s.pledgeToFreeze } ::
    (s.ptb.entries.filter PeerEntry.isLive).map fun p => { bay := p.bay, pledge := p.claim.pledge }

/-- The taking of an event (R123, R124, R77). -/
def State.takeEvent (s : State) (origin seq d remaining : Nat) : State :=
  let s1 := s.setRsv { s.rsv with
    active := true, holder := some origin, lastSeq := seq, dActive := d,
    remaining := min remaining s.eventMaxEpochs, baseline := s.alt.grant, origin := s.clk.epoch % 64,
    refresh := if origin = s.ownBay then Config.refreshPeriod else s.rsv.refresh,
    members := s.membersToFreeze, ownPledge := s.pledgeToFreeze,
    standing := some (if s.ses.isSome then .member else .outside) }
  ((s1.computeShares true).altDiscard.captureNat .eventTaken origin).raise .eventTaken

/-- A new demand for the event in progress: the shares anew from the frozen set, and EVENT_CHANGED (R126, R127). -/
def State.changeDemand (s : State) (origin d : Nat) : State :=
  ((s.setRsv { s.rsv with dActive := d }).computeShares false).captureNat .eventChanged origin

/-- A holder update (R126). -/
def State.holderUpdate (s : State) (origin seq d remaining : Nat) : State :=
  let s1 := s.setRsv { s.rsv with lastSeq := seq, remaining := remaining }
  if d = s.rsv.dActive then s1 else s1.changeDemand origin d

/-- A takeover (R127). -/
def State.takeOver (s : State) (origin seq d remaining : Nat) : State :=
  (s.setRsv { s.rsv with
    holder := some origin, lastSeq := seq, remaining := max s.rsv.remaining remaining }).changeDemand origin d

/-- The detail of EVENT_ENDED: the whole Wh of the response integrator, or 0 with no session (R137, R163). -/
def State.responseDetail (s : State) : BitVec 32 := BitVec.ofInt 32 ((s.ses.map fun v => v.resp.wh).getD 0)

/-- The end of an event by the countdown or the holder's release (R137). -/
def State.endEvent (s : State) : State :=
  let s1 := (s.capture .eventEnded s.responseDetail none).raise .eventEnded
  (s1.setRsv { s1.rsv with
    active := false, holder := none, dActive := 0, remaining := 0, refresh := 0, standing := none, share := 0,
    shareSum := 0, members := [], ownPledge := 0, origin := 0, shortfall := false, baseline := 0, hostDemand := 0,
    bands := s1.rsv.bands.map fun b => { b with mark := false } }).follow

/-- s is newer than t when (s − t) mod 256 lies in 1..127 (R122). -/
def isNewer (s t : Nat) : Bool :=
  let d := (s + 256 - t) % 256
  decide (1 ≤ d ∧ d ≤ 127)

/-- RSV judges an EVENT frame, a peer's or its own (R122, R128). -/
def State.judgeEvent (s : State) (origin seq d remaining : Nat) : State :=
  if s.rsv.active then
    if s.rsv.holder = some origin then
      if isNewer seq s.rsv.lastSeq then
        if d = 0 then s.endEvent else s.holderUpdate origin seq d remaining
      else s
    else if s.rsv.dActive < d then s.takeOver origin seq d remaining
    else s
  else if 0 < d then s.takeEvent origin seq d remaining
  else s

/-! ## Own EVENT frames (R119, R121) -/

/-- An own EVENT frame: the next own sequence, the refresh countdown at 5, the frame queued and applied to itself. -/
def State.sendEvent (s : State) (d remaining : Nat) : State :=
  let seq := (s.rsv.ownSeq + 1) % 256
  ((s.setRsv { s.rsv with ownSeq := seq, refresh := Config.refreshPeriod }).enqueue (.event seq d remaining)).judgeEvent
    s.ownBay seq d remaining

/-- The remaining epochs that an own frame of a changed self demand carries (R119). -/
def State.ownRemaining (s : State) : Nat :=
  if s.selfDemand = 0 then 0
  else if s.bandDemand ≤ s.rsv.hostDemand then s.rsv.hostDuration
  else s.eventMaxEpochs

/-- A change of the self demand: an own EVENT frame carries it (R119). -/
def State.sendDemand (s : State) : State := s.sendEvent s.selfDemand s.ownRemaining

/-- Whether the self demand changes from `before` to `after`: it does when either demand changes (R116, R119), be it the smaller
one. -/
def demandChanged (before after : State) : Bool :=
  after.rsv.hostDemand != before.rsv.hostDemand || after.bandDemand != before.bandDemand

/-! ## The grid (R113, R114) -/

/-- SENSE_FAULT begins, unless it is present (R114). -/
def State.beginSenseFault (s : State) : State :=
  if s.rsv.senseFault then s
  else ((s.setRsv { s.rsv with senseFault := true }).captureNat .senseFault 0).raise .senseFault

/-- The frequency of a period in mHz (R113). -/
def periodFrequency (interval : Nat) : Nat := 10000000000 / interval

/-- The range of measured frequencies (R113). -/
def inGridRange (f : Nat) : Bool := decide (45000 ≤ f ∧ f ≤ 65000)

/-- A rising edge of the grid sense input (R113, R114): it sets the edge watch to 0 and, but for the first edge, closes a
period. -/
def State.gridEdge (s : State) (interval : Nat) : State :=
  let s1 := s.setRsv { s.rsv with edgeWatch := 0, edgeSeen := true }
  if !s.rsv.edgeSeen then s1
  else if inGridRange (periodFrequency interval) then
    s1.setRsv { s1.rsv with freq := some (periodFrequency interval), senseFault := false }
  else s1.beginSenseFault

/-- Whether the next tick event brings the edge watch to its limit (R113). -/
def State.edgeWatchExpires (s : State) : Bool := decide (s.rsv.edgeWatch + 1 = Config.edgeWatchLimit)

/-- Whether the next tick event starts SENSE_FAULT: where the edge watch expires and the condition is absent (R114). -/
def State.senseFails (s : State) : Bool := s.edgeWatchExpires && !s.rsv.senseFault

/-- The edge watch at a tick event (R113, R114). -/
def State.watchEdges (s : State) : State :=
  let s1 := s.setRsv { s.rsv with edgeWatch := min Config.edgeWatchLimit (s.rsv.edgeWatch + 1) }
  if s.edgeWatchExpires then s1.beginSenseFault else s1

/-! ## Band monitors (R115 to R117) -/

/-- One step of an enabled monitor (R115). -/
def Band.step (b : Band) (c : BandCfg) (f : Nat) : Band :=
  let inBand := decide (c.low ≤ f ∧ f ≤ c.high)
  match b.phase with
  | .out => if inBand then { b with phase := .dwell, count := 0 } else b
  | .dwell =>
    if inBand then
      if b.count + 1 < c.dwell then { b with count := b.count + 1 }
      else { phase := .triggered, count := 0, mark := true }
    else { b with phase := .out, count := 0 }
  | .triggered => if inBand then b else { b with phase := .recover, count := 0 }
  | .recover =>
    if inBand then { b with phase := .triggered, count := 0 }
    else if b.count + 1 < c.recovery then { b with count := b.count + 1 }
    else { phase := .out, count := 0, mark := false }

/-- The monitors after a tick event (R115, R117): held while SENSE_FAULT holds, while there is no frequency, and where a
band is not enabled. -/
def State.steppedBands (s : State) : List Band :=
  match s.cfg, s.rsv.freq with
  | some c, some f =>
    if s.rsv.senseFault then s.rsv.bands
    else (c.bands.zip s.rsv.bands).map fun p => if p.1.enabled = 1 then p.2.step p.1 f else p.2
  | _, _ => s.rsv.bands

/-- RSV at a tick event: the monitors step, the band demand is recomputed and a change of it acted on (R116), then the
edge watch advances (log entry 15). -/
def State.rsvTick (s : State) : State :=
  let s1 := s.setRsv { s.rsv with bands := s.steppedBands }
  (if demandChanged s s1 then s1.sendDemand else s1).watchEdges

/-- Whether a tick event's monitor steps change a demand, so that the order of R103 and R105 matters. -/
def State.bandsMatter (s : State) : Bool :=
  s.steppedBands != s.rsv.bands && demandChanged s (s.setRsv { s.rsv with bands := s.steppedBands })

/-! ## Countdown and withdrawal -/

/-- The holder's refresh (R121). -/
def State.refreshBoundary (s : State) : State :=
  if s.rsv.refresh ≤ 1 then s.sendEvent s.rsv.dActive s.rsv.remaining
  else s.setRsv { s.rsv with refresh := s.rsv.refresh - 1 }

/-- Whether the event ends by the countdown at the next epoch boundary (R134). -/
def State.eventEnds (s : State) : Bool := s.rsv.active && decide (s.rsv.remaining ≤ 1)

/-- RSV's countdown at an epoch boundary (R134, R121). -/
def State.rsvCountdown (s : State) : State :=
  if !s.rsv.active then s
  else
    let s1 := s.setRsv { s.rsv with remaining := s.rsv.remaining - 1 }
    if s1.rsv.remaining = 0 then s1.endEvent
    else if s1.rsv.holder = some s1.ownBay then s1.refreshBoundary
    else s1

/-- A withdrawal (R135, R136). -/
def State.withdraw (s : State) : State :=
  ((s.setRsv { s.rsv with standing := some .withdrawn, share := 0 }).follow.captureNat .withdrawn 0).raise .withdrawn

/-- The withdrawal check's two tests (R135). -/
def State.mustWithdraw (s : State) : Bool :=
  match s.ses with
  | none => false
  | some v =>
    s.rsv.active && s.rsv.standing == some .member &&
      (decide (0 < v.need ∧ s.rsv.baseline ≤ v.need) || decide (s.stg.applied < 0 ∧ v.surplus ≤ 0))

/-- The withdrawal check at an epoch boundary (R135). -/
def State.withdrawalCheck (s : State) : State := if s.mustWithdraw then s.withdraw else s

/-- The session's end during an event (R136). -/
def State.rsvSessionEnd (s : State) : State :=
  if s.rsv.active && !s.isWithdrawn then s.withdraw else s

/-- A session begun during an event is OUTSIDE (R136). -/
def State.rsvSessionBegin (s : State) : State :=
  if s.rsv.active then (s.setRsv { s.rsv with standing := some .outside, share := 0 }).follow else s

end Sys2Proof.Machine
end

