-- ==== Sys2Proof/Machine/Session.lean ====
section
/-!
DEFINITION. The session unit (chapter 4): the missed-leg test (R59), readiness (R64 to R67), the own claim (R68, R69), the
chain at a rollover (R58), contexts (R52, R62) and the end of a session (R55, R62).
-/

namespace Sys2Proof.Machine

/-! ## Chains -/

/-- A chain at a day rollover (R58, R144): legs before the cursor that already stood at −43200 go, the others shift. -/
def Chain.rolled (c : Chain) : Chain :=
  let history := (c.legs.take c.cursor).filter fun l => decide (l.dep ≠ Config.minDeparture)
  { legs := (history ++ c.legs.drop c.cursor).map fun l => { l with dep := shiftDeparture l.dep },
    cursor := history.length }

/-- The leg at the cursor marked, and the cursor advanced (R59, R61). -/
def Chain.markCursor (c : Chain) (st : LegState) : Chain :=
  { legs := c.legs.modify c.cursor fun l => { l with state := st }, cursor := c.cursor + 1 }

/-- Required energies clamped to C (R52). -/
def Chain.clampTo (c : Chain) (cap : Nat) : Chain :=
  { c with legs := c.legs.map fun l => { l with req := min l.req cap } }

/-! ## Readiness (R65, R66) -/

/-- E_tgt and dep: the cursor leg's, or the floor and NONE (R65). -/
def Session.aim (v : Session) : Nat × Option Int :=
  match v.chain.cursorLeg with
  | some l => (l.req, some l.dep)
  | none => (v.floor, none)

/-- The shortfall S in Wh (R65). -/
def Session.shortfallWh (v : Session) : Nat := v.aim.1 - v.energy

/-- The taper knee K (R65). -/
def Session.knee (v : Session) : Nat := v.cap - v.cap / 10

/-- The ask (R65); with C pending at 0 it is 0. -/
def Session.askFigure (v : Session) : Nat :=
  if v.energy < v.knee then v.pAccept else v.pAccept * (v.cap - v.energy) / (v.cap - v.knee)

/-- T, the time to lead in seconds (R65). -/
def timeToLead (now lead : Nat) (dep : Int) : Int := (dep - now) * 2 - lead * 60

/-- The need before the cap (R65). -/
def Session.needFigure (v : Session) (now lead : Nat) : Nat :=
  match v.aim.2 with
  | none => 0
  | some dep =>
    let t := timeToLead now lead dep
    if v.shortfallWh = 0 then 0
    else if t ≤ 0 then v.askFigure
    else (v.shortfallWh * 36 + t.toNat - 1) / t.toNat

/-- LATE (R66). -/
def Session.lateFigure (v : Session) (now lead : Nat) : Bool :=
  match v.aim.2 with
  | none => false
  | some dep => decide (0 < v.shortfallWh) && decide (timeToLead now lead dep ≤ 0)

/-- The surplus U (R66). -/
def Session.surplusFigure (v : Session) : Int := (v.energy : Int) - max v.aim.1 v.floor

/-- The dischargeable power (R66). -/
def Session.dischargeFigure (v : Session) (dHold : Nat) : Nat :=
  if v.consent = false ∨ v.surplusFigure ≤ 0 then 0
  else min v.dischargeLimit (v.surplusFigure.toNat * 36 / dHold)

/-- The readiness computation (R65, R66) at epoch count `now`, with the own grant `grant` and the session's phase. -/
def Session.readied (v : Session) (c : ConfigRecord) (now grant : Nat) (pending : Bool) : Session :=
  let ask := v.askFigure
  let raw := v.needFigure now c.lead
  let need := min raw ask
  let late := v.lateFigure now c.lead
  let atRisk := decide (ask < raw)
  let dis := v.dischargeFigure c.dHold
  let cur := grant - need
  { v with
    need := need, ask := ask, late := late, atRisk := atRisk, surplus := v.surplusFigure, dischargeable := dis,
    curtailable := cur, pledge := if late || atRisk || pending then 0 else min 65535 (cur + dis) }

/-- Whether the cursor leg is past its departure window: dep + w × 30 < now (R59). -/
def Session.legIsPast (v : Session) (now window : Nat) : Bool :=
  match v.chain.cursorLeg with
  | none => false
  | some l => decide (l.dep + window * 30 < now)

/-- The cursor leg becomes MISSED, with its capture and notice (R59). -/
def State.missLeg (s : State) (v : Session) : State :=
  ((s.setSes (some { v with chain := v.chain.markCursor .missed })).captureNat .legMissed v.chain.cursor).raise .legMissed

/-- The missed-leg test, repeated at most `fuel` times (R59). -/
def State.missLegs (window : Nat) : Nat → State → State
  | 0, s => s
  | fuel + 1, s =>
    match s.ses with
    | none => s
    | some v => if v.legIsPast s.clk.epoch window then State.missLegs window fuel (s.missLeg v) else s

/-- The readiness computation's figures replace the record's, and AT_RISK and LATE begin where they were clear (R67). -/
def State.readySession (s : State) (c : ConfigRecord) : State :=
  match s.ses with
  | none => s
  | some v =>
    let w := v.readied c s.clk.epoch s.alt.grant s.isPending
    let s1 := s.setSes (some w)
    let s2 := if w.atRisk && !v.atRisk then (s1.captureNat .atRisk 0).raise .atRisk else s1
    if w.late && !v.late then s2.raise .late else s2

/-- SES tests the legs and computes readiness (R59, R64). -/
def State.sessionBoundary (s : State) : State :=
  match s.cfg with
  | none => s
  | some c => (s.missLegs c.window ((s.ses.map fun v => v.chain.legs.length).getD 0)).readySession c

/-! ## The own claim (R68, R69) -/

/-- The pledge that the claim carries (R69): during an event the own frozen pledge of a MEMBER, else 0. -/
def State.claimPledge (s : State) (v : Session) : Nat :=
  if s.isPending then 0
  else if s.rsv.active then (if s.rsv.standing = some .member then s.rsv.ownPledge else 0)
  else v.pledge

/-- The ask that the claim carries (R33, R69). -/
def State.claimAsk (s : State) (v : Session) : Nat :=
  let ask := if s.isPending then 0 else v.ask
  if s.lnk.station = .isolated then min ask s.fairShare else ask

/-- The need that the claim carries: in ISOLATED capped to the capped ask (R69). -/
def State.claimNeed (s : State) (v : Session) : Nat :=
  let need := if s.isPending then 0 else v.need
  if s.lnk.station = .isolated then min need (s.claimAsk v) else need

/-- The own claim as it stands at this moment (R68, R69). -/
def State.buildClaim (s : State) : Claim :=
  { feeder := s.ownFeeder
    busId := s.liveBus
    dep := s.ses.bind fun v => v.aim.2
    need := (s.ses.map s.claimNeed).getD 0
    ask := (s.ses.map s.claimAsk).getD 0
    pledge := (s.ses.map s.claimPledge).getD 0
    drawn := s.stg.measured
    grant := s.alt.grant
    serviceLimit := s.ownService
    feederLimit := s.ownLimit s.ownFeeder
    late := (s.ses.map Session.late).getD false
    atRisk := (s.ses.map Session.atRisk).getD false
    withdrawn := s.isWithdrawn
    isolated := s.lnk.station == .isolated
    inEvent := s.rsv.active }

/-- In ACTIVE and ISOLATED the own claim is built, queued, and latched where RSV is IDLE (R68, R73, R74). -/
def State.claimAndLatch (s : State) : State :=
  if s.isClaiming then
    let c := s.buildClaim
    let s1 := (s.setLastClaim (some { claim := c, epoch := s.clk.epoch })).enqueue (.claim c)
    if s1.rsv.active then s1 else s1.altStart c
  else s

/-- SES, and with it LNK's queue and ALT's latch, at an epoch boundary. -/
def State.sesBoundary (s : State) : State := s.sessionBoundary.claimAndLatch

/-! ## Contexts and the end of a session -/

/-- A sum held within the signed 32-bit range (R62). -/
def addInt32 (x y : Int) : Int := clampInt (x + y) (-2147483648) 2147483647

/-- The context of a session that ends (R62, R63, R72). -/
def Session.context (v : Session) : Context :=
  { cap := v.cap, floor := v.floor, lastE := v.energy, chain := v.chain, cumImp := addInt32 v.cumImp v.imp.wh,
    cumExp := addInt32 v.cumExp v.exp.wh, cumResp := addInt32 v.cumResp v.resp.wh, sessions := v.sessions }

/-- A session restored from a context (R52, R54): C and floor where PLUG gave 0, the chain, the totals, the sessions count
plus one; then E0, floor and the legs' energies are clamped to C. -/
def Session.restored (v : Session) (x : Context) (o : Origin) : Session :=
  let cap := if v.cap = 0 then x.cap else v.cap
  let floor := if v.floor = 0 then x.floor else v.floor
  { v with
    origin := o, cap := cap, floor := min floor cap, e0 := min v.e0 cap, chain := x.chain.clampTo cap,
    cumImp := x.cumImp, cumExp := x.cumExp, cumResp := x.cumResp, sessions := min 255 (x.sessions + 1) }

/-- The session's record is discarded and the other blocks act on its end (R62, R78, R136, R43). -/
def State.dropSession (s : State) : State := ((s.setSes none).altDiscard.setGrant 0).rsvSessionEnd.evalDupBus

/-- The detail of the first UNPLUG record (R163, R194): part marker 0 and the import Wh. -/
def unplugFirst (v : Session) : BitVec 32 := BitVec.ofNat 32 (clampInt v.imp.wh 0 2147483647).toNat

/-- The detail of the second UNPLUG record (R163, R194): part marker 1, export and response in units of 10 Wh. -/
def unplugSecond (v : Session) : BitVec 32 :=
  BitVec.ofNat 32 (2147483648 + (clampInt (v.exp.wh / 10) 0 32767).toNat * 65536 +
    ((clampInt (v.resp.wh / 10) (-32768) 32767) % 65536).toNat)

/-- The two UNPLUG captures, first part first (R62, R161). -/
def State.captureUnplug (s : State) (v : Session) : State :=
  (s.capture .unplug (unplugFirst v) none).capture .unplug (unplugSecond v) none

/-- The cursor leg is DONE where now lies in its departure window (R61). -/
def Session.legDone (v : Session) (now window : Nat) : Session :=
  match v.chain.cursorLeg with
  | none => v
  | some l =>
    if l.dep - window * 30 ≤ now ∧ (now : Int) ≤ l.dep + window * 30 then
      { v with chain := v.chain.markCursor .done }
    else v

end Sys2Proof.Machine
end

