-- ==== Sys2Proof/Machine/Parking.lean ====
section
/-!
DEFINITION. The park table and the handover (chapter 8): parking and eviction (R141, R142), restore (R145), the query window
(R146 to R151), answering a query (R153 to R157), and the rollover (R144).
-/

namespace Sys2Proof.Machine

/-! ## The park table -/

/-- The parked time: parked epoch count − 43200 × day age (R141). -/
def ParkEntry.parked (e : ParkEntry) : Int := (e.parkedEpoch : Int) - 43200 * e.dayAge

/-- The entry of a bus (R142: at most one). -/
def Prk.entryOf (k : Prk) (bus : Nat) : Option ParkEntry := k.entries.find? fun e => e.busId == bus

/-- The entries without a bus's. -/
def withoutBus (es : List ParkEntry) (bus : Nat) : List ParkEntry := es.filter fun e => e.busId != bus

/-- An entry that leaves OFFERED loses its queued OFFER (R142, R143, R145, R156, R157). -/
def State.dropOffer (s : State) (e : ParkEntry) : State := if e.offered.isSome then s.dequeue (.offer e.busId) else s

/-- The entry of a bus is removed, with its queued OFFER (R142, R145, R156). -/
def State.removePark (s : State) (bus : Nat) : State :=
  match s.prk.entryOf bus with
  | none => s
  | some e => (s.setPrk { s.prk with entries := withoutBus s.prk.entries bus }).dropOffer e

/-- With 4 entries held, the oldest is evicted and captured (R142). -/
def State.evictOldest (s : State) : State :=
  match s.prk.entries with
  | [] => s
  | e :: es =>
    if Config.parkEntries ≤ (e :: es).length then
      ((s.setPrk { s.prk with entries := es }).dropOffer e).capture .contextEvicted 0 (some e.busId)
    else s

/-- PRK parks a context at the newest end (R141, R142); `hold` is the park hold in epoch boundaries. -/
def State.park (s : State) (bus hold : Nat) (x : Context) : State :=
  let s1 := (s.removePark bus).evictOldest
  s1.setPrk { s1.prk with
    entries := s1.prk.entries ++
      [{ busId := bus, parkedEpoch := s1.clk.epoch, dayAge := 0, hold := hold, ctx := x, offered := none }] }

/-- The configured park hold in epoch boundaries, 1800 to the hour (R141). -/
def State.holdBoundaries (s : State) : Nat := (s.cfg.map fun c => c.parkHold * 1800).getD 0

/-! ## The query window -/

/-- The window opens with its QUERY (R146). -/
def State.openWindow (s : State) (bus : Nat) : State :=
  (s.setPrk { s.prk with
    query := some { busId := bus, countdown := Config.windowLength, offers := 0, best := none } }).enqueue (.query bus)

/-- What stands of a window once closed: its bus, countdown 0, the offers it heard (R149). -/
def Query.closed (q : Query) : WindowFigures := { busId := q.busId, countdown := 0, offers := q.offers }

/-- What stands of a window once cancelled: the offers heard are discarded, the bus and the countdown stand (R151, log entry
44). -/
def Query.cancelled (q : Query) : WindowFigures := { busId := q.busId, countdown := q.countdown, offers := 0 }

/-- The window ends, with its QUERY if still queued (R149, R151); `w` is what stands of it. -/
def State.endWindow (s : State) (w : WindowFigures) : State :=
  (s.setPrk { s.prk with query := none, idle := w }).dequeue .query

/-- A window that is open is cancelled (R151). -/
def State.cancelWindow (s : State) : State :=
  match s.prk.query with
  | none => s
  | some q => s.endWindow q.cancelled

/-- The last handover record (R158). -/
def State.recordHandover (s : State) (h : Handover) : State := s.setPrk { s.prk with last := some h }

/-- The close of a window with a candidate (R149, R54). -/
def State.closeRestored (s : State) (q : Query) (c : Candidate) : State :=
  let s1 := ((s.endWindow q.closed).modSes fun v => v.restored c.ctx .restored).enqueue (.taken q.busId c.bay)
  let s2 := (s1.raise .handoverDone).recordHandover
    { result := .restored, busId := q.busId, epoch := s1.clk.epoch, offerer := c.bay, offers := q.offers,
      lastE := c.ctx.lastE }
  s2.follow.captureNat .plugRestored c.bay

/-- The close of a window without a candidate: the session settles COLD, or ends where its capacity is unknown (R149, R54,
R55). -/
def State.closeCold (s : State) (q : Query) : State :=
  let known := decide ((s.ses.map Session.cap).getD 0 ≠ 0)
  let s1 := s.endWindow q.closed
  let s2 := (s1.raise .handoverDone).recordHandover
    { result := if known then .cold else .noCapacity, busId := q.busId, epoch := s1.clk.epoch, offerer := 0,
      offers := q.offers, lastE := 0 }
  let s3 := s2.follow.captureNat .plugCold 0
  if known then s3 else s3.dropSession

/-- Whether the window closes at the next epoch boundary without a candidate and without a capacity (R55, R149). -/
def State.closesForWant (s : State) : Bool :=
  match s.prk.query with
  | none => false
  | some q => decide (q.countdown ≤ 1) && q.best.isNone && decide ((s.ses.map Session.cap).getD 0 = 0)

/-- The window's countdown at an epoch boundary (R146, R149). -/
def State.windowBoundary (s : State) : State :=
  match s.prk.query with
  | none => s
  | some q =>
    if q.countdown ≤ 1 then
      match q.best with
      | some c => s.closeRestored q c
      | none => s.closeCold q
    else s.setPrk { s.prk with query := some { q with countdown := q.countdown - 1 } }

/-! ## Waits and holds -/

/-- An OFFERED entry whose TAKEN-wait ends at the next epoch boundary (R157). -/
def ParkEntry.waitEnds (e : ParkEntry) : Bool := (e.offered.map fun w => decide (w.wait ≤ 1)).getD false

/-- An entry's TAKEN-wait at an epoch boundary (R157). -/
def ParkEntry.waited (e : ParkEntry) : ParkEntry :=
  if e.waitEnds then { e with offered := none }
  else { e with offered := e.offered.map fun w => { w with wait := w.wait - 1 } }

/-- The TAKEN-waits at an epoch boundary: those that end lose their queued OFFER (R157). -/
def State.waitsBoundary (s : State) : State :=
  (s.prk.entries.filter ParkEntry.waitEnds).foldl (fun t e => t.dequeue (.offer e.busId))
    (s.setPrk { s.prk with entries := s.prk.entries.map ParkEntry.waited })

/-- An entry whose hold ends at the next epoch boundary (R143). -/
def ParkEntry.holdEnds (e : ParkEntry) : Bool := decide (e.hold ≤ 1)

/-- An expired entry's queued OFFER goes, and CONTEXT_EXPIRED is captured (R143). -/
def State.expireContext (s : State) (e : ParkEntry) : State :=
  (s.dropOffer e).capture .contextExpired 0 (some e.busId)

/-- The holds at an epoch boundary (R143). -/
def State.holdsBoundary (s : State) : State :=
  (s.prk.entries.filter ParkEntry.holdEnds).foldl State.expireContext
    (s.setPrk { s.prk with
      entries := (s.prk.entries.filter fun e => !e.holdEnds).map fun e => { e with hold := e.hold - 1 } })

/-- PRK at an epoch boundary: the window first, then the waits, then the holds, those that end together in parking order. R143,
R149, R157 and R161 name no order among these acts of one block and their captures: the order is the model's choice (DESIGN
CHOICE, log entry 48). -/
def State.prkBoundary (s : State) : State := s.windowBoundary.waitsBoundary.holdsBoundary

/-! ## Rollover (R144, R147, R155) -/

def Context.rolled (x : Context) : Context := { x with chain := x.chain.rolled }

def Rival.rolled (r : Rival) : Rival := { r with parked := r.parked - 43200 }

def ParkEntry.rolled (e : ParkEntry) : ParkEntry :=
  { e with dayAge := min 7 (e.dayAge + 1), ctx := e.ctx.rolled,
           offered := e.offered.map fun w => { w with rivals := w.rivals.map Rival.rolled } }

def Candidate.rolled (c : Candidate) : Candidate := { c with parked := c.parked - 43200, ctx := c.ctx.rolled }

/-- PRK at a day rollover. -/
def State.prkRollover (s : State) : State :=
  s.setPrk { s.prk with
    entries := s.prk.entries.map ParkEntry.rolled
    query := s.prk.query.map fun q => { q with best := q.best.map Candidate.rolled } }

/-! ## Offers -/

/-- The day shift k of R147 for q = parked epoch count − 43200 × day age. -/
def dayShift (own : Nat) (q : Int) : Int :=
  if (own : Int) < q then -1 else if (own : Int) - 43200 < q then 0 else 1

/-- q of R147. -/
def statedTime (o : Offer) : Int := (o.parkedEpoch : Int) - 43200 * o.dayAge

/-- An OFFER's parked time in the own day (R147). -/
def offerParked (own : Nat) (o : Offer) : Int := (statedTime o) + 43200 * dayShift own (statedTime o)

/-- The leg states by their codes (R190). -/
def legStateOf : Nat → LegState
  | 0 => .pending
  | 1 => .done
  | _ => .missed

def LegState.code : LegState → Nat
  | .pending => 0
  | .done => 1
  | .missed => 2

/-- A leg brought into the own day, held at −43200 (R147). -/
def convertLeg (k : Int) (l : RawLeg) : Leg :=
  { dep := max (l.dep + 43200 * k) Config.minDeparture, req := l.req, state := legStateOf l.state }

/-- An OFFER's chain in the own day: a leg past 86399 is discarded with every leg after it (R147). -/
def convertChain (own : Nat) (o : Offer) : Chain :=
  let legs := (o.legs.map (convertLeg (dayShift own (statedTime o)))).takeWhile fun l => decide (l.dep ≤ Config.maxDeparture)
  { legs := legs, cursor := min o.cursor legs.length }

/-- An OFFER's context in the own day (R147). -/
def convertOffer (own : Nat) (o : Offer) : Context :=
  { cap := o.cap, floor := o.floor, lastE := o.lastE, chain := convertChain own o, cumImp := o.cumImp,
    cumExp := o.cumExp, cumResp := o.cumResp, sessions := o.sessions }

/-- Whether a candidate replaces the best so far (R148). -/
def beatsBest (c : Candidate) : Option Candidate → Bool
  | none => true
  | some b => decide (b.parked < c.parked) || (decide (b.parked = c.parked) && decide (c.bay ≤ b.bay))

/-- An OFFER for the window's bus (R148). -/
def Query.hear (q : Query) (c : Candidate) : Query :=
  { q with offers := min 255 (q.offers + 1), best := if beatsBest c q.best then some c else q.best }

/-- A rival record in place of the bay's former one (R155). -/
def OfferWait.hear (w : OfferWait) (r : Rival) : OfferWait :=
  { w with rivals := w.rivals.filter (fun x => x.bay != r.bay) ++ [r] }

/-- PRK takes an OFFER: into the window open for its bus (R147, R148, R152), and as a rival of an OFFERED entry (R155). R146 says
that a window whose QUERY was never sent closes with no candidate, R148 that an OFFER which answers another station's QUERY is
recorded: that such an OFFER becomes the candidate of a window whose own QUERY was never sent too is the model's choice (DESIGN
CHOICE, log entry 58). -/
def State.takeOffer (s : State) (sender : Nat) (o : Offer) : State :=
  let parked := offerParked s.clk.epoch o
  let c : Candidate := { bay := sender, parked := parked, ctx := convertOffer s.clk.epoch o }
  s.setPrk { s.prk with
    query := s.prk.query.map fun q => if q.busId = o.busId then q.hear c else q
    entries := s.prk.entries.map fun e =>
      if e.busId = o.busId then { e with offered := e.offered.map fun w => w.hear { bay := sender, parked := parked } }
      else e }

/-- Whether a leg stands at −43200, so that an OFFER omits it (R153). -/
def Leg.isHeld (l : Leg) : Bool := decide (l.dep = Config.minDeparture)

/-- The OFFER of an entry (R153). -/
def ParkEntry.offer (e : ParkEntry) : Offer :=
  let ch := e.ctx.chain
  { busId := e.busId, parkedEpoch := e.parkedEpoch, dayAge := e.dayAge, cap := e.ctx.cap, floor := e.ctx.floor,
    lastE := e.ctx.lastE, cursor := ch.cursor - ((ch.legs.take ch.cursor).filter Leg.isHeld).length,
    cumImp := e.ctx.cumImp, cumExp := e.ctx.cumExp, cumResp := e.ctx.cumResp, sessions := e.ctx.sessions,
    legs := (ch.legs.filter fun l => !l.isHeld).map fun l => { dep := l.dep, req := l.req, state := l.state.code } }

/-- An entry OFFERED with a wait of 4, keeping the rivals it has (R153, R154). -/
def ParkEntry.offeredNow (e : ParkEntry) : ParkEntry :=
  { e with offered := some { wait := Config.takenWait, rivals := (e.offered.map OfferWait.rivals).getD [] } }

/-- PRK takes a QUERY (R153, R154). -/
def State.takeQuery (s : State) (bus : Nat) : State :=
  match s.prk.entryOf bus with
  | none => s
  | some e =>
    (s.setPrk { s.prk with entries := s.prk.entries.map fun x => if x.busId = bus then x.offeredNow else x }).enqueue
      (.offer e.offer)

/-- Whether an entry shows the chosen bay's copy to be no older (R156, second row). -/
def ParkEntry.yieldsTo (e : ParkEntry) (chosen : Nat) : Bool :=
  match e.offered with
  | none => false
  | some w => w.rivals.any fun r => r.bay == chosen && decide (e.parked ≤ r.parked)

/-- PRK takes a TAKEN (R156). -/
def State.takeTaken (s : State) (sender bus chosen : Nat) : State :=
  match s.prk.entryOf bus with
  | none => s
  | some e =>
    if chosen = s.ownBay then (s.removePark bus).capture .handoverOut (BitVec.ofNat 32 sender) (some bus)
    else if e.yieldsTo chosen then s.removePark bus
    else s

/-- Every OFFERED entry returns to PARKED (R159). -/
def State.withdrawOffers (s : State) : State :=
  s.setPrk { s.prk with entries := s.prk.entries.map fun e => { e with offered := none } }

end Sys2Proof.Machine
end

