-- ==== Sys2Proof/Machine/Stage.lean ====
section
/-!
DEFINITION. The stage line (R95 to R102) and the metering integrators (R104, R105) at a tick event, and the taking of a
MEASURE (R96, R99).
-/

namespace Sys2Proof.Machine

/-! ## The integrators (R104) -/

/-- The bounds of a signed 32-bit whole count. -/
def inInt32 (x : Int) : Bool := decide (-2147483648 ≤ x) && decide (x ≤ 2147483647)

/-- An integrator with an increment of `x` Ws: the whole count takes floor(s / 3600) of s = residue + x, the residue
s mod 3600; an increment that would pass the 32-bit range is not taken (R104). -/
def Integrator.add (i : Integrator) (x : Int) : Integrator :=
  let sum := (i.ws : Int) + x
  let wh := i.wh + sum / 3600
  if inInt32 wh then { wh := wh, ws := (sum % 3600).toNat } else i

/-- The response increment (R105): while RSV is ACTIVE and WITHDRAWN is clear. -/
def State.responseIncrement (s : State) (p : Int) : Int :=
  if s.rsv.active && !s.isWithdrawn then ((s.rsv.baseline : Int) - p) * 10 else 0

/-- MTR takes a tick event with the power STG hands it (R104, R107); with no live session it adds nothing. -/
def State.meter (s : State) (p : Int) : State :=
  s.modSes fun v => { v with
    imp := v.imp.add (if p > 0 then p * 10 else 0)
    exp := v.exp.add (if p < 0 then -p * 10 else 0)
    resp := v.resp.add (s.responseIncrement p) }

/-! ## The exchange -/

/-- METER_LOST begins (R98): the last measured power is 0, target and setpoint fall to 0, then the capture and notice. -/
def State.loseMeter (s : State) : State :=
  let s1 := (s.setStg { s.stg with meterLost := true, measured := 0 }).follow
  (s1.captureNat .meterLost 0).raise .meterLost

/-- STG closes the open exchange (R97): an exchange without an answer is a gap, and the fourth gap loses the meter. -/
def State.closeExchange (s : State) : State :=
  match s.stg.answer with
  | none | some .answered => s
  | some .awaiting | some .spoiled =>
    let s1 := s.setStg { s.stg with gap := min Config.lostGaps (s.stg.gap + 1) }
    if s.stg.gap + 1 = Config.lostGaps then s1.loseMeter else s1

/-- Whether the next close of an exchange brings the gap count to 4 (R97, R98). -/
def State.losesMeter (s : State) : Bool :=
  decide (s.stg.gap + 1 = Config.lostGaps) && (s.stg.answer == some .awaiting || s.stg.answer == some .spoiled)

/-- The setpoint after a tick's step (R102). -/
def State.stepped (s : State) : Int :=
  if s.stg.isOpen then 0
  else if s.stg.applied < s.target then min (s.stg.applied + s.rampStep) s.target
  else s.stg.applied

/-- STG opens the next exchange with the setpoint step taken, and sends its SETPOINT (R95, R102). -/
def State.openExchange (s : State) : State :=
  let seq := (s.stg.seq + 1) % 256
  s.setStg { s.stg with
    seq := seq, answer := some .awaiting, applied := s.stepped, sent := setpointRecord seq s.stepped }

/-- STG and MTR at a tick event (R95, R97, R104). -/
def State.stageTick (s : State) : State :=
  let s1 := s.closeExchange
  (s1.meter s1.stg.measured).openExchange

/-! ## MEASURE -/

/-- The flags of a taken MEASURE (R99). -/
def State.takeStageFlags (s : State) (m : Measure) : State :=
  let s1 := (s.setStg { s.stg with stageFault := m.fault, isOpen := m.isOpen }).follow
  if m.fault && !s.stg.stageFault then (s1.captureNat .stageFault 0).raise .stageFault else s1

/-- A MEASURE is taken (R96): it answers the exchange, and METER_LOST ends if it held (R98). -/
def State.takeMeasure (s : State) (m : Measure) : State :=
  (s.setStg { s.stg with
    answer := some .answered, measured := m.power, volts := m.volts, gap := 0, meterLost := false }).takeStageFlags m

/-- A MEASURE that passed the record checks is judged by its echoed sequence (R96): the open exchange's sequence answers it
once, the previous one's is late, any other spoils an exchange that awaits its answer; with no exchange open it is
discarded (R111). -/
def State.judgeMeasure (s : State) (m : Measure) : State :=
  match s.stg.answer with
  | some .awaiting =>
    if m.seq = s.stg.seq then s.takeMeasure m
    else if m.seq = (s.stg.seq + 255) % 256 then s
    else s.setStg { s.stg with answer := some .spoiled }
  | none | some .answered | some .spoiled => s

end Sys2Proof.Machine
end

