-- ==== Sys2Proof/Machine/Boundary.lean ====
section
/-!
DEFINITION. The depot clock and what the blocks do at its events: the tick event (R1), the local advance (R2), the epoch
restart (R3), the day rollover (R4, R9), and the max-sync rule on a claim (R5, R6).
-/

namespace Sys2Proof.Machine

/-! ## The epoch boundary -/

/-- The disagreement age at an epoch boundary (R6). -/
def Clk.aged (c : Clk) : Clk := { c with disagree := c.disagree.bind fun a => if a < 15 then some (a + 1) else none }

/-- The day rollover (R4, R9): the departures of the peer table (R39), the live session (R58) and the park table (R144). -/
def State.dayRollover (s : State) : State :=
  ((s.ptbRollover).modSes fun v => { v with chain := v.chain.rolled }).prkRollover

/-- RSV, SES, LNK's queue and ALT at an epoch boundary. Where the event ends by the countdown, the order of RSV and the
others is free (R134, log entry 2). -/
def State.reserveAndClaim (s : State) : State :=
  if s.eventEnds && !Config.rsvFirst s.choices then s.sesBoundary.rsvCountdown else s.rsvCountdown.sesBoundary

/-- RSV, SES, and the withdrawal check on SES's figures (R135). -/
def State.reserveAndSession (s : State) : State := s.reserveAndClaim.withdrawalCheck

/-- Those and PRK. Where the window closes for want of capacity, the order of PRK and the others is free (R149, log entry
12). -/
def State.sessionAndPark (s : State) : State :=
  if s.closesForWant && Config.prkFirst s.choices then s.prkBoundary.reserveAndSession else s.reserveAndSession.prkBoundary

/-- The blocks at an epoch boundary, the clock having moved: CLK's own count, the rollover where it is one (R60), PTB, LNK's
station state, at a restart the abandoning of a computation (R79), then RSV, SES and PRK (R64; log entries 11 to 14). -/
def State.boundary (rollover restart : Bool) (s : State) : State :=
  let s1 := s.setClk s.clk.aged
  let s2 := if rollover then s1.dayRollover else s1
  let s3 := s2.ptbBoundary.lnkBoundary
  let s4 := if restart then s3.altAbandon else s3
  s4.sessionAndPark.bumpChoices.follow

/-- The epoch count after the local advance (R2). -/
def nextEpoch (e : Nat) : Nat := (e + 1) % Config.dayEpochs

/-- Whether the local advance from `e` passes midnight (R4). -/
def endsDay (e : Nat) : Bool := decide (e + 1 = Config.dayEpochs)

/-- An epoch restart to `e` (R3): its boundary follows with `boundary`. A tick event still owed does not come any more: the
interval ends without one, and the next brings the tick to 1 (log entry 39). -/
def State.restartAt (s : State) (e : Nat) : State :=
  s.setClk { s.clk with epoch := e, tick := 0, tickOwed := false }

/-! ## The tick event -/

/-- Whether it matters at a tick event which of RSV and STG with MTR comes first: RSV's step changes a demand (R103, R105), or it
captures SENSE_FAULT, whose record reads the setpoint and E, and whose place beside METER_LOST is open (R161, R162). -/
def State.tickOrderMatters (s : State) : Bool := s.bandsMatter || s.senseFails

/-- What the blocks do at a tick event: STG and MTR, RSV, and a computation's fifth tick. The order of RSV and the others is
free where it matters (log entry 3). -/
def State.tickWork (s : State) : State :=
  let s1 := if s.tickOrderMatters && Config.rsvFirst s.choices then s.rsvTick.stageTick else s.stageTick.rsvTick
  s1.altTick.bumpChoices.follow

/-- The tick advances within the epoch (R1). -/
def State.tickWithin (s : State) : State := (s.setClk { s.clk with tick := s.clk.tick + 1 }).tickWork

/-- The clock's local advance (R2): tick 0 and the next epoch count, together (log entry 8). -/
def State.advanced (s : State) : State := s.setClk { s.clk with tick := 0, epoch := nextEpoch s.clk.epoch }

/-- The tick event whose boundary has been taken first: the tick falls to 0, and the tick's work follows (R2, log entry 7). -/
def State.tickOwing (s : State) : State := (s.setClk { s.clk with tick := 0, tickOwed := false }).tickWork

/-- A tick event (R1, R2): within the epoch; or the one whose boundary has been taken first; or the one that ends the epoch,
the tick's work first and then the boundary (log entry 7). -/
def State.tickEvent (s : State) : State :=
  if s.clk.tickOwed then s.tickOwing
  else if s.clk.tick + 1 < Config.epochTicks then s.tickWithin
  else s.advanced.tickWork.boundary (endsDay s.clk.epoch) false

/-- Whether the next tick event ends the epoch, its boundary not yet taken. -/
def State.boundaryDue (s : State) : Bool := decide (s.clk.tick + 1 = Config.epochTicks) && !s.clk.tickOwed

/-- The epoch boundary of the local advance taken before the tick event that completes with it (R2, log entry 7): the epoch
count advances, and the tick stands at 19 until that tick event, so that a SNAPSHOT between the two carries the tick value of its
side (R108). Without effect where none is due (log entry 5). -/
def State.epochBoundary (s : State) : State :=
  if s.boundaryDue then
    (s.setClk { s.clk with epoch := nextEpoch s.clk.epoch, tickOwed := true }).boundary (endsDay s.clk.epoch) false
  else s

/-- The boundary of the local advance, where one is due and the event named comes about at it (log entry 6). -/
def State.boundaryWhere (s : State) (arises : Bool) : State := if arises then s.epochBoundary else s

/-- The tick event, where the event named comes about at it (log entry 6). -/
def State.tickWhere (s : State) (arises : Bool) : State := if arises then s.tickEvent else s

/-! ## Following the peers (R5, R6) -/

/-- Adoption of a peer's epoch count: the clock moves, CLOCK_ADOPT is captured with the old count, and the boundary follows,
with a rollover where it passes midnight (R4, R5; log entry 22). -/
def State.adopt (s : State) (e : Nat) : State :=
  ((s.restartAt e).captureNat .clockAdopt s.clk.epoch).boundary (decide (e < s.clk.epoch)) true

/-- Disagreement (R6). -/
def State.disagreeWith (s : State) (sender : Nat) : State :=
  let s1 := s.setClk { s.clk with disagree := some 0 }
  if s.clk.disagree.isNone then (s1.captureNat .clockDisagree sender).raise .clockDisagree else s1

/-- The max-sync rule on a claim's epoch count (R5). -/
def State.maxSync (s : State) (sender e : Nat) : State :=
  let d := epochLead s.clk.epoch e
  if d = 0 then s
  else if d ≤ 5 then s.adopt e
  else if d ≤ 43194 then s.disagreeWith sender
  else s

/-- A CLAIM delivered: to CLK, then to PTB (R5, R17, R36). -/
def State.deliverClaim (s : State) (sender epoch : Nat) (c : Claim) : State :=
  (s.maxSync sender epoch).takeClaim s.clk.epoch sender epoch c

end Sys2Proof.Machine
end

