-- ==== Sys2Proof/Machine/Operands.lean ====
section
/-!
DEFINITION. The range checks of the operands: the field checks of received frames (R17, chapter 8), and the RANGE stage of
each command (R179), which answers the number of the first field or leg outside its range (R193).
-/

namespace Sys2Proof.Machine

/-- `n` lies in `a..b`. -/
def within (a n b : Nat) : Bool := decide (a ≤ n ∧ n ≤ b)

/-- The range of a departure (R190): NONE, or −43200..86399. -/
def departureOk : Option Int → Bool
  | none => true
  | some d => decide (Config.minDeparture ≤ d ∧ d ≤ Config.maxDeparture)

/-! ## Frames (R17) -/

def claimFieldsOk (epoch : Nat) (c : Claim) : Bool :=
  decide (epoch < Config.dayEpochs) && decide (c.feeder ≤ 3) && decide (c.busId ≤ 255) && departureOk c.dep

def eventFieldsOk (sender origin remaining : Nat) : Bool :=
  within 1 origin 64 && decide (origin = sender) && decide (remaining ≤ 3600)

def busFieldOk (bus : Nat) : Bool := within 1 bus 255

def takenFieldsOk (bus chosen : Nat) : Bool := busFieldOk bus && within 1 chosen 64

/-- The range of a usable capacity (section 4.1, chapter 8). -/
def capacityOk (c : Nat) : Bool := within 10000 c 1000000

/-- One leg of an OFFER, `i` its index (chapter 8): in the ranges, DONE or MISSED before the cursor, PENDING from it on. -/
def rawLegOk (cap cursor i : Nat) (l : RawLeg) : Bool :=
  departureOk (some l.dep) && decide (l.req ≤ cap) &&
    (if i < cursor then decide (l.state = 1 ∨ l.state = 2) else decide (l.state = 0))

/-- Departures that strictly ascend. -/
def ascending : List Int → Bool
  | [] => true
  | [_] => true
  | a :: b :: rest => decide (a < b) && ascending (b :: rest)

def offerFieldsOk (o : Offer) : Bool :=
  busFieldOk o.busId && decide (o.parkedEpoch < Config.dayEpochs) && decide (o.dayAge ≤ 7) && capacityOk o.cap &&
    decide (o.floor ≤ o.cap) && decide (o.lastE ≤ o.cap) && decide (o.legs.length ≤ 8) &&
    decide (o.cursor ≤ o.legs.length) && decide (o.sessions ≤ 255) && ascending (o.legs.map RawLeg.dep) &&
    (o.legs.mapIdx fun i l => rawLegOk o.cap o.cursor i l).all id

/-! ## The first field that fails (R179, R193) -/

/-- The number of the first field of the list that is outside its range. -/
def firstFail : List (Nat × Bool) → Option Nat
  | [] => none
  | (n, ok) :: rest => if ok then firstFail rest else some n

/-! ## CONFIGURE (section 10.3, R180) -/

/-- The range of a band limit (section 7.3). -/
def bandLimitOk (f : Nat) : Bool := within 45000 f 65000

/-- The six fields of a band entry, the first numbered `base`. Of a disabled entry only the enabled byte is checked; a low
not below its high fails the field high (log entry 24). -/
def bandChecks (base : Nat) (b : BandCfg) : List (Nat × Bool) :=
  let unread := decide (b.enabled = 0)
  [(base, unread || bandLimitOk b.low), (base + 1, unread || (bandLimitOk b.high && decide (b.low < b.high))),
   (base + 2, unread || decide (b.response ≤ 100)), (base + 3, unread || within 1 b.dwell 600),
   (base + 4, unread || within 1 b.recovery 6000), (base + 5, decide (b.enabled ≤ 1))]

/-- F[f], field 5 + f: 1 or more on the own feeder. -/
def limitCheck (r : ConfigRecord) (f : Nat) : Nat × Bool := (5 + f, decide (r.feeder ≠ f ∨ 1 ≤ r.limits.get f))

/-- The fields of a configuration record in layout order; the service limit, the commitment and the mask have no bound
beyond their width. -/
def configChecks (r : ConfigRecord) : List (Nat × Bool) :=
  [(1, within 1 r.bayId 64), (2, decide (r.feeder ≤ 3)), (3, within 1 r.bayCount 64), limitCheck r 0, limitCheck r 1,
   limitCheck r 2, limitCheck r 3, (9, within 1 r.chargerRating 32767), (10, decide (r.dischargeRating ≤ 32767)),
   (12, within 60 r.dHold 7200), (13, within 1 r.rampStep 500), (14, within 1 r.eventMax 120),
   (15, within 1 r.parkHold 24), (16, decide (r.lead ≤ 60)), (17, decide (r.window ≤ 60))] ++
  bandChecks 18 r.band0 ++ bandChecks 24 r.band1 ++ bandChecks 30 r.band2 ++ bandChecks 36 r.band3

/-! ## The session commands -/

def setTimeChecks (epoch : Nat) : List (Nat × Bool) := [(1, decide (epoch < Config.dayEpochs))]

/-- R51. P_accept and the discharge limit have no bound beyond their width. -/
def plugChecks (p : PlugFields) : List (Nat × Bool) :=
  [(1, busFieldOk p.busId), (2, decide (p.cap = 0) || capacityOk p.cap), (3, decide (p.e0 ≤ 1000000)),
   (4, decide (p.floor ≤ 1000000)), (6, decide (p.consent ≤ 1))]

/-- R56. -/
def vehicleChecks (consent : Nat) : List (Nat × Bool) := [(3, decide (consent ≤ 1))]

/-- The departure of a new leg (R57). -/
def newDeparture (l : NewLeg) : Int := (l.dayOffset * 43200 + l.minute * 30 : Nat)

/-- Whether a new leg stands in its ranges and after `prev`, with `kept` legs before it in the chain (R57). -/
def newLegOk (cap : Nat) (prev : Option Int) (kept : Nat) (l : NewLeg) : Bool :=
  decide (l.dayOffset ≤ 1) && decide (l.minute ≤ 1439) && decide (l.req ≤ cap) &&
    (prev.all fun d => decide (d < newDeparture l)) && decide (kept + 1 ≤ 8)

/-- The number of the first new leg that fails, `i` that of the first of the list (R57, R193). -/
def legFail (cap : Nat) : Option Int → Nat → Nat → List NewLeg → Option Nat
  | _, _, _, [] => none
  | prev, kept, i, l :: ls =>
    if newLegOk cap prev kept l then legFail cap (some (newDeparture l)) (kept + 1) (i + 1) ls else some i

/-- The legs that CHAIN_LOAD keeps (R57). -/
def Chain.kept (c : Chain) : List Leg := c.legs.take c.cursor

/-- The RANGE stage of CHAIN_LOAD: 0 for a leg count above 8, else the first leg that fails (R57, R193). -/
def chainFail (v : Session) (ls : List NewLeg) : Option Nat :=
  if 8 < ls.length then some 0
  else legFail v.cap (v.chain.kept.getLast?.map Leg.dep) v.chain.kept.length 1 ls

/-- The chain that CHAIN_LOAD leaves (R57). -/
def Chain.load (c : Chain) (ls : List NewLeg) : Chain :=
  { legs := c.kept ++ ls.map fun l => { dep := newDeparture l, req := l.req, state := .pending }, cursor := c.cursor }

/-! ## The log and the peer table -/

/-- A bank byte: A 0, B 1 (R168, R170). -/
def bankOk (bank : Nat) : Bool := decide (bank ≤ 1)

/-- R170: the index is checked against 0..11 and against the named bank's record count. -/
def readLogChecks (bank index count : Nat) : List (Nat × Bool) :=
  [(1, bankOk bank), (2, decide (index ≤ 11) && decide (index < count))]

/-- R46; a selector that is neither index nor bay is field 1 (R179). -/
def peerIndexChecks (selector index count : Nat) : List (Nat × Bool) :=
  [(1, decide (selector = 0)), (2, decide (index ≤ 62) && decide (index < count))]

/-- R47. -/
def peerBayChecks (bay : Nat) : List (Nat × Bool) := [(2, within 1 bay 64)]

end Sys2Proof.Machine
end

