-- ==== Sys2Proof/Machine/Report.lean ====
section
/-!
DEFINITION. What the responses of the bay port carry: the payload of each command and of each refusal (R193), and the bytes
of a response record (R178). A figure for which the spec states no value is a free value (log entry 26).
-/

namespace Sys2Proof.Machine

/-! ## Codes (R190: the position in the list where the owning chapter gives the values) -/

def Station.code : Station → Nat
  | .unconfigured => 0
  | .listening => 1
  | .active => 2
  | .isolated => 3

def Status.code : Status → Nat
  | .ok => 0
  | .state => 1
  | .range => 2
  | .format => 3

def BankState.code : BankState → Nat
  | .empty => 0
  | .filling => 1
  | .full => 2

def Origin.code : Origin → Nat
  | .cold => 0
  | .restored => 1
  | .locally => 2

def BandPhase.code : BandPhase → Nat
  | .out => 0
  | .dwell => 1
  | .triggered => 2
  | .recover => 3

def HandoverResult.code : HandoverResult → Nat
  | .restored => 0
  | .cold => 1
  | .noCapacity => 2
  | .locally => 3

/-- The code of a value of none that its list does not name (R190). -/
def noneCode : Nat := 255

/-- The answer state; none before the first exchange (log entry 27). -/
def answerCode : Option Answer → Nat
  | none => noneCode
  | some .awaiting => 0
  | some .answered => 1
  | some .spoiled => 2

/-- The own standing; none while IDLE (log entry 27). -/
def standingCode : Option Standing → Nat
  | none => noneCode
  | some .member => 0
  | some .withdrawn => 1
  | some .outside => 2

/-- The filling bank: A 0, B 1, none 255 (log entry 27). -/
def fillingCode (g : Log) : Nat :=
  if g.a.state = .filling then 0 else if g.b.state = .filling then 1 else noneCode

/-- The session's presence: NONE 0, PENDING 1, SETTLED 2 (R70, log entry 28). -/
def State.presenceCode (s : State) : Nat := if s.ses.isNone then 0 else if s.isPending then 1 else 2

/-! ## The response record -/

/-- The header's seven bytes (R193). -/
def Response.header (r : Response) : List Byte :=
  u8 r.kind ++ u8 r.status.code ++ u8 r.answer ++ u8 r.station.code ++ u24 r.flags.toNat

/-- A response record's bytes. -/
def Response.bytes (r : Response) : List Byte := r.header ++ r.payload

/-! ## Refusals and the short payloads -/

/-- The payload of STATE: the session's presence and both banks' states (R193). -/
def State.statePayload (s : State) : List Byte :=
  u8 s.presenceCode ++ u8 s.log.a.state.code ++ u8 s.log.b.state.code

/-- The payload of FORMAT: the kind byte received and the count of whole bytes, saturating at 511 (R179). -/
def formatPayload (bytes : List Byte) : List Byte := bytes.take 1 ++ u16 (min 511 bytes.length)

/-- The payload of PLUG: presence, C, E0, floor, P_accept and the discharge limit as held. -/
def State.plugPayload (s : State) : List Byte :=
  u8 s.presenceCode ++
    match s.ses with
    | none => List.replicate 16 0#8
    | some v => u32 v.cap ++ u32 v.e0 ++ u32 v.floor ++ u16 v.pAccept ++ u16 v.dischargeLimit

/-- The payload of VEHICLE_UPDATE. -/
def State.vehiclePayload (s : State) : List Byte :=
  match s.ses with
  | none => List.replicate 5 0#8
  | some v => u16 v.pAccept ++ u16 v.dischargeLimit ++ yesNo v.consent

/-- The payload of CLOSE_BANK and RELEASE_BANK. -/
def State.banksPayload (s : State) : List Byte :=
  u8 s.log.a.state.code ++ u8 s.log.a.records.length ++ u8 s.log.b.state.code ++ u8 s.log.b.records.length

/-- A stored record's 23 bytes (R194). -/
def LogRecord.bytes (r : LogRecord) : List Byte :=
  u16 r.seq ++ u16 r.epoch ++ u8 r.tick ++ u8 r.cause.code ++ u8 r.busId ++ u16 r.grant ++ i16 r.applied ++
    i16 r.measured ++ u16 r.dActive ++ u32 r.energy ++ u32 r.detail.toNat

/-- The payload of READ_LOG: the bank's state and count, and its record at the index (R170). -/
def State.logPayload (s : State) (bank index : Nat) : List Byte :=
  u8 (s.log.bank bank).state.code ++ u8 (s.log.bank bank).records.length ++
    (((s.log.bank bank).records[index]?).map LogRecord.bytes).getD []

/-- The payload of MARK in the state before it: whether the record is lost, else its seq, epoch and tick (R171). -/
def State.markPayload (s : State) : List Byte :=
  if s.log.anyFilling then yesNo false ++ u16 s.log.seq ++ u16 s.clk.epoch ++ u8 s.clk.tick
  else
    yesNo true ++ u16 (Config.unreported 1 s.choices) ++ u16 (Config.unreported 2 s.choices) ++
      u8 (Config.unreported 3 s.choices)

/-! ## READ_SESSION (R70) -/

def Leg.bytes (l : Leg) : List Byte := i24 l.dep ++ u24 l.req ++ u8 l.state.code

/-- What the session is: bus, origin, plug time and the vehicle's energies. -/
def Session.vehicleBytes (v : Session) : List Byte :=
  u8 v.busId ++ u8 v.origin.code ++ u16 v.plugEpoch ++ u32 v.cap ++ u32 v.floor ++ u32 v.e0 ++ u32 v.energy

/-- What it is asked and offers: limits, flags, the chain's extent and the readiness figures. -/
def State.readinessBytes (s : State) (v : Session) : List Byte :=
  u16 v.pAccept ++ u16 v.dischargeLimit ++ u8 (flagBits [v.late, v.atRisk, s.isWithdrawn, v.consent]) ++
    u8 v.chain.legs.length ++ u8 v.chain.cursor ++ u16 v.need ++ u16 v.ask ++ u16 v.pledge ++ u16 v.dischargeable ++
    u16 v.curtailable

/-- What it has carried: the accounts and the totals. -/
def Session.totalsBytes (v : Session) : List Byte :=
  i32 v.imp.wh ++ i32 v.exp.wh ++ i32 v.resp.wh ++ i32 v.cumImp ++ i32 v.cumExp ++ i32 v.cumResp ++ u8 v.sessions

/-- The fields of a live session after its presence. -/
def State.liveSessionBytes (s : State) (v : Session) : List Byte :=
  v.vehicleBytes ++ s.readinessBytes v ++ v.totalsBytes ++ v.chain.legs.flatMap Leg.bytes

/-- The payload of READ_SESSION; with presence NONE every other field reads 0. -/
def State.sessionPayload (s : State) : List Byte :=
  u8 s.presenceCode ++
    match s.ses with
    | none => List.replicate 62 0#8
    | some v => s.liveSessionBytes v

/-! ## READ_PEER (R45 to R47) -/

/-- The claim fields of a bay of which nothing is held: all 0, with departure NONE (R45). -/
def emptyClaim : Claim :=
  { feeder := 0, busId := 0, dep := none, need := 0, ask := 0, pledge := 0, drawn := 0, grant := 0, serviceLimit := 0,
    feederLimit := 0, late := false, atRisk := false, withdrawn := false, isolated := false, inEvent := false }

/-- The own claim that a station with no session and no claim built reports (R47): drawn, grant and limits 0, and the own
feeder. -/
def State.idleClaim (s : State) : Claim := { emptyClaim with feeder := s.ownFeeder }

/-- The own claim most recently built, or that of a station with no session (R47). -/
def State.ownClaim (s : State) : Claim := (s.lastClaim.map BuiltClaim.claim).getD s.idleClaim

/-- The bay's row in the result table, with the latch epoch (R45). -/
def State.rowOf (s : State) (bay : Nat) : Option (Row × Nat) :=
  s.alt.result.bind fun r => (r.rowOf bay).map fun w => (w, r.epoch)

/-- The result part: present, grant, feeder and latch epoch. -/
def resultFields (present : Bool) (grant feeder epoch : Nat) : List Byte :=
  yesNo present ++ u16 grant ++ u8 feeder ++ u16 epoch

/-- The result part of a peer's bay: its row, where the result table has one (R45). -/
def State.resultPart (s : State) (bay : Nat) : List Byte :=
  match s.rowOf bay with
  | some (w, e) => resultFields true w.grant w.feeder e
  | none =>
    resultFields false (Config.unreported 4 s.choices) (Config.unreported 5 s.choices) (Config.unreported 6 s.choices)

/-- The result part of the own bay: the own grant in effect and the own feeder, whether or not the result table has the own row
(R47, R88); without one no latch epoch is stated (log entry 26). -/
def State.ownResultPart (s : State) : List Byte :=
  resultFields (s.rowOf s.ownBay).isSome s.alt.grant s.ownFeeder
    (((s.rowOf s.ownBay).map Prod.snd).getD (Config.unreported 6 s.choices))

/-- The counts that end each READ_PEER payload. -/
def State.peerCounts (s : State) : List Byte :=
  u8 s.ptb.entries.length ++ u8 (s.ptb.entries.filter PeerEntry.isLive).length

/-- The payload of READ_PEER for a stored entry: presence LIVE 0 or STALE 1. -/
def State.entryPayload (s : State) (p : PeerEntry) : List Byte :=
  u8 (if p.isLive then 0 else 1) ++ u8 p.bay ++ u16 p.epoch ++ p.claim.bytes ++ u8 p.silence ++ u16 p.held ++
    s.resultPart p.bay ++ s.peerCounts

/-- The payload of READ_PEER for a bay without an entry: presence ABSENT 2. -/
def State.absentPayload (s : State) (bay : Nat) : List Byte :=
  u8 2 ++ u8 bay ++ u16 0 ++ emptyClaim.bytes ++ u8 0 ++ u16 0 ++ s.resultPart bay ++ s.peerCounts

/-- The payload of READ_PEER for the own bay: presence OWN 3, the claim most recently built, the own grant and the own feeder
(R47, R88; log entry 25). -/
def State.ownPayload (s : State) : List Byte :=
  u8 3 ++ u8 s.ownBay ++ u16 ((s.lastClaim.map BuiltClaim.epoch).getD 0) ++ s.ownClaim.bytes ++ u8 0 ++ u16 0 ++
    s.ownResultPart ++ s.peerCounts

/-- The payload of READ_PEER by bay id (R47). In UNCONFIGURED, where no bay id is configured, no id is the own one and every
one reads ABSENT (DESIGN CHOICE, log entry 47). -/
def State.bayPayload (s : State) (bay : Nat) : List Byte :=
  if s.cfg.isSome && bay == s.ownBay then s.ownPayload
  else match s.ptb.entries.find? fun p => p.bay == bay with
    | some p => s.entryPayload p
    | none => s.absentPayload bay

/-- The payload of READ_PEER by index (R46). -/
def State.indexPayload (s : State) (index : Nat) : List Byte :=
  ((s.ptb.entries[index]?).map s.entryPayload).getD []

/-! ## The snapshot (R108, R109) -/

/-- SNAPSHOT's record at this moment. -/
def State.snapshotNow (s : State) : Snapshot :=
  let none' : Integrator := { wh := 0, ws := 0 }
  { epoch := s.clk.epoch, tick := s.clk.tick, live := s.ses.isSome, busId := s.liveBus,
    imp := (s.ses.map Session.imp).getD none', exp := (s.ses.map Session.exp).getD none',
    resp := (s.ses.map Session.resp).getD none', energy := s.energy, grant := s.alt.grant, target := s.target,
    applied := s.stg.applied, measured := s.stg.measured }

def Integrator.bytes (i : Integrator) : List Byte := i32 i.wh ++ u16 i.ws

/-- The payload of READ_SNAPSHOT: presence TAKEN 0 or NONE 1; with NONE every field reads 0. -/
def snapshotPayload : Option Snapshot → List Byte
  | none => u8 1 ++ List.replicate 35 0#8
  | some n =>
    u8 0 ++ u16 n.epoch ++ u8 n.tick ++ yesNo n.live ++ u8 n.busId ++ n.imp.bytes ++ n.exp.bytes ++ n.resp.bytes ++
      u32 n.energy ++ u16 n.grant ++ i16 n.target ++ i16 n.applied ++ i16 n.measured

/-! ## READ_STATUS (R182, R193) -/

/-- Section 1.4. -/
def State.clockGroup (s : State) : List Byte :=
  u16 s.clk.epoch ++ u8 s.clk.tick ++ yesNo s.clk.set ++ yesNo s.clk.disagree.isSome

/-- The number of queued frames of a kind, by its kind code. -/
def State.queuedOf (s : State) (kind : Nat) : Nat := (s.lnk.queue.filter fun e => e.frame.kindCode == kind).length

/-- R35. -/
def State.linkGroup (s : State) : List Byte :=
  u8 s.lnk.station.code ++ u8 s.lnk.streak ++ yesNo s.lnk.dupBay ++ u8 (s.queuedOf 1) ++ u8 (s.queuedOf 2) ++
    u8 (s.queuedOf 3) ++ u8 (s.queuedOf 4) ++ u8 (s.queuedOf 5) ++ yesNo s.lnk.access.isSending

/-- R48. -/
def State.peerGroup (s : State) : List Byte :=
  u8 (s.ptb.entries.filter PeerEntry.isLive).length ++ u8 (s.ptb.entries.filter fun p => !p.isLive).length ++
    u16 s.lEff ++ u16 (s.fEff 0) ++ u16 (s.fEff 1) ++ u16 (s.fEff 2) ++ u16 (s.fEff 3) ++ u32 (heldOn s.ptb.entries 0) ++
    u32 (heldOn s.ptb.entries 1) ++ u32 (heldOn s.ptb.entries 2) ++ u32 (heldOn s.ptb.entries 3) ++
    u32 (heldTotal s.ptb.entries) ++ yesNo s.ptb.limitDisagree ++ yesNo s.ptb.dupBus

/-- The computation's part of R92: its latch epoch is stated while IN_FLIGHT; the discard mark is sent as it stands in
either state (DESIGN CHOICE, log entry 43). -/
def State.flightBytes (s : State) : List Byte :=
  match s.alt.flight with
  | none => u8 0 ++ u16 (Config.unreported 7 s.choices) ++ yesNo s.alt.discard
  | some f => u8 1 ++ u16 f.inputs.epoch ++ yesNo s.alt.discard

/-- The result table's part of R92. -/
def State.resultBytes (s : State) : List Byte :=
  match s.alt.result with
  | none =>
    yesNo false ++ u16 (Config.unreported 9 s.choices) ++ u8 (Config.unreported 10 s.choices) ++
      List.replicate 10 0#8 ++ u8 0
  | some r =>
    yesNo true ++ u16 r.epoch ++ u8 r.origin ++ u16 r.service ++ u16 r.feeders.f0 ++ u16 r.feeders.f1 ++
      u16 r.feeders.f2 ++ u16 r.feeders.f3 ++ u8 r.rows.length

/-- R92. -/
def State.allotmentGroup (s : State) : List Byte := u16 s.alt.grant ++ s.flightBytes ++ s.resultBytes

/-- R110. -/
def State.stageGroup (s : State) : List Byte :=
  i16 s.target ++ i16 s.stg.applied ++ i16 s.stg.measured ++ u16 s.stg.volts ++ u8 s.stg.seq ++ u8 (answerCode s.stg.answer) ++
    u8 s.stg.gap ++ yesNo s.stg.meterLost ++ yesNo s.stg.stageFault ++ yesNo s.stg.isOpen ++ u32 s.energy

/-- A monitor's state, count and mark, `i` its number; R115 states no count in TRIGGERED (log entry 37). -/
def State.bandBytes (s : State) (i : Nat) : List Byte :=
  let b := (s.rsv.bands[i]?).getD Band.reset
  u8 b.phase.code ++ u16 (if b.phase = .triggered then Config.unreported (11 + i) s.choices else b.count) ++ yesNo b.mark

/-- The event's fields of R140: 0 and no holder while IDLE. -/
def State.eventBytes (s : State) : List Byte :=
  if s.rsv.active then
    u8 1 ++ u8 (s.rsv.holder.getD 0) ++ u8 s.rsv.lastSeq ++ u16 s.rsv.dActive ++ u16 s.rsv.remaining ++ u8 s.rsv.refresh
  else List.replicate 8 0#8

/-- Sensing and the monitors. -/
def State.sensingBytes (s : State) : List Byte :=
  u16 (s.rsv.freq.getD 0) ++ yesNo s.rsv.senseFault ++ s.bandBytes 0 ++ s.bandBytes 1 ++ s.bandBytes 2 ++ s.bandBytes 3

/-- The demands and the own sequence. -/
def State.demandBytes (s : State) : List Byte :=
  u16 s.rsv.hostDemand ++ u16 s.rsv.hostDuration ++ u16 s.bandDemand ++ u16 s.selfDemand ++ u8 s.rsv.ownSeq

/-- What the event froze and what it asks of this bay. -/
def State.shareBytes (s : State) : List Byte :=
  u16 s.rsv.baseline ++ u8 s.rsv.origin ++ u8 s.rsv.members.length ++ u32 s.rsv.pledgeSum ++ u16 s.rsv.ownPledge ++
    u8 (standingCode s.rsv.standing) ++ u16 s.rsv.share ++ u16 s.rsv.shareSum ++ i32 s.eventTarget ++ yesNo s.rsv.shortfall

/-- R140. -/
def State.reserveGroup (s : State) : List Byte := s.sensingBytes ++ s.demandBytes ++ s.eventBytes ++ s.shareBytes

/-- A park entry's slot; its wait and rivals are stated while OFFERED (R158). -/
def State.parkSlot (s : State) (i : Nat) : List Byte :=
  match s.prk.entries[i]? with
  | none => List.replicate 18 0#8
  | some e =>
    u8 e.busId ++ u8 (if e.offered.isSome then 1 else 0) ++ u16 e.parkedEpoch ++ u8 e.dayAge ++ i24 e.parked ++ u16 e.hold ++
      u32 e.ctx.lastE ++ u8 e.ctx.chain.legs.length ++ u8 e.ctx.chain.cursor ++
      match e.offered with
      | some w => u8 w.wait ++ u8 w.rivals.length
      | none => u8 (Config.unreported (15 + 2 * i) s.choices) ++ u8 (Config.unreported (16 + 2 * i) s.choices)

/-- The query state's eight bytes; in IDLE the bus, the countdown and the offers heard as they stand (R149, R158). -/
def State.queryBytes (s : State) : List Byte :=
  match s.prk.query with
  | none =>
    u8 0 ++ u8 s.prk.idle.busId ++ u8 s.prk.idle.countdown ++ u8 s.prk.idle.offers ++ u8 0 ++ departureBytes none
  | some q =>
    u8 1 ++ u8 q.busId ++ u8 q.countdown ++ u8 q.offers ++ u8 ((q.best.map Candidate.bay).getD 0) ++
      departureBytes (q.best.map Candidate.parked)

/-- The last handover's eleven bytes: presence as yes or no (log entry 27), then the record. -/
def State.handoverBytes (s : State) : List Byte :=
  match s.prk.last with
  | none => yesNo false ++ (List.range 10).flatMap fun i => u8 (Config.unreported (26 + i) s.choices)
  | some h =>
    yesNo true ++ u8 h.result.code ++ u8 h.busId ++ u16 h.epoch ++ u8 h.offerer ++ u8 h.offers ++ u32 h.lastE

/-- R158. -/
def State.parkGroup (s : State) : List Byte :=
  u8 s.prk.entries.length ++ s.parkSlot 0 ++ s.parkSlot 1 ++ s.parkSlot 2 ++ s.parkSlot 3 ++ s.queryBytes ++ s.handoverBytes

/-- R174. -/
def State.logGroup (s : State) : List Byte :=
  s.banksPayload ++ u8 (fillingCode s.log) ++ u16 s.log.seq ++ u8 s.log.lost ++ s.log.counters.flatMap u8 ++
    u24 s.log.mask.toNat

/-- PRT's own figures; `answer` is the answer count of this command (R182). -/
def State.portGroup (s : State) (answer : Nat) : List Byte :=
  u24 s.prt.flags.toNat ++ u24 s.prt.mask.toNat ++ yesNo s.attn ++ u8 answer ++ yesNo s.cfg.isSome ++
    match s.cfg with
    | some r => r.bytes
    | none => (List.range 70).flatMap fun i => u8 (Config.unreported (36 + i) s.choices)

/-- The payload of READ_STATUS, its groups in the order of R182. -/
def State.statusPayload (s : State) (answer : Nat) : List Byte :=
  s.clockGroup ++ s.linkGroup ++ s.peerGroup ++ s.allotmentGroup ++ s.stageGroup ++ s.reserveGroup ++ s.parkGroup ++
    s.logGroup ++ s.portGroup answer

end Sys2Proof.Machine
end

