-- ==== Sys2Proof/Machine/Port.lean ====
section
/-!
DEFINITION. The bay port: the stages of a command and its response (R177 to R179), the effects of the host's commands that no
other file holds, and the bay reset (R188, R189).
-/

namespace Sys2Proof.Machine

/-! ## Taking a command (R177 to R179) -/

/-- The answer count after a command (R178). -/
def nextAnswer (n : Nat) : Nat := if n = 255 then 1 else n + 1

/-- A command has been taken from a transaction that is not empty. -/
def State.counted (s : State) : State := s.setPrt { s.prt with answer := nextAnswer s.prt.answer }

/-- The pending response becomes this one, with the station state and the flags of this moment (R177, R178). -/
def State.answerWith (s : State) (kind : Nat) (status : Status) (payload : List Byte) : State :=
  s.setPrt { s.prt with
    response := { kind := kind, status := status, answer := s.prt.answer, station := s.lnk.station,
                  flags := s.prt.flags, payload := payload } }

/-- A command goes through the stages STATE and RANGE of R179 in order, then has its effect and its payload; the format stage
is FORMAT_REFUSAL's. -/
def State.command (s : State) (kind : Nat) (stateOk : Bool) (rangeFail : Option Nat) (effect : State → State)
    (payload : State → List Byte) : State :=
  if stateOk then
    match rangeFail with
    | some n => s.counted.answerWith kind .range (u8 n)
    | none => (effect s.counted).answerWith kind .ok (payload (effect s.counted))
  else s.counted.answerWith kind .state s.statePayload

/-- A command whose format fails (R176, R179). -/
def State.refuseFormat (s : State) (bytes : List Byte) : State :=
  s.counted.answerWith (field bytes 0 1) .format (formatPayload bytes)

/-- The station is not UNCONFIGURED. -/
def State.isConfigured (s : State) : Bool := decide (s.lnk.station ≠ .unconfigured)

/-! ## Configuration and time -/

/-- CONFIGURE accepted (R28, R181): the record stands, the station is LISTENING with countdown 3, the mask is in force but for
codes outside 1..21 (R164), and the receive path takes frames that begin after idle (R14). -/
def State.configureWith (s : State) (r : ConfigRecord) : State :=
  (((s.setCfg (some r)).setLnk { s.lnk with
      station := .listening, listening := Config.listeningPeriod, armed := s.lnk.lineIdle }).setLog
    { s.log with mask := r.mask &&& Log.fullMask }).follow

/-- SET_TIME accepted (R7). -/
def State.setTimeTo (s : State) (e : Nat) : State :=
  ((s.restartAt e).setClk { (s.restartAt e).clk with set := true }).boundary false true

/-! ## Sessions -/

def State.chargerRating (s : State) : Nat := (s.cfg.map ConfigRecord.chargerRating).getD 0
def State.dischargeRating (s : State) : Nat := (s.cfg.map ConfigRecord.dischargeRating).getD 0

/-- A value clamped to C where C is known (R51). -/
def clampKnown (cap x : Nat) : Nat := if cap = 0 then x else min x cap

def zeroIntegrator : Integrator := { wh := 0, ws := 0 }

/-- The session that an accepted PLUG starts, before PRK is asked for a context (R51, R53). -/
def State.newSession (s : State) (p : PlugFields) : Session :=
  { busId := p.busId, origin := .cold, cap := p.cap, floor := clampKnown p.cap p.floor, e0 := clampKnown p.cap p.e0,
    pAccept := min p.pAccept s.chargerRating, consent := decide (p.consent = 1),
    dischargeLimit := min p.dischargeLimit s.dischargeRating, chain := { legs := [], cursor := 0 }, need := 0, ask := 0,
    pledge := 0, dischargeable := 0, curtailable := 0, surplus := 0, late := false, atRisk := false,
    imp := zeroIntegrator, exp := zeroIntegrator, resp := zeroIntegrator, cumImp := 0, cumExp := 0, cumResp := 0,
    sessions := 1, plugEpoch := s.clk.epoch }

/-- A local restore (R52, R145). -/
def State.restoreLocal (s : State) (e : ParkEntry) : State :=
  ((((s.removePark e.busId).modSes fun v => v.restored e.ctx .locally).recordHandover
    { result := .locally, busId := e.busId, epoch := s.clk.epoch, offerer := 0, offers := 0, lastE := e.ctx.lastE }).follow).captureNat
      .plugLocal 0

/-- PLUG accepted (R51 to R53, R43, R136). Where the PLUG begins DUP_BUS and restores locally as well, R161 leaves the order of the
two blocks' captures open: that PTB acts on the bus before PRK restores, so that DUP_BUS is captured before PLUG_LOCAL and its
record shows E by the C that PLUG gave, is the model's choice (DESIGN CHOICE, log entry 55). -/
def State.plugIn (s : State) (p : PlugFields) : State :=
  let s1 := (s.setSes (some (s.newSession p))).evalDupBus.rsvSessionBegin
  match s1.prk.entryOf p.busId with
  | some e => s1.restoreLocal e
  | none => (s1.openWindow p.busId).follow

/-- VEHICLE_UPDATE accepted (R56). -/
def State.updateVehicle (s : State) (pAccept dischargeLimit consent : Nat) : State :=
  (s.modSes fun v => { v with
    pAccept := min pAccept s.chargerRating, dischargeLimit := min dischargeLimit s.dischargeRating,
    consent := decide (consent = 1) }).follow

/-- CHAIN_LOAD accepted (R57). -/
def State.loadChain (s : State) (ls : List NewLeg) : State := s.modSes fun v => { v with chain := v.chain.load ls }

/-- The configured departure window in minutes. -/
def State.window (s : State) : Nat := (s.cfg.map ConfigRecord.window).getD 0

/-- UNPLUG of a settled session (R61, R62). -/
def State.unplugSettled (s : State) (v : Session) : State :=
  let w := v.legDone s.clk.epoch s.window
  (((s.setSes (some w)).park w.busId s.holdBoundaries w.context).captureUnplug w).dropSession

/-- UNPLUG of a pending session (R63, R151). -/
def State.unplugPending (s : State) (v : Session) : State :=
  let s1 := s.cancelWindow
  ((if v.cap = 0 then s1 else s1.park v.busId s1.holdBoundaries v.context).captureUnplug v).dropSession

/-- UNPLUG accepted. -/
def State.unplugNow (s : State) : State :=
  match s.ses with
  | none => s
  | some v => if s.isPending then s.unplugPending v else s.unplugSettled v

/-! ## Dispatch (R118) -/

/-- The duration in epochs that a DISPATCH sets. -/
def State.dispatchEpochs (s : State) (minutes : Nat) : Nat :=
  if minutes = 0 ∨ s.eventMaxEpochs < minutes * 30 then s.eventMaxEpochs else minutes * 30

def State.commitment (s : State) : Nat := (s.cfg.map ConfigRecord.commitment).getD 0

/-- The host demand set, clamped to R; a demand of 0 leaves the duration. -/
def State.setHostDemand (s : State) (d minutes : Nat) : State :=
  if min d s.commitment = 0 then s.setRsv { s.rsv with hostDemand := 0 }
  else s.setRsv { s.rsv with hostDemand := min d s.commitment, hostDuration := s.dispatchEpochs minutes }

/-- Whether a DISPATCH counts as a change of the self demand (R118, R119). -/
def dispatchCounts (before after : State) : Bool :=
  (decide (0 < after.rsv.hostDemand) && decide (after.bandDemand ≤ after.rsv.hostDemand)) || demandChanged before after

/-- DISPATCH accepted (R118, R119). -/
def State.dispatchDemand (s : State) (d minutes : Nat) : State :=
  let s1 := s.setHostDemand d minutes
  if dispatchCounts s s1 then s1.sendDemand else s1

/-! ## Log, notices and the snapshot -/

/-- CLEAR_COUNTERS (R173). -/
def State.zeroCounters (s : State) : State :=
  s.setLog { s.log with counters := List.replicate 24 0, lost := 0 }

/-- The 20 flags of a flag set as received; the rest name no flag (R184, R185). -/
def flagSet (set : BitVec 24) : BitVec 20 := set.setWidth 20

/-- SET_NOTICE_MASK (R185). -/
def State.setMask (s : State) (set : BitVec 24) : State := s.setPrt { s.prt with mask := flagSet set }

/-- SNAPSHOT (R108). -/
def State.takeSnapshot (s : State) : State := s.setSnap (some s.snapshotNow)

/-! ## The two resets -/

/-- LNK at either reset (R34). The line itself is not reset: where a frame is under way, its own cut off or a peer's, the line is
not idle until it has been quiet, so that no frame under way at the reset is taken after it (R14, log entry 1). -/
def Lnk.atReset (l : Lnk) : Lnk := { Lnk.reset with lineIdle := l.lineIdle }

/-- Power-on reset, as it begins and as it ends (R11, R34, R187, log entry 9); the commands that wait and the counter of free values are the model's own and stay. -/
def State.powerOn (s : State) : State :=
  ((State.reset.setPending s.pending).setChoices s.choices).setLnk s.lnk.atReset

/-- RSV at a bay reset (R139). -/
def Rsv.bayReset (r : Rsv) : Rsv :=
  { Rsv.reset with freq := r.freq, edgeSeen := r.edgeSeen, edgeWatch := r.edgeWatch, senseFault := r.senseFault }

/-- CLK, LNK, PTB, ALT, STG, RSV and LOG at a bay reset, with the configuration cleared (R12, R34, R49, R93, R112, R139,
R175); the setpoint falls to 0 with the station state. -/
def State.resetBlocks (s : State) : State :=
  let s1 := ((s.setCfg none).setLog { s.log with mask := Log.fullMask }).setLnk s.lnk.atReset
  let s2 := (s1.setClk { s1.clk with disagree := none }).setPtb Ptb.reset
  let s3 := ((s2.setAlt Alt.reset).setRsv s2.rsv.bayReset).setLastClaim none
  (s3.setStg { s3.stg with gap := 0, meterLost := false }).follow

/-- SES and PRK at a bay reset (R72, R159): a window is cancelled, a session with a capacity is parked with the hold
configured before the reset, and every offer is withdrawn. -/
def State.parkAtReset (s : State) (hold : Nat) : State :=
  let s1 := s.cancelWindow
  let s2 := match s1.ses with
    | none => s1
    | some v => if v.cap = 0 then s1 else s1.park v.busId hold v.context
  (s2.withdrawOffers.setSes none).follow

/-- The conditions that a bay reset leaves as they are (R189). -/
def keptNotices : List Notice := [.clockUnset, .senseFault, .stageFault]

/-- READY after a bay reset (R188): reset cause 1, status OK (DESIGN CHOICE, log entry 45). -/
def State.answerReady (s : State) : State :=
  let s1 := s.setPrt { s.prt with answer := 0 }
  s1.answerWith 0 .ok (u8 1)

/-- BAY_RESET (R188, R189): the capture first, then the blocks, then the flags and the READY record. -/
def State.resetBay (s : State) : State :=
  let s1 := (s.setPrt { s.prt with flags := 0#20 }).capture .bayReset 0#32 none
  let s2 := s1.resetBlocks.parkAtReset s.holdBoundaries
  (s2.setPrt { s2.prt with flags := s2.prt.flags ||| (s.prt.flags &&& s2.heldFlags keptNotices) }).answerReady

end Sys2Proof.Machine
end

