-- ==== Sys2Proof/Machine/ClockCommands.lean ====
section
/-!
DEFINITION. The meanings of the power and time rows: POWER_ON_RESET, TICK_EVENT, EPOCH_BOUNDARY, CLOCK_DISAGREE_END and
SET_TIME.
-/

namespace Sys2Proof.Machine

/-- POWER_ON_RESET (R11, R34, R49, R71, R93, R111, R139, R159, R175, R187). -/
def execPowerOnReset (s : State) : Host.Outcome State Fault Refusal := .next s.powerOn

/-- TICK_EVENT (R1, R2). -/
def execTickEvent (s : State) : Host.Outcome State Fault Refusal := .next s.tickEvent

/-- EPOCH_BOUNDARY (R2): the local advance, taken before the tick event that completes with it (log entry 7). -/
def execEpochBoundary (s : State) : Host.Outcome State Fault Refusal := .next s.epochBoundary

/-- CLOCK_DISAGREE_END (R6): the boundary at which an age of 15 becomes none. -/
def execClockDisagreeEnd (s : State) : Host.Outcome State Fault Refusal :=
  .next (s.boundaryWhere (s.clk.disagree == some 15))

/-- SET_TIME (R7). -/
def execSetTime (epoch : Nat) (s : State) : Host.Outcome State Fault Refusal :=
  .next (s.command 2 true (firstFail (setTimeChecks epoch)) (fun t => t.setTimeTo epoch) (fun _ => []))

end Sys2Proof.Machine
end

