-- ==== Sys2Proof/Machine/FrameCommands.lean ====
section
/-!
DEFINITION. The meanings of the frame rows (R14 to R17): a frame that the receive path has taken whole, with the rule of the
block that owns it, and a frame that fails the checks.
-/

namespace Sys2Proof.Machine

/-- CLAIM_FRAME (R5, R6, R16, R17, R36). -/
def execClaimFrame (sender epoch : Nat) (c : Claim) (s : State) : Host.Outcome State Fault Refusal :=
  .next (s.takeFrame sender (claimFieldsOk epoch c) fun t => t.deliverClaim sender epoch c)

/-- EVENT_FRAME (R16, R17, R122). -/
def execEventFrame (sender origin seq demand remaining : Nat) (s : State) : Host.Outcome State Fault Refusal :=
  .next (s.takeFrame sender (eventFieldsOk sender origin remaining) fun t => t.judgeEvent origin seq demand remaining)

/-- QUERY_FRAME (R16, R17, R153, R154). -/
def execQueryFrame (sender busId : Nat) (s : State) : Host.Outcome State Fault Refusal :=
  .next (s.takeFrame sender (busFieldOk busId) fun t => t.takeQuery busId)

/-- OFFER_FRAME (R16, R17, R147, R148, R152, R155). -/
def execOfferFrame (sender : Nat) (o : Offer) (s : State) : Host.Outcome State Fault Refusal :=
  .next (s.takeFrame sender (offerFieldsOk o) fun t => t.takeOffer sender o)

/-- TAKEN_FRAME (R16, R17, R156). -/
def execTakenFrame (sender busId chosen : Nat) (s : State) : Host.Outcome State Fault Refusal :=
  .next (s.takeFrame sender (takenFieldsOk busId chosen) fun t => t.takeTaken sender busId chosen)

/-- Whether R17 fails a frame of good structure on its fields. -/
def fieldsFail : Instr → Bool
  | .claimFrame _ e c => !claimFieldsOk e c
  | .eventFrame b o _ _ r => !eventFieldsOk b o r
  | .queryFrame _ i => !busFieldOk i
  | .offerFrame _ o => !offerFieldsOk o
  | .takenFrame _ i c => !takenFieldsOk i c
  | _ => true

/-- Whether the receive path drops these bytes: they fail the structure checks of R15, or they do not carry the own bay id
and fail the field checks of R17. -/
def State.drops (s : State) (bytes : List Byte) (whole : Bool) : Bool :=
  match decodeFrame bytes whole with
  | none => true
  | some i => decide (field bytes 1 1 ≠ s.ownBay) && fieldsFail i

/-- DROPPED_FRAME (R15, R17): counted under LINK_CRC; bytes that are not dropped are the other frame rows' (log entry 5). -/
def execDroppedFrame (bytes : List Byte) (whole : Bool) (s : State) : Host.Outcome State Fault Refusal :=
  .next (if s.receives && s.drops bytes whole then s.dropFrame else s)

end Sys2Proof.Machine
end

