-- ==== Sys2Proof/Machine/LinkCommands.lean ====
section
/-!
DEFINITION. The meanings of the rows of access to the line (R14, R19 to R26) and of the link's events at a boundary.
-/

namespace Sys2Proof.Machine

/-- LINE_IDLE (R14, R24). -/
def execLineIdle (s : State) : Host.Outcome State Fault Refusal := .next s.lineFallsIdle

/-- LINE_BUSY (R14, R24). -/
def execLineBusy (s : State) : Host.Outcome State Fault Refusal := .next s.lineGetsBusy

/-- BACKOFF_EXPIRY (R18, R24). -/
def execBackoffExpiry (s : State) : Host.Outcome State Fault Refusal := .next s.beginDriving

/-- FRAME_SENT (R21, R25, R30, R32). -/
def execFrameSent (s : State) : Host.Outcome State Fault Refusal := .next s.sentWhole

/-- COLLISION (R25, R26, R22). -/
def execCollision (s : State) : Host.Outcome State Fault Refusal := .next s.collided

/-- TAKEN_EXPIRY (R23): the boundary at which a queued TAKEN reaches age 4. -/
def execTakenExpiry (s : State) : Host.Outcome State Fault Refusal :=
  .next (s.boundaryWhere (s.lnk.queue.any fun e => e.hasKey .taken && decide (Config.takenLife ≤ e.age + 1)))

/-- LISTENING_PERIOD_END (R29): the boundary that brings the listening countdown to 0. -/
def execListeningPeriodEnd (s : State) : Host.Outcome State Fault Refusal :=
  .next (s.boundaryWhere (s.lnk.station == .listening && decide (s.lnk.listening ≤ 1)))

end Sys2Proof.Machine
end

