-- ==== Sys2Proof/Machine/LogCommands.lean ====
section
/-!
DEFINITION. The meanings of the capture log's commands (R168 to R171, R173).
-/

namespace Sys2Proof.Machine

/-- MARK (R171). -/
def execMark (tag : BitVec 32) (s : State) : Host.Outcome State Fault Refusal :=
  .next (s.command 8 true none (fun t => (t.capture .mark tag none).bumpChoices) (fun _ => s.markPayload))

/-- CLOSE_BANK (R169). -/
def execCloseBank (s : State) : Host.Outcome State Fault Refusal :=
  .next (s.command 9 (canClose s.log.a s.log.b || canClose s.log.b s.log.a) none State.closeFilling State.banksPayload)

/-- RELEASE_BANK (R168). -/
def execReleaseBank (bank : Nat) (s : State) : Host.Outcome State Fault Refusal :=
  .next (s.command 10 (!bankOk bank || (s.log.bank bank).state == .full) (firstFail [(1, bankOk bank)])
    (fun t => t.releaseFull bank) State.banksPayload)

/-- READ_LOG (R170). -/
def execReadLog (bank index : Nat) (s : State) : Host.Outcome State Fault Refusal :=
  .next (s.command 11 true (firstFail (readLogChecks bank index (s.log.bank bank).records.length)) id
    (fun t => t.logPayload bank index))

/-- CLEAR_COUNTERS (R173). -/
def execClearCounters (s : State) : Host.Outcome State Fault Refusal :=
  .next (s.command 19 true none State.zeroCounters (fun _ => []))

end Sys2Proof.Machine
end

