-- ==== Sys2Proof/Machine/ParkingCommands.lean ====
section
/-!
DEFINITION. The meanings of the rows of the park table and the handover at an epoch boundary.
-/

namespace Sys2Proof.Machine

/-- CONTEXT_EXPIRED (R143): the boundary at which the hold of the bus's entry reaches 0. -/
def execContextExpired (busId : Nat) (s : State) : Host.Outcome State Fault Refusal :=
  .next (s.boundaryWhere (s.prk.entries.any fun e => e.busId == busId && e.holdEnds))

/-- TAKEN_WAIT_END (R157): the boundary at which the TAKEN-wait of the bus's entry reaches 0. -/
def execTakenWaitEnd (busId : Nat) (s : State) : Host.Outcome State Fault Refusal :=
  .next (s.boundaryWhere (s.prk.entries.any fun e => e.busId == busId && e.waitEnds))

/-- QUERY_WINDOW_CLOSE (R149): the boundary at which the window countdown reaches 0. -/
def execQueryWindowClose (s : State) : Host.Outcome State Fault Refusal :=
  .next (s.boundaryWhere ((s.prk.query.map fun q => decide (q.countdown ≤ 1)).getD false))

end Sys2Proof.Machine
end

