-- ==== Sys2Proof/Machine/PeerCommands.lean ====
section
/-!
DEFINITION. The meanings of the peer table's rows: PEER_STALE, PEER_REMOVED and the two forms of READ_PEER.
-/

namespace Sys2Proof.Machine

/-- Whether the entry of a bay stands at a silence count. -/
def State.peerSilent (s : State) (bay count : Nat) : Bool :=
  s.ptb.entries.any fun p => p.bay == bay && p.silence == count

/-- PEER_STALE (R38): the boundary at which the bay's silence count reaches 3. -/
def execPeerStale (bay : Nat) (s : State) : Host.Outcome State Fault Refusal :=
  .next (s.boundaryWhere (s.peerSilent bay 2))

/-- PEER_REMOVED (R38): the boundary at which the bay's silence count would reach 15. -/
def execPeerRemoved (bay : Nat) (s : State) : Host.Outcome State Fault Refusal :=
  .next (s.boundaryWhere (s.peerSilent bay 14))

/-- READ_PEER_BY_INDEX (R45, R46); any selector but 0 is refused (R179, log entry 31). -/
def execReadPeerByIndex (selector index : Nat) (s : State) : Host.Outcome State Fault Refusal :=
  .next (s.command 14 true (firstFail (peerIndexChecks selector index s.ptb.entries.length)) State.bumpChoices
    (fun t => t.indexPayload index))

/-- READ_PEER_BY_BAY (R45, R47). -/
def execReadPeerByBay (bay : Nat) (s : State) : Host.Outcome State Fault Refusal :=
  .next (s.command 14 true (firstFail (peerBayChecks bay)) State.bumpChoices (fun t => t.bayPayload bay))

end Sys2Proof.Machine
end

