-- ==== Sys2Proof/Machine/PortCommands.lean ====
section
/-!
DEFINITION. The meanings of the bay port's own rows (chapter 10).
-/

namespace Sys2Proof.Machine

/-- EMPTY_TRANSACTION (R176): no command is taken, and the pending response stays. -/
def execEmptyTransaction (s : State) : Host.Outcome State Fault Refusal := .next s

/-- CONFIGURE (R180, R181). -/
def execConfigure (r : ConfigRecord) (s : State) : Host.Outcome State Fault Refusal :=
  .next (s.command 1 (!s.isConfigured) (firstFail (configChecks r)) (fun t => t.configureWith r)
    (fun t => u8 t.lnk.listening))

/-- READ_STATUS (R182). -/
def execReadStatus (s : State) : Host.Outcome State Fault Refusal :=
  .next (s.command 12 true none State.bumpChoices (fun t => t.statusPayload t.prt.answer))

/-- CLEAR_FLAGS (R184). -/
def execClearFlags (set : BitVec 24) (s : State) : Host.Outcome State Fault Refusal :=
  .next (s.command 17 true none (fun t => t.clearNotices (flagSet set)) (fun _ => []))

/-- SET_NOTICE_MASK (R185). -/
def execSetNoticeMask (set : BitVec 24) (s : State) : Host.Outcome State Fault Refusal :=
  .next (s.command 18 true none (fun t => t.setMask set) (fun t => u24 t.prt.mask.toNat))

/-- BAY_RESET (R188, R189). -/
def execBayReset (s : State) : Host.Outcome State Fault Refusal := .next s.resetBay

/-- FORMAT_REFUSAL (R176, R179): a transaction whose whole bytes fail the format stage; an empty one takes no command, and
bytes that pass it are another row's (log entry 5). -/
def execFormatRefusal (bytes : List Byte) (s : State) : Host.Outcome State Fault Refusal :=
  .next (if bytes.isEmpty || formatOk bytes then s else s.refuseFormat bytes)

end Sys2Proof.Machine
end

