-- ==== Sys2Proof/Machine/ReserveCommands.lean ====
section
/-!
DEFINITION. The meanings of the reserve unit's rows.
-/

namespace Sys2Proof.Machine

/-- GSENSE_EDGE (R113, R114). -/
def execGsenseEdge (interval : Nat) (s : State) : Host.Outcome State Fault Refusal := .next (s.gridEdge interval)

/-- EDGE_WATCH_EXPIRY (R114): the tick event that brings the edge watch to 3. SENSE_FAULT begins there, or, where it is already
present, nothing further is raised. -/
def execEdgeWatchExpiry (s : State) : Host.Outcome State Fault Refusal := .next (s.tickWhere s.edgeWatchExpires)

/-- The phase of a monitor among monitors. -/
def phaseAt (bands : List Band) (i : Nat) : BandPhase := (bands[i]?.map Band.phase).getD .out

/-- BAND_TRIGGER (R115): the tick event at which the band moves from DWELL to TRIGGERED. -/
def execBandTrigger (band : Nat) (s : State) : Host.Outcome State Fault Refusal :=
  .next (s.tickWhere (phaseAt s.rsv.bands band == .dwell && phaseAt s.steppedBands band == .triggered))

/-- BAND_RECOVERED (R115): the tick event at which the band moves from RECOVER to OUT. -/
def execBandRecovered (band : Nat) (s : State) : Host.Outcome State Fault Refusal :=
  .next (s.tickWhere (phaseAt s.rsv.bands band == .recover && phaseAt s.steppedBands band == .out))

/-- Whether the holder's refresh comes at the next epoch boundary (R121). -/
def State.refreshDue (s : State) : Bool :=
  s.rsv.active && s.rsv.holder == some s.ownBay && decide (s.rsv.refresh ≤ 1) && !s.eventEnds

/-- EVENT_REFRESH (R121): the boundary at which the holder repeats its EVENT. -/
def execEventRefresh (s : State) : Host.Outcome State Fault Refusal := .next (s.boundaryWhere s.refreshDue)

/-- EVENT_COUNTDOWN_END (R134): the boundary at which the event ends by the countdown. -/
def execEventCountdownEnd (s : State) : Host.Outcome State Fault Refusal := .next (s.boundaryWhere s.eventEnds)

/-- DISPATCH (R118, R119). -/
def execDispatch (demand minutes : Nat) (s : State) : Host.Outcome State Fault Refusal :=
  .next (s.command 7 s.isConfigured none (fun t => t.dispatchDemand demand minutes)
    (fun t => u16 t.rsv.hostDemand ++ u16 t.rsv.hostDuration))

end Sys2Proof.Machine
end

