-- ==== Sys2Proof/Machine/SessionCommands.lean ====
section
/-!
DEFINITION. The meanings of the session commands of the bay port (R51 to R63, R70).
-/

namespace Sys2Proof.Machine

/-- PLUG (R51 to R53). -/
def execPlug (p : PlugFields) (s : State) : Host.Outcome State Fault Refusal :=
  .next (s.command 3 (s.isConfigured && s.ses.isNone) (firstFail (plugChecks p)) (fun t => t.plugIn p) State.plugPayload)

/-- VEHICLE_UPDATE (R56). -/
def execVehicleUpdate (pAccept dischargeLimit consent : Nat) (s : State) : Host.Outcome State Fault Refusal :=
  .next (s.command 4 s.ses.isSome (firstFail (vehicleChecks consent))
    (fun t => t.updateVehicle pAccept dischargeLimit consent) State.vehiclePayload)

/-- CHAIN_LOAD (R57). The response table of section 11.4 has no row for its OK response, and R57 says only that it is answered OK:
the empty payload is the model's choice (DESIGN CHOICE, log entry 18). -/
def execChainLoad (legs : List NewLeg) (s : State) : Host.Outcome State Fault Refusal :=
  .next (s.command 5 s.isSettled (s.ses.bind fun v => chainFail v legs) (fun t => t.loadChain legs) (fun _ => []))

/-- UNPLUG (R61 to R63). -/
def execUnplug (s : State) : Host.Outcome State Fault Refusal :=
  .next (s.command 6 s.ses.isSome none State.unplugNow (fun _ => []))

/-- READ_SESSION (R70). -/
def execReadSession (s : State) : Host.Outcome State Fault Refusal :=
  .next (s.command 13 true none id State.sessionPayload)

end Sys2Proof.Machine
end

