-- ==== Sys2Proof/Machine/StageCommands.lean ====
section
/-!
DEFINITION. The meanings of the rows of the allotment engine, the stage line and the snapshot.
-/

namespace Sys2Proof.Machine

/-- ALLOTMENT_COMPLETION (R75, R77, R78, R91): without effect while no computation is in flight. -/
def execAllotmentCompletion (s : State) : Host.Outcome State Fault Refusal := .next s.altComplete

/-- MEASURE (R96, R98, R99, R192): a record that fails the record checks is discarded. -/
def execMeasure (bytes : List Byte) (s : State) : Host.Outcome State Fault Refusal :=
  .next (match decodeMeasure bytes with
    | none => s
    | some m => s.judgeMeasure m)

/-- METER_LOST (R98): the tick event whose close brings the gap count to 4. -/
def execMeterLost (s : State) : Host.Outcome State Fault Refusal := .next (s.tickWhere s.losesMeter)

/-- SNAPSHOT (R108). -/
def execSnapshot (s : State) : Host.Outcome State Fault Refusal :=
  .next (s.command 15 true none State.takeSnapshot (fun t => u16 t.clk.epoch ++ u8 t.clk.tick))

/-- READ_SNAPSHOT (R109). -/
def execReadSnapshot (s : State) : Host.Outcome State Fault Refusal :=
  .next (s.command 16 true none id (fun t => snapshotPayload t.snap))

end Sys2Proof.Machine
end

