-- ==== Sys2Proof/Machine/Dispatch.lean ====
section
/-!
DEFINITION. The dispatch: one arm for each constructor of `Instr`, in the table's order, each a call of its meaning.
-/

namespace Sys2Proof.Machine

def exec (i : Instr) (s : State) : Host.Outcome State Fault Refusal :=
  match i with
  | .powerOnReset => Sys2Proof.Machine.execPowerOnReset s
  | .tickEvent => Sys2Proof.Machine.execTickEvent s
  | .epochBoundary => Sys2Proof.Machine.execEpochBoundary s
  | .clockDisagreeEnd => Sys2Proof.Machine.execClockDisagreeEnd s
  | .claimFrame sender epoch c => Sys2Proof.Machine.execClaimFrame sender epoch c s
  | .eventFrame sender origin seq demand remaining => Sys2Proof.Machine.execEventFrame sender origin seq demand remaining s
  | .queryFrame sender busId => Sys2Proof.Machine.execQueryFrame sender busId s
  | .offerFrame sender o => Sys2Proof.Machine.execOfferFrame sender o s
  | .takenFrame sender busId chosen => Sys2Proof.Machine.execTakenFrame sender busId chosen s
  | .lineIdle => Sys2Proof.Machine.execLineIdle s
  | .lineBusy => Sys2Proof.Machine.execLineBusy s
  | .backoffExpiry => Sys2Proof.Machine.execBackoffExpiry s
  | .frameSent => Sys2Proof.Machine.execFrameSent s
  | .collision => Sys2Proof.Machine.execCollision s
  | .takenExpiry => Sys2Proof.Machine.execTakenExpiry s
  | .listeningPeriodEnd => Sys2Proof.Machine.execListeningPeriodEnd s
  | .peerStale bay => Sys2Proof.Machine.execPeerStale bay s
  | .peerRemoved bay => Sys2Proof.Machine.execPeerRemoved bay s
  | .allotmentCompletion => Sys2Proof.Machine.execAllotmentCompletion s
  | .measure bytes => Sys2Proof.Machine.execMeasure bytes s
  | .meterLost => Sys2Proof.Machine.execMeterLost s
  | .gsenseEdge interval => Sys2Proof.Machine.execGsenseEdge interval s
  | .edgeWatchExpiry => Sys2Proof.Machine.execEdgeWatchExpiry s
  | .bandTrigger band => Sys2Proof.Machine.execBandTrigger band s
  | .bandRecovered band => Sys2Proof.Machine.execBandRecovered band s
  | .eventRefresh => Sys2Proof.Machine.execEventRefresh s
  | .eventCountdownEnd => Sys2Proof.Machine.execEventCountdownEnd s
  | .contextExpired busId => Sys2Proof.Machine.execContextExpired busId s
  | .takenWaitEnd busId => Sys2Proof.Machine.execTakenWaitEnd busId s
  | .queryWindowClose => Sys2Proof.Machine.execQueryWindowClose s
  | .emptyTransaction => Sys2Proof.Machine.execEmptyTransaction s
  | .configure r => Sys2Proof.Machine.execConfigure r s
  | .setTime epoch => Sys2Proof.Machine.execSetTime epoch s
  | .plug p => Sys2Proof.Machine.execPlug p s
  | .vehicleUpdate pAccept dischargeLimit consent => Sys2Proof.Machine.execVehicleUpdate pAccept dischargeLimit consent s
  | .chainLoad legs => Sys2Proof.Machine.execChainLoad legs s
  | .unplug => Sys2Proof.Machine.execUnplug s
  | .dispatch demand minutes => Sys2Proof.Machine.execDispatch demand minutes s
  | .mark tag => Sys2Proof.Machine.execMark tag s
  | .closeBank => Sys2Proof.Machine.execCloseBank s
  | .releaseBank bank => Sys2Proof.Machine.execReleaseBank bank s
  | .readLog bank index => Sys2Proof.Machine.execReadLog bank index s
  | .readStatus => Sys2Proof.Machine.execReadStatus s
  | .readSession => Sys2Proof.Machine.execReadSession s
  | .readPeerByIndex selector index => Sys2Proof.Machine.execReadPeerByIndex selector index s
  | .readPeerByBay bay => Sys2Proof.Machine.execReadPeerByBay bay s
  | .snapshot => Sys2Proof.Machine.execSnapshot s
  | .readSnapshot => Sys2Proof.Machine.execReadSnapshot s
  | .clearFlags set => Sys2Proof.Machine.execClearFlags set s
  | .setNoticeMask set => Sys2Proof.Machine.execSetNoticeMask set s
  | .clearCounters => Sys2Proof.Machine.execClearCounters s
  | .bayReset => Sys2Proof.Machine.execBayReset s
  | .droppedFrame bytes whole => Sys2Proof.Machine.execDroppedFrame bytes whole s
  | .formatRefusal bytes => Sys2Proof.Machine.execFormatRefusal bytes s

end Sys2Proof.Machine
end

