-- ==== Sys2Proof/Machine/Line.lean ====
section
/-!
DEFINITION. The depot link and the stage line bit time by bit time (R14, R25, R191, R192): how the levels on a line make up bytes
and the command they bring, and how the readback of each driven bit comes to FRAME_SENT or COLLISION. The table's rows are whole
frames, records and moments, so what follows the bits stands beside State and not in it (log entry 51).
-/

namespace Sys2Proof.Machine

/-! ## Watching a line -/

/-- The two lines that carry bytes of ten bit times. -/
inductive SerialLine where
  | depot
  | stage
deriving DecidableEq, Repr

/-- The bit times after which a line is idle (R14, R192): on the depot link without a transition, on the stage line counted from
the last transition too (DESIGN CHOICE, log entry 57). -/
def SerialLine.idleBits : SerialLine → Nat
  | .depot => Config.depotIdleBits
  | .stage => Config.stageIdleBits

/-- The levels at which a line falls idle: the depot link at either, as R14 asks for no transition only; the stage line at 1
(R192). -/
def SerialLine.restsAt : SerialLine → Bool → Bool
  | .depot, _ => true
  | .stage, b => b

/-- What a receiver holds of a line: the level of the last bit time, whether the line is busy, the bit times since its last
transition, and the levels since it became busy. -/
structure LineWatch where
  level : Bool
  busy : Bool
  quiet : Nat
  bits : List Bool
deriving DecidableEq, Repr

/-- A line at rest: idle at level 1 (R191, R192; log entry 1). -/
def LineWatch.rest : LineWatch := { level := true, busy := false, quiet := 0, bits := [] }

/-- Whether the line falls idle with this bit time (R14, R192). R192 does not say from where the stage line's 20 bit times of idle
are counted: they are counted from the last transition, so that the data and stop bits at level 1 which end the last byte count
among them (DESIGN CHOICE, log entry 57). -/
def LineWatch.fallsIdle (l : SerialLine) (w : LineWatch) (b : Bool) : Bool :=
  w.busy && b == w.level && decide (w.quiet + 1 = l.idleBits) && l.restsAt b

/-- Whether the line becomes busy with this bit time: the first transition after idle (R14). -/
def LineWatch.getsBusy (w : LineWatch) (b : Bool) : Bool := !w.busy && b != w.level

/-- What a receiver holds after a bit time at level `b`. -/
def LineWatch.after (l : SerialLine) (w : LineWatch) (b : Bool) : LineWatch :=
  if w.fallsIdle l b then { level := b, busy := false, quiet := 0, bits := [] }
  else if w.busy || w.getsBusy b then
    { level := b, busy := true, quiet := if b == w.level then w.quiet + 1 else 1, bits := w.bits ++ [b] }
  else w

/-- The command of a frame whose bytes the receive path has assembled (R15, R17, R191). -/
def frameCommand (r : List Byte × Bool) : Instr := (decodeFrame r.1 r.2).getD (.droppedFrame r.1 r.2)

/-- The command of a line that becomes busy (R14, R24). -/
def SerialLine.atBusy : SerialLine → List Instr
  | .depot => [.lineBusy]
  | .stage => []

/-- The commands of a line that falls idle, of what it has carried. On the depot link the frame is taken whole at that moment
(R14, log entry 30); on the stage line the record is received (R192). -/
def SerialLine.atIdle (r : List Byte × Bool) : SerialLine → List Instr
  | .depot => [frameCommand r, .lineIdle]
  | .stage => [.measure r.1]

/-- The commands that a bit time brings. -/
def LineWatch.brings (l : SerialLine) (w : LineWatch) (b : Bool) : List Instr :=
  if w.fallsIdle l b then l.atIdle (assemble true (w.bits ++ [b]))
  else if w.getsBusy b then l.atBusy
  else []

/-- The commands that successive bit times bring, in their order. -/
def LineWatch.hears (l : SerialLine) (w : LineWatch) : List Bool → List Instr
  | [] => []
  | b :: bs => w.brings l b ++ (w.after l b).hears l bs

/-! ## Levels and readback (R191, R25) -/

/-- The depot link at the middle of a bit: released by every station, or held at a differential level, in millivolts in the
polarity of level 1. -/
inductive LineLevel where
  | released
  | held (millivolts : Int)
deriving DecidableEq, Repr

/-- Whether the level lies beyond the receiver threshold in the polarity of `v` (R191). -/
def LineLevel.beyond : LineLevel → Bool → Bool
  | .released, _ => false
  | .held mv, true => decide (Config.receiverThreshold < mv)
  | .held mv, false => decide (mv < -Config.receiverThreshold)

/-- What a receiver reads: a released line reads 1 (R191); between the thresholds a free value (log entry 54). -/
def LineLevel.reads (stamp : Nat) : LineLevel → Bool
  | .released => true
  | .held mv =>
    if (LineLevel.held mv).beyond true then true
    else if (LineLevel.held mv).beyond false then false
    else Config.levelBetween stamp

/-- The bits of the frame that the station drives, none while it drives no frame. -/
def Access.drivenBits : Access → List Bool
  | .sending _ bytes _ => bytes.flatMap lineBits
  | _ => []

/-- The bits that are read back: those of the frame through the last CRC bit, so all but the closing stop bit (R25, log entry
53). -/
def Access.readBits (a : Access) : List Bool := a.drivenBits.dropLast

/-- What the readback of bit `n` comes to: COLLISION at a mismatch, FRAME_SENT where the last bit reads back as driven (R25). -/
def readback (driven : List Bool) (n : Nat) (l : LineLevel) : Option Instr :=
  match driven[n]? with
  | none => none
  | some v =>
    if !l.beyond v then some .collision
    else if n + 1 = driven.length then some .frameSent
    else none

/-- What the readback of successive bits from bit `n` on comes to: the first command, and the bit that brings it. -/
def readbackFrom (driven : List Bool) (n : Nat) : List LineLevel → Option (Nat × Instr)
  | [] => none
  | l :: ls =>
    match readback driven n l with
    | some i => some (n, i)
    | none => readbackFrom driven (n + 1) ls

/-! ## The block at its lines -/

/-- The link's side of a bit time: the bit times so far, the bits read back of the frame under way, and the watch. -/
structure LinkPins where
  stamp : Nat
  readBack : Nat
  watch : LineWatch
deriving DecidableEq, Repr

/-- The level that the station drives in this bit time; released while it drives no frame. -/
def LinkPins.drives (p : LinkPins) (s : State) : Option Bool := s.lnk.access.drivenBits[p.readBack]?

/-- What the readback of this bit time comes to. -/
def LinkPins.readsBack (p : LinkPins) (s : State) (l : LineLevel) : Option Instr :=
  readback s.lnk.access.readBits p.readBack l

/-- The commands that a bit time of the depot link brings: the watch's, then the readback's, so that a transition of the very bit
that collides is one of the station's own transmission (R14, log entry 51). -/
def LinkPins.brings (p : LinkPins) (s : State) (l : LineLevel) : List Instr :=
  p.watch.brings .depot (l.reads p.stamp) ++ (p.readsBack s l).toList

/-- The link's side after a bit time: the readback goes on while the station drives the frame. -/
def LinkPins.after (p : LinkPins) (s : State) (l : LineLevel) : LinkPins :=
  { stamp := p.stamp + 1
    readBack := if s.lnk.access.isSending && (p.readsBack s l).isNone then p.readBack + 1 else 0
    watch := p.watch.after .depot (l.reads p.stamp) }

/-- Commands carried out one after another. -/
def execAll : List Instr → State → Host.Outcome State Fault Refusal
  | [], s => .next s
  | i :: is, s =>
    match exec i s with
    | .next t => execAll is t
    | stopped => stopped

/-- The block at a bit time of the depot link. -/
def LinkPins.bitTime (p : LinkPins) (s : State) (l : LineLevel) : LinkPins × Host.Outcome State Fault Refusal :=
  (p.after s l, execAll (p.brings s l) s)

/-- The block at a bit time of the stage line's receive line. -/
def LineWatch.stageBitTime (w : LineWatch) (s : State) (b : Bool) : LineWatch × Host.Outcome State Fault Refusal :=
  (w.after .stage b, execAll (w.brings .stage b) s)

/-- The bits of the SETPOINT record that STG sends on the stage line's transmit line (R95, R192). -/
def State.setpointBits (s : State) : List Bool := s.stg.sent.flatMap lineBits

end Sys2Proof.Machine
end

