-- ==== Sys2Proof/Machine/Pins.lean ====
section
/-!
DEFINITION. The bay port's pins (R176, R177, section 10.1): how the edges of chip select and clock make up a transaction, and
what stands on data out. The table's rows are whole transactions, so the port's pins stand beside State and not in it: the rise of
chip select carries out the command that the transaction spells (log entry 49).
-/

namespace Sys2Proof.Machine

/-- An edge that the port sees: of chip select, of the clock, a rise with the level on data in, and of RESETn. -/
inductive PortEdge where
  | selectFalls
  | clockRises (dataIn : Bool)
  | clockFalls
  | selectRises
  | resetFalls
  | resetRises
deriving DecidableEq, Repr

/-- The port's side of a transaction: power-on reset lasts (at power-up, or while RESETn is low), no transaction is under way, or
chip select has fallen, with the bits taken since then and the clock falls seen since then. -/
inductive PortPins where
  | inReset
  | released
  | selected (taken : List Bool) (falls : Nat)
deriving DecidableEq, Repr

/-- The whole bytes of the bits taken, eight to the byte; the bits after the last whole byte are discarded (R176). -/
def wholeBytes : List Bool → List Byte
  | b7 :: b6 :: b5 :: b4 :: b3 :: b2 :: b1 :: b0 :: rest => byteOf b7 b6 b5 b4 b3 b2 b1 b0 :: wholeBytes rest
  | _ => []

/-- Bit `n` of a response as it is shifted out, 0 past its end (R177). -/
def Response.bitAt (r : Response) (n : Nat) : Bool :=
  ((r.bytes[n / 8]?).map fun b => b.getLsbD (7 - n % 8)).getD false

/-- Data out (R177, R187): released while chip select is high and while power-on reset lasts; else the pending response's first bit
from the fall of chip select on, and its next bit at each fall of the clock. -/
def PortPins.dataOut (p : PortPins) (s : State) : Option Bool :=
  match p with
  | .inReset | .released => none
  | .selected _ falls => some (s.prt.response.bitAt falls)

/-- ATTN, driven low where true: released while power-on reset lasts (R186, R187). -/
def PortPins.attn (p : PortPins) (s : State) : Bool := s.attn && decide (p ≠ .inReset)

/-- The pins after an edge. The edges of the clock while chip select is high are ignored (R176). The beginning of power-on reset
discards the transaction under way, and while it lasts none is taken: the edges of chip select and the clock are ignored (R176, R187).
Where chip select is still low when power-on reset ends, R176 and R177 do not say what the rest of that level is: that data out
stays released and the clock is ignored until chip select falls again is the model's choice (DESIGN CHOICE, log entry 56). -/
def PortPins.after (p : PortPins) (e : PortEdge) : PortPins :=
  match e, p with
  | .resetFalls, _ => .inReset
  | .resetRises, .inReset => .released
  | .resetRises, p => p
  | _, .inReset => .inReset
  | .selectFalls, _ => .selected [] 0
  | .selectRises, _ => .released
  | .clockRises b, .selected taken falls => .selected (taken ++ [b]) falls
  | .clockFalls, .selected taken falls => .selected taken (falls + 1)
  | .clockRises _, .released | .clockFalls, .released => .released

/-- The command that an edge brings: at the rise of chip select, the one that the transaction's whole bytes spell (R176); at the
fall of RESETn and at the end of power-on reset, power-on reset, whose values stand from its beginning to its end (R11, R187, log
entry 9). -/
def PortPins.command (p : PortPins) (e : PortEdge) : Option Instr :=
  match e, p with
  | .selectRises, .selected taken _ => some (decodeTransaction (wholeBytes taken))
  | .resetFalls, _ | .resetRises, .inReset => some .powerOnReset
  | _, _ => none

/-- The block with its port's pins at an edge: the pins move, and the command that the edge brings is carried out. -/
def PortPins.edge (p : PortPins) (s : State) (e : PortEdge) : PortPins × Host.Outcome State Fault Refusal :=
  (p.after e, match p.command e with
    | some i => exec i s
    | none => .next s)

end Sys2Proof.Machine
end

