-- ==== Sys2Proof/Safety.lean ====
section
/-!
DEFINITION. What holds of every state that a run can reach, in the terms the claims use: one invariant for each kind of state,
each from the rules that bound it. A step from any state that meets one gives a state that meets it.
-/

namespace Sys2Proof.Machine

/-- CLK's ranges (section 1.1): epoch count 0..43199, tick 0..19, disagreement age 0..15 or none; and a tick event is owed only
while the tick stands at 19 (the model's own field, log entry 7). -/
abbrev State.ClockOk (s : State) : Prop :=
  s.clk.epoch < 43200 ∧ s.clk.tick < 20 ∧ (∀ a ∈ s.clk.disagree, a ≤ 15) ∧ (s.clk.tickOwed = true → s.clk.tick = 19)

/-- R99, R101: the applied setpoint is 0 while OPEN is set, and otherwise between the lower bound and the target. -/
abbrev State.SetpointOk (s : State) : Prop :=
  if s.stg.isOpen then s.stg.applied = 0 else s.lowerBound ≤ s.stg.applied ∧ s.stg.applied ≤ s.target

/-- Records whose sequence numbers run on without a gap (R165). -/
def consecutive : List LogRecord → Bool
  | [] => true
  | [_] => true
  | a :: b :: rest => decide (b.seq = (a.seq + 1) % 65536) && consecutive (b :: rest)

/-- A bank within the table of section 9.4: EMPTY holds 0 records, FILLING 0..11, FULL 1..12, and they run on. -/
abbrev Bank.Ok (b : Bank) : Prop :=
  (b.state = .empty → b.records = []) ∧ (b.state = .filling → b.records.length ≤ 11) ∧
    (b.state = .full → 1 ≤ b.records.length ∧ b.records.length ≤ 12) ∧ consecutive b.records = true

/-- While a bank fills, the next record's number follows its newest (R165). -/
abbrev Bank.Follows (b : Bank) (seq : Nat) : Prop :=
  b.state = .filling → ∀ r ∈ b.records.getLast?, seq = (r.seq + 1) % 65536

/-- LOG (R164 to R167, R172): the banks, at most one of them FILLING and both FULL where none is, the sequence counter, the 24
counters, the lost count, and a mask within causes 1..21. -/
abbrev State.LogOk (s : State) : Prop :=
  s.log.a.Ok ∧ s.log.b.Ok ∧ s.log.a.Follows s.log.seq ∧ s.log.b.Follows s.log.seq ∧
    ¬(s.log.a.state = .filling ∧ s.log.b.state = .filling) ∧
    (s.log.a.state ≠ .filling → s.log.b.state ≠ .filling → s.log.a.state = .full ∧ s.log.b.state = .full) ∧
    s.log.seq < 65536 ∧ s.log.counters.length = 24 ∧ (∀ n ∈ s.log.counters, n ≤ 63) ∧ s.log.lost ≤ 255 ∧
    s.log.mask &&& ~~~Log.fullMask = 0#24

/-- An entry within the ranges of section 3.1 that R17 checks: bay 1..64, epoch count 0..43199, feeder 0..3, bus 0..255,
departure −43200..86399 or NONE; silence 0..2 while LIVE, 3..14 while STALE. -/
abbrev PeerEntry.Ok (p : PeerEntry) : Prop :=
  (1 ≤ p.bay ∧ p.bay ≤ 64) ∧ p.epoch < 43200 ∧ p.claim.feeder ≤ 3 ∧ p.claim.busId ≤ 255 ∧
    (∀ d ∈ p.claim.dep, -43200 ≤ d ∧ d ≤ 86399) ∧ p.silence < 15 ∧ (p.state = .live ↔ p.silence < 3)

/-- PTB (section 3.1, R37, R42, R43, R49): entries in ascending bay id, each within its ranges, never the own bay, none while
UNCONFIGURED; the configuration is absent while UNCONFIGURED and only then (R181, R188), and its bay id is 1..64 (R180); and
LIMIT_DISAGREE and DUP_BUS hold exactly while a LIVE entry brings them about. -/
abbrev State.PeersOk (s : State) : Prop :=
  (s.lnk.station = .unconfigured ↔ s.cfg = none) ∧ (s.cfg = none → s.ptb.entries = []) ∧
    (∀ c ∈ s.cfg, 1 ≤ c.bayId ∧ c.bayId ≤ 64) ∧
    (s.ptb.entries.map PeerEntry.bay).Pairwise (· < ·) ∧ (∀ p ∈ s.ptb.entries, p.Ok ∧ p.bay ≠ s.ownBay) ∧
    (s.ptb.limitDisagree = true ↔ ∃ p ∈ s.ptb.entries, p.state = .live ∧
      (p.claim.serviceLimit ≠ s.ownService ∨ p.claim.feederLimit ≠ s.ownLimit p.claim.feeder)) ∧
    (s.ptb.dupBus = true ↔ ∃ v ∈ s.ses, ∃ p ∈ s.ptb.entries, p.state = .live ∧ p.claim.busId = v.busId)

/-- The figures of the peer entries whose range in section 3.1 is their width on the line: 16 bits, `drawn` signed. -/
abbrev State.PeerWidthsOk (s : State) : Prop :=
  ∀ p ∈ s.ptb.entries,
    (∀ n ∈ [p.claim.need, p.claim.ask, p.claim.pledge, p.claim.grant, p.claim.serviceLimit, p.claim.feederLimit], n ≤ 65535) ∧
      -32768 ≤ p.claim.drawn ∧ p.claim.drawn ≤ 32767

/-- RSV (R119, R123, R126, R127, R132, R137): while ACTIVE the station is configured, and there is a holder, a demand above 0,
an own standing, a baseline equal to the own grant, and, where the own bay holds the event, its last sequence is the own counter;
while IDLE there is none of the event. -/
abbrev State.ReserveOk (s : State) : Prop :=
  s.rsv.ownSeq < 256 ∧
  if s.rsv.active then
    s.isConfigured = true ∧ s.rsv.holder.isSome = true ∧ 0 < s.rsv.dActive ∧ s.rsv.standing.isSome = true ∧
      s.rsv.baseline = s.alt.grant ∧ (s.rsv.holder = some s.ownBay → s.rsv.lastSeq = s.rsv.ownSeq)
  else
    s.rsv.holder = none ∧ s.rsv.dActive = 0 ∧ s.rsv.remaining = 0 ∧ s.rsv.standing = none ∧ s.rsv.baseline = 0 ∧
      s.rsv.members = [] ∧ s.rsv.ownPledge = 0 ∧ s.rsv.origin = 0 ∧ s.rsv.share = 0 ∧ s.rsv.shareSum = 0 ∧
      s.rsv.shortfall = false

/-- PRK (R142, R146): at most 4 entries, at most one for each bus, none for the live session's bus, and a window only for a
live session. -/
abbrev State.ParkOk (s : State) : Prop :=
  s.prk.entries.length ≤ 4 ∧ (s.prk.entries.map ParkEntry.busId).Nodup ∧
    (∀ v ∈ s.ses, ∀ e ∈ s.prk.entries, e.busId ≠ v.busId) ∧ (s.ses = none → s.prk.query = none)

/-- LNK and ALT by the station state (section 2.5, R27, R28, R30, R68, R74, R91, R93): the streak, DUP_BAY never in ACTIVE, no
computation, no grant and no CLAIM to send outside ACTIVE and ISOLATED, and the cap in ISOLATED. -/
abbrev State.StationOk (s : State) : Prop :=
  s.lnk.streak ≤ 8 ∧ (s.lnk.station = .active → s.lnk.dupBay = false ∧ s.lnk.streak < 8) ∧
    (s.lnk.station = .unconfigured → s.lnk.queue = []) ∧
    (s.lnk.station = .listening → 1 ≤ s.lnk.listening ∧ s.lnk.listening ≤ 3) ∧
    (s.isClaiming = false → s.alt.grant = 0 ∧ s.alt.flight = none ∧ s.lnk.streak = 0 ∧
      s.lnk.access.drives .claim = false ∧ ∀ e ∈ s.lnk.queue, keyOf e.frame ≠ .claim) ∧
    (s.lnk.station = .isolated → s.alt.grant ≤ s.fairShare)

/-- A replacement that waits for the end of a transmission is of the place of the frame being driven (R21). -/
def Access.heldFits : Access → Bool
  | .sending k _ (some (.replace f)) => keyOf f == k
  | _ => true

/-- LNK's queue (section 2.3, R20, R21, R26): one frame for each place, attempt counts 0..12. -/
abbrev State.QueueOk (s : State) : Prop :=
  (s.lnk.queue.map fun e => keyOf e.frame).Nodup ∧ (∀ e ∈ s.lnk.queue, e.attempts ≤ 12) ∧
    s.lnk.access.heldFits = true

/-- A chain within section 4.4: at most 8 legs, the cursor within them, every leg before it DONE or MISSED and every leg from
it on PENDING. -/
abbrev Chain.Ok (c : Chain) : Prop :=
  c.legs.length ≤ 8 ∧ c.cursor ≤ c.legs.length ∧ (∀ l ∈ c.legs.take c.cursor, l.state ≠ .pending) ∧
    ∀ l ∈ c.legs.drop c.cursor, l.state = .pending

/-- Every chain that the station holds: the live session's, the parked contexts' and the candidate's (R58, R144, R147). -/
abbrev State.ChainsOk (s : State) : Prop :=
  (∀ v ∈ s.ses, v.chain.Ok) ∧ (∀ e ∈ s.prk.entries, e.ctx.chain.Ok) ∧
    ∀ q ∈ s.prk.query, ∀ c ∈ q.best, c.ctx.chain.Ok

/-- The accounts of the live session (section 6.3): residues 0..3599 Ws, whole counts within 32 bits. -/
abbrev State.AccountsOk (s : State) : Prop :=
  ∀ v ∈ s.ses, ∀ i ∈ [v.imp, v.exp, v.resp], i.ws < 3600 ∧ inInt32 i.wh = true

/-- PRT (R183, R184): the flag of every condition that holds is set. -/
abbrev State.NoticesOk (s : State) : Prop := ∀ n : Notice, s.holds n = true → s.prt.flags.getLsbD n.bit = true

/-! ## How the claims speak of a command -/

/-- The command answers a next state, and `P` says what it holds. -/
abbrev Answers (i : Instr) (s : State) (P : State → Prop) : Prop := ∃ t, exec i s = .next t ∧ P t

/-- The pending response of `t` answers the command taken in `s` (R178). -/
abbrev Responds (s t : State) (kind : Nat) (status : Status) (payload : List Byte) : Prop :=
  t.prt.answer = nextAnswer s.prt.answer ∧
    t.prt.response =
      { kind := kind, status := status, answer := nextAnswer s.prt.answer, station := t.lnk.station,
        flags := t.prt.flags, payload := payload }

/-- The command is refused: nothing changes but the answer count and the pending response (R179). -/
abbrev Refused (i : Instr) (s : State) (kind : Nat) (status : Status) (payload : List Byte) : Prop :=
  exec i s = .next { s with prt := { s.prt with
    answer := nextAnswer s.prt.answer
    response := { kind := kind, status := status, answer := nextAnswer s.prt.answer, station := s.lnk.station,
                  flags := s.prt.flags, payload := payload } } }

/-- The command changes nothing. -/
abbrev Idle (i : Instr) (s : State) : Prop := exec i s = .next s

/-- A notice flag. -/
def State.flagged (s : State) (n : Notice) : Bool := s.prt.flags.getLsbD n.bit

/-- The counter of a cause (R172). -/
def State.counter (s : State) (c : Cause) : Nat := s.log.counters.getD (c.code - 1) 0

/-- A frame stands in the transmit queue. -/
abbrev State.Queues (s : State) (f : Frame) : Prop := ∃ e ∈ s.lnk.queue, e.frame = f

/-- The receive path takes a frame, and its sender is another station (R14 to R16). -/
abbrev State.Delivers (s : State) (sender : Nat) : Prop :=
  s.receives = true ∧ 1 ≤ sender ∧ sender ≤ 64 ∧ sender ≠ s.ownBay

/-- The frame is dropped: LINK_CRC is counted and nothing else changes (R15, R172). -/
abbrev Dropped (i : Instr) (s : State) : Prop :=
  exec i s = .next { s with log := { s.log with counters := s.log.counters.modify 23 fun n => min 63 (n + 1) } }

/-- The sender of a frame command. -/
def frameSender : Instr → Option Nat
  | .claimFrame b _ _ | .eventFrame b _ _ _ _ | .queryFrame b _ | .offerFrame b _ | .takenFrame b _ _ => some b
  | _ => none

/-- The disagreement age after an epoch boundary (R6). -/
def agedDisagree (a : Option Nat) : Option Nat := a.bind fun n => if n < 15 then some (n + 1) else none

/-- The six fields of a band entry within section 7.3; of an entry marked disabled only the last is checked (R180). A low that
is not below its high is put down to the field high (log entry 24). -/
def bandFieldOk (b : BandCfg) : Nat → Bool
  | 0 => decide (b.enabled = 0 ∨ (45000 ≤ b.low ∧ b.low ≤ 65000))
  | 1 => decide (b.enabled = 0 ∨ (45000 ≤ b.high ∧ b.high ≤ 65000 ∧ b.low < b.high))
  | 2 => decide (b.enabled = 0 ∨ b.response ≤ 100)
  | 3 => decide (b.enabled = 0 ∨ (1 ≤ b.dwell ∧ b.dwell ≤ 600))
  | 4 => decide (b.enabled = 0 ∨ (1 ≤ b.recovery ∧ b.recovery ≤ 6000))
  | _ => decide (b.enabled = 0 ∨ b.enabled = 1)

/-- Field `n` of a configuration record within section 10.3, the fields numbered from 1 in record order (R180, R193). -/
def configFieldOk (r : ConfigRecord) (n : Nat) : Bool :=
  match n with
  | 1 => decide (1 ≤ r.bayId ∧ r.bayId ≤ 64)
  | 2 => decide (r.feeder ≤ 3)
  | 3 => decide (1 ≤ r.bayCount ∧ r.bayCount ≤ 64)
  | 5 => decide (r.feeder = 0 → 1 ≤ r.limits.f0)
  | 6 => decide (r.feeder = 1 → 1 ≤ r.limits.f1)
  | 7 => decide (r.feeder = 2 → 1 ≤ r.limits.f2)
  | 8 => decide (r.feeder = 3 → 1 ≤ r.limits.f3)
  | 9 => decide (1 ≤ r.chargerRating ∧ r.chargerRating ≤ 32767)
  | 10 => decide (r.dischargeRating ≤ 32767)
  | 12 => decide (60 ≤ r.dHold ∧ r.dHold ≤ 7200)
  | 13 => decide (1 ≤ r.rampStep ∧ r.rampStep ≤ 500)
  | 14 => decide (1 ≤ r.eventMax ∧ r.eventMax ≤ 120)
  | 15 => decide (1 ≤ r.parkHold ∧ r.parkHold ≤ 24)
  | 16 => decide (r.lead ≤ 60)
  | 17 => decide (r.window ≤ 60)
  | n =>
    if n < 18 then true
    else if n < 24 then bandFieldOk r.band0 (n - 18)
    else if n < 30 then bandFieldOk r.band1 (n - 24)
    else if n < 36 then bandFieldOk r.band2 (n - 30)
    else if n < 42 then bandFieldOk r.band3 (n - 36)
    else true

/-- The fields of PLUG within R51. -/
abbrev PlugInRange (p : PlugFields) : Prop :=
  (1 ≤ p.busId ∧ p.busId ≤ 255) ∧ (p.cap = 0 ∨ 10000 ≤ p.cap ∧ p.cap ≤ 1000000) ∧ p.e0 ≤ 1000000 ∧ p.floor ≤ 1000000 ∧
    p.consent ≤ 1

/-- The values that power-on reset leaves (R11, R34, R49, R71, R93, R111, R139, R159, R175, R187), but for the level of the
line, which the reset does not move (R14, log entry 1). -/
abbrev PowerOnValues (t : State) : Prop :=
  t.clk = { epoch := 0, tick := 0, set := false, disagree := none, tickOwed := false } ∧
    (t.lnk.station = .unconfigured ∧ t.lnk.queue = [] ∧ t.lnk.access = .notContending ∧ t.lnk.armed = false ∧
      t.lnk.streak = 0 ∧ t.lnk.listening = 0 ∧ t.lnk.dupBay = false) ∧
    t.ptb = { entries := [], limitDisagree := false, dupBus := false } ∧
    (t.lEff = 0 ∧ t.fEff 0 = 0 ∧ t.fEff 1 = 0 ∧ t.fEff 2 = 0 ∧ t.fEff 3 = 0) ∧
    t.ses = none ∧ t.lastClaim = none ∧ t.alt = { flight := none, discard := false, result := none, grant := 0 } ∧
    (t.stg.seq = 0 ∧ t.stg.answer = none ∧ t.target = 0 ∧ t.stg.applied = 0 ∧ t.stg.gap = 0 ∧ t.stg.measured = 0 ∧
      t.stg.volts = 0 ∧ t.stg.isOpen = false ∧ t.stg.meterLost = false ∧ t.stg.stageFault = false) ∧
    t.energy = 0 ∧ t.snap = none ∧
    (t.rsv.freq = none ∧ t.rsv.edgeSeen = false ∧ t.rsv.edgeWatch = 0 ∧ t.rsv.senseFault = false ∧
      t.rsv.bands = List.replicate 4 { phase := .out, count := 0, mark := false } ∧ t.rsv.hostDemand = 0 ∧
      t.rsv.hostDuration = 0 ∧ t.bandDemand = 0 ∧ t.rsv.ownSeq = 0 ∧ t.rsv.active = false ∧ t.rsv.holder = none ∧
      t.rsv.lastSeq = 0 ∧ t.rsv.dActive = 0 ∧ t.rsv.remaining = 0 ∧ t.rsv.refresh = 0 ∧ t.rsv.baseline = 0 ∧
      t.rsv.members = [] ∧ t.rsv.origin = 0 ∧ t.rsv.ownPledge = 0 ∧ t.rsv.standing = none ∧ t.rsv.share = 0 ∧
      t.rsv.shareSum = 0 ∧ t.rsv.shortfall = false) ∧
    (t.prk.entries = [] ∧ t.prk.query = none ∧ t.prk.last = none) ∧
    (t.log.a = { state := .filling, records := [] } ∧ t.log.b = { state := .empty, records := [] } ∧ t.log.seq = 0 ∧
      t.log.counters = List.replicate 24 0 ∧ t.log.lost = 0 ∧ t.log.mask = 0x1FFFFF#24) ∧
    (t.prt.response.kind = 0 ∧ t.prt.response.answer = 0 ∧ t.prt.response.station = .unconfigured ∧
      t.prt.response.flags = t.prt.flags ∧ t.prt.response.payload = [0#8] ∧ t.prt.answer = 0 ∧
      t.prt.flags = 0x20000#20 ∧ t.prt.mask = 0#20 ∧ t.attn = false) ∧
    t.cfg = none

/-! ## Epoch boundaries and tick events, as the claims speak of them -/

/-- The next tick event ends the epoch, and its boundary has not been taken (R1, R2). -/
abbrev State.AtEpochEnd (s : State) : Prop := s.clk.tick = 19 ∧ s.clk.tickOwed = false ∧ s.clk.epoch < 43200

/-- The epoch count after the local advance (R2). -/
def State.nextCount (s : State) : Nat := if s.clk.epoch = 43199 then 0 else s.clk.epoch + 1

/-- The next tick event falls within its epoch (R1), or is the one whose boundary has been taken first (log entry 7). -/
abbrev State.WithinEpoch (s : State) : Prop := s.clk.tick < 19 ∨ s.clk.tickOwed = true

/-- A departure one day rollover later (R9). -/
def dayEarlier (d : Int) : Int := if d - 43200 < -43200 then -43200 else d - 43200

/-- A chain one day rollover later (R58, R144): the legs before the cursor that stood at −43200 go, the others are a day
earlier. -/
def chainDayLater (c : Chain) : Chain :=
  let history := (c.legs.take c.cursor).filter fun l => decide (l.dep ≠ -43200)
  { legs := (history ++ c.legs.drop c.cursor).map fun l => { l with dep := dayEarlier l.dep }, cursor := history.length }

/-- A park entry one day rollover later (R144, R155): the day age rises, to 7 at most, the chain shifts, and the rivals' parked
times are a day earlier. -/
def parkedDayLater (e : ParkEntry) : ParkEntry :=
  { e with
    dayAge := if e.dayAge < 7 then e.dayAge + 1 else 7
    ctx := { e.ctx with chain := chainDayLater e.ctx.chain }
    offered := e.offered.map fun w => { w with rivals := w.rivals.map fun r => { r with parked := r.parked - 43200 } } }

/-- The park entries left where a context is parked for a bus (R142): the bus's own entry goes, and with 4 others the oldest. -/
def roomFor (bus : Nat) (es : List ParkEntry) : List ParkEntry :=
  let others := es.filter fun e => decide (e.busId ≠ bus)
  if 4 ≤ others.length then others.drop 1 else others

/-- The entry that parking a bus's context evicts (R142). -/
def evictedFor (bus : Nat) (es : List ParkEntry) : Option ParkEntry :=
  let others := es.filter fun e => decide (e.busId ≠ bus)
  if 4 ≤ others.length then others.head? else none

/-- The setpoint that follows a change, from the one before it (R99, R101): 0 while OPEN is set, else the former value kept
between the lower bound and the target that now stand. -/
def State.setpointFrom (t : State) (before : Int) : Int :=
  if t.stg.isOpen then 0
  else if before < t.lowerBound then t.lowerBound
  else if t.target < before then t.target
  else before

/-- The entries of the peer table one epoch boundary older (the table of R38). -/
def silenced (ps : List PeerEntry) : List PeerEntry :=
  ps.filterMap fun p =>
    if 15 ≤ p.silence + 1 then none
    else some { p with silence := p.silence + 1, state := if p.silence + 1 ≤ 2 then .live else .stale }

/-- Those entries with their departures a day earlier where the boundary is a day rollover (R39). -/
def agedEntries (rollover : Bool) (ps : List PeerEntry) : List PeerEntry :=
  silenced (if rollover then ps.map fun p => { p with claim := { p.claim with dep := p.claim.dep.map dayEarlier } } else ps)

/-- What an epoch boundary leaves as it was: the configuration, the snapshot, the port but for its flags, the mask in force, the
accounts and vehicle figures of the session, the stage line but for the setpoint, grid sensing and the monitors' states, and the
line. -/
abbrev KeptByBoundary (s t : State) : Prop :=
  t.cfg = s.cfg ∧ t.snap = s.snap ∧ t.pending = s.pending ∧ t.prt = { s.prt with flags := t.prt.flags } ∧
    t.log.mask = s.log.mask ∧ t.alt.result = s.alt.result ∧ t.stg = { s.stg with applied := t.stg.applied } ∧
    (t.rsv.freq = s.rsv.freq ∧ t.rsv.edgeSeen = s.rsv.edgeSeen ∧ t.rsv.edgeWatch = s.rsv.edgeWatch ∧
      t.rsv.senseFault = s.rsv.senseFault ∧ t.rsv.hostDuration = s.rsv.hostDuration ∧
      t.rsv.bands.map (fun b => (b.phase, b.count)) = s.rsv.bands.map fun b => (b.phase, b.count)) ∧
    (t.lnk.dupBay = s.lnk.dupBay ∧ t.lnk.lineIdle = s.lnk.lineIdle ∧ t.lnk.armed = s.lnk.armed) ∧
    ∀ w ∈ t.ses, ∃ v ∈ s.ses,
      (w.busId, w.plugEpoch, w.pAccept, w.consent, w.dischargeLimit, w.imp, w.exp, w.resp) =
        (v.busId, v.plugEpoch, v.pAccept, v.consent, v.dischargeLimit, v.imp, v.exp, v.resp)

/-- What a tick event within an epoch leaves as it was: the peer table, the park table, the own claim, the configuration, the
snapshot, the port but for its flags, the mask in force, the station state, the epoch, and of the session all but its accounts. -/
abbrev KeptByTick (s t : State) : Prop :=
  t.ptb = s.ptb ∧ t.prk = s.prk ∧ t.lastClaim = s.lastClaim ∧ t.cfg = s.cfg ∧ t.snap = s.snap ∧ t.pending = s.pending ∧
    t.prt = { s.prt with flags := t.prt.flags } ∧ t.log.mask = s.log.mask ∧
    t.lnk = { s.lnk with queue := t.lnk.queue, access := t.lnk.access } ∧
    t.clk = { s.clk with tick := t.clk.tick, tickOwed := false } ∧
    (t.rsv.freq = s.rsv.freq ∧ t.rsv.edgeSeen = s.rsv.edgeSeen ∧ t.rsv.hostDuration = s.rsv.hostDuration) ∧
    t.ses.map (fun w => ({ w with imp := zeroIntegrator, exp := zeroIntegrator, resp := zeroIntegrator } : Session)) =
      s.ses.map fun v => { v with imp := zeroIntegrator, exp := zeroIntegrator, resp := zeroIntegrator }

/-- The link holds a frame to be sent: it stands in the queue, or it waits there for the end of the transmission of the frame in
its place (R20, R21). -/
abbrev State.Holds (s : State) (f : Frame) : Prop :=
  (∃ e ∈ s.lnk.queue, e.frame = f) ∨ ∃ bytes, s.lnk.access = .sending (keyOf f) bytes (some (.replace f))

/-- A frame leaves the queue unsent (R21, R23): what is being driven stays until its transmission ends, with the removal held; in
every other case no entry for its place is left. -/
abbrev Unqueued (s t : State) (k : FrameKey) : Prop :=
  (s.lnk.access.drives k = false → ∀ e ∈ t.lnk.queue, keyOf e.frame ≠ k) ∧
    ∀ bytes held, s.lnk.access = .sending k bytes held → t.lnk.access = .sending k bytes (some .remove)

/-- A frame alone leaves the queue unsent, and every other entry stands. -/
abbrev UnqueuedAlone (s t : State) (k : FrameKey) : Prop :=
  (s.lnk.access.drives k = false → t.lnk.queue = s.lnk.queue.filter fun e => decide (keyOf e.frame ≠ k)) ∧
    ∀ bytes held, s.lnk.access = .sending k bytes held → t.lnk = { s.lnk with access := .sending k bytes (some .remove) }

/-! ## Frames and contexts -/

/-- The context body of an OFFER within the ranges of section 8.3 (R17, R147). -/
abbrev OfferInRange (o : Offer) : Prop :=
  (1 ≤ o.busId ∧ o.busId ≤ 255) ∧ o.parkedEpoch < 43200 ∧ o.dayAge ≤ 7 ∧ (10000 ≤ o.cap ∧ o.cap ≤ 1000000) ∧ o.floor ≤ o.cap ∧
    o.lastE ≤ o.cap ∧ o.legs.length ≤ 8 ∧ o.cursor ≤ o.legs.length ∧ o.sessions ≤ 255 ∧
    (o.legs.map RawLeg.dep).Pairwise (· < ·) ∧ (∀ l ∈ o.legs, -43200 ≤ l.dep ∧ l.dep ≤ 86399 ∧ l.req ≤ o.cap) ∧
    (∀ l ∈ o.legs.take o.cursor, l.state = 1 ∨ l.state = 2) ∧ ∀ l ∈ o.legs.drop o.cursor, l.state = 0

/-- The fields of a frame within the ranges of section 2.2, as R17 checks them (a figure whose range is the width of its field is
never outside it). -/
def FrameInRange : Instr → Prop
  | .claimFrame _ e c => e < 43200 ∧ c.feeder ≤ 3 ∧ c.busId ≤ 255 ∧ ∀ d ∈ c.dep, -43200 ≤ d ∧ d ≤ 86399
  | .eventFrame b o _ _ n => o = b ∧ (1 ≤ o ∧ o ≤ 64) ∧ n ≤ 3600
  | .queryFrame _ bus => 1 ≤ bus ∧ bus ≤ 255
  | .offerFrame _ o => OfferInRange o
  | .takenFrame _ bus x => (1 ≤ bus ∧ bus ≤ 255) ∧ 1 ≤ x ∧ x ≤ 64
  | _ => False

/-- A value held within the signed 32-bit range (R62). -/
def heldInt32 (x : Int) : Int := max (-2147483648) (min 2147483647 x)

/-- What a session leaves where it ends (R62, R63, R72): C, floor and the battery estimate of R106, the chain given, each total with
the whole Wh of its integrator, and the sessions count unchanged. -/
def leftBehind (v : Session) (chain : Chain) : Context :=
  { cap := v.cap, floor := v.floor, lastE := (max 0 (min (v.cap : Int) (v.e0 + v.imp.wh - v.exp.wh))).toNat, chain := chain,
    cumImp := heldInt32 (v.cumImp + v.imp.wh), cumExp := heldInt32 (v.cumExp + v.exp.wh),
    cumResp := heldInt32 (v.cumResp + v.resp.wh), sessions := v.sessions }

/-! ## The passes of the allotment, as the claims speak of them -/

/-- What the first `n` claims took in a walk from `before` to `after`. -/
def took (before after : List Taker) (n : Nat) : Nat := (((before.zip after).take n).map fun p => p.2.grant - p.1.grant).sum

/-- What those of them on feeder `f` took. -/
def tookOn (before after : List Taker) (n f : Nat) : Nat :=
  ((((before.zip after).take n).filter fun p => p.1.feeder == f).map fun p => p.2.grant - p.1.grant).sum

/-- One walk over claims in their order (R81, R84 to R86): each takes `amount` of H and of its feeder's h as those before it left
them, and what all of them took is gone from both. -/
abbrev Walked (amount : Taker → Nat → Nat → Nat) (before after : List Taker) (h rest : Headroom) : Prop :=
  after.length = before.length ∧
    (∀ (n : Nat) (b a : Taker), before[n]? = some b → after[n]? = some a → a = { b with
      grant := b.grant + amount b (h.service - took before after n) (h.feeders.get b.feeder - tookOn before after n b.feeder) }) ∧
    rest.service = h.service - took before after before.length ∧
    ∀ f, f ≤ 3 → rest.feeders.get f = h.feeders.get f - tookOn before after before.length f

/-- The claims eligible in a round: a remainder above 0, and headroom on their feeder (R85). -/
def eligible (ts : List Taker) (h : Headroom) : List Taker :=
  ts.filter fun t => decide (t.grant < t.ask ∧ 0 < h.feeders.get t.feeder)

/-- Pass 2 (R85, R86), from claims and headroom to the claims and the headroom that it leaves: it ends with no claim eligible or
no headroom; a share of 1 or more is a round, after which it goes on; a share of 0 is its last round. -/
inductive Filled : List Taker → Headroom → List Taker → Headroom → Prop where
  | ended (ts : List Taker) (h : Headroom) : eligible ts h = [] ∨ h.service = 0 → Filled ts h ts h
  | round (ts us vs : List Taker) (h k l : Headroom) (share : Nat) :
    eligible ts h ≠ [] → share = h.service / (eligible ts h).length → 1 ≤ share →
    Walked (fun t _ left => min share (min (t.ask - t.grant) left)) ts us h k → Filled us k vs l → Filled ts h vs l
  | last (ts us : List Taker) (h k : Headroom) :
    0 < h.service → h.service < (eligible ts h).length →
    Walked (fun t all left => if 0 < all ∧ t.grant < t.ask ∧ 0 < left then 1 else 0) ts us h k → Filled ts h us k

/-! ## Captures, as the claims speak of them -/

/-- The causes with their codes (section 9.2). -/
def causeCodes : List (Cause × Nat) :=
  [(.plugCold, 1), (.plugRestored, 2), (.plugLocal, 3), (.unplug, 4), (.legMissed, 5), (.handoverOut, 6), (.contextExpired, 7),
   (.contextEvicted, 8), (.eventTaken, 9), (.eventChanged, 10), (.eventEnded, 11), (.withdrawn, 12), (.atRisk, 13),
   (.meterLost, 14), (.stageFault, 15), (.senseFault, 16), (.isolated, 17), (.dupBay, 18), (.dupBus, 19), (.clockAdopt, 20),
   (.clockDisagree, 21), (.mark, 22), (.bayReset, 23), (.linkCrc, 24)]

/-- A record goes into the filling bank `mine` at the next index with the next number; the record that brings the bank to 12 makes
it FULL with its notice, and an EMPTY other bank FILLING (R165, R166). -/
abbrev StoredIn (mine other : Log → Bank) (flag : BitVec 20) (s t : State) (r : LogRecord) : Prop :=
  (mine t.log).records = (mine s.log).records ++ [r] ∧ (other t.log).records = (other s.log).records ∧
    t.log.seq = (s.log.seq + 1) % 65536 ∧ t.log.lost = s.log.lost ∧
    ((mine s.log).records.length < 11 →
      (mine t.log).state = .filling ∧ (other t.log).state = (other s.log).state ∧ t.prt.flags = s.prt.flags) ∧
    ((mine s.log).records.length = 11 →
      (mine t.log).state = .full ∧ t.prt.flags = s.prt.flags ||| flag ∧
      (other t.log).state = if (other s.log).state = .empty then .filling else (other s.log).state)

/-- A record is stored in the filling bank, or, where none is filling, lost, counted and noticed (R165 to R167). -/
abbrev StoredOrLost (s t : State) (r : LogRecord) : Prop :=
  t.log.mask = s.log.mask ∧ (s.log.a.state = .filling → StoredIn Log.a Log.b 1#20 s t r) ∧
    (s.log.b.state = .filling → StoredIn Log.b Log.a 2#20 s t r) ∧
    (s.log.a.state ≠ .filling → s.log.b.state ≠ .filling →
      t.log.a = s.log.a ∧ t.log.b = s.log.b ∧ t.log.seq = s.log.seq ∧ t.log.lost = min 255 (s.log.lost + 1) ∧
      t.prt.flags = s.prt.flags ||| 4#20)

/-- A command captures the cause of code `n` with a record as `P` says: where the mask in force holds the code and the command
loses no record (R161, R164, R167), such a record is among those that it stores. -/
abbrev Logged (s t : State) (c : Cause) (n : Nat) (P : LogRecord → Prop) : Prop :=
  s.log.mask.getLsbD (n - 1) = true → s.log.lost < 255 → t.log.lost = s.log.lost →
    ∃ r ∈ t.log.a.records.drop s.log.a.records.length ++ t.log.b.records.drop s.log.b.records.length, r.cause = c ∧ P r

/-- The log of `t` is the log of `s` with this one capture, taken as `t` stands (R161, R162). -/
abbrev CapturedAlone (s t : State) (c : Cause) (detail : BitVec 32) (bus : Option Nat) : Prop :=
  t.log = (({ t with log := s.log } : State).capture c detail bus).log

/-! ## The bay port's edges, as the claims speak of them -/

/-- The edges of the clock that carry bits into the port, a rise and a fall for each. -/
def clocked (bits : List Bool) : List PortEdge := bits.flatMap fun b => [.clockRises b, .clockFalls]

end Sys2Proof.Machine
end

