-- ==== Sys2Proof/Certificates/Slice0/Obligations.lean ====
section
/-!
DEFINITION. The statements about the model, from the numbered rules of spec/. Each says in its docstring which rules it
formalises, and which log entry a clause rests on where the clause is the model's choice. Wherever a command has a meaning, some
statement here concludes that `exec` answers a next state and says what that state holds.
-/

open Sys2Proof Sys2Proof.Machine

/-! ## The machine -/

/-- A step takes the command at the front of the queue and carries it out on the state with the queue's rest. On an empty queue
the block idles: the model's choice, log entry 4. -/
def Obligations.StepTakesTheFrontCommand : Prop :=
  (∀ (c : Instr) (rest : List Instr) (s : State),
      step { s with pending := c :: rest } = exec c { s with pending := rest }) ∧
    ∀ s : State, s.pending = [] → step s = .next s

/-- No rule of the spec stops the part: every command answers a next state, and none touches the queue of those that wait. That
a power-on reset leaves that queue too is the model's reading: log entry 42. -/
def Obligations.EveryCommandAnswersANextState : Prop :=
  ∀ (c : Instr) (s : State), ∃ t, exec c s = .next t ∧ t.pending = s.pending

/-- POWER_ON_RESET leaves every block at the values of its reset rule (R11, R34, R49, R71, R93, R111, R139, R159, R175, R187),
and so is the machine of `State.reset`. A frame under way on the line at the reset is never taken: the line stays busy, so that
CONFIGURE does not arm the receive path before the line has been idle (R14); a line that is idle stays so, and `State.reset` has
one (log entry 1). The owed tick event is the model's own field (log entry 7), and that the commands behind the reset still wait
is its reading (log entry 42). -/
def Obligations.PowerOnResetLeavesItsValues : Prop :=
  (PowerOnValues State.reset ∧ State.reset.lnk.lineIdle = true) ∧
    ∀ s : State, Answers .powerOnReset s fun t =>
      PowerOnValues t ∧ t.pending = s.pending ∧ t.lnk.lineIdle = s.lnk.lineIdle ∧
      (s.lnk.lineIdle = false → ∀ r : ConfigRecord, (∀ n, 1 ≤ n → n ≤ 42 → configFieldOk r n = true) →
        Answers (.configure r) t fun u => u.receives = false ∧ ∀ i b, frameSender i = some b → Idle i u)

/-- The state after reset meets every invariant below. -/
def Obligations.ResetMeetsTheInvariants : Prop :=
  State.reset.ClockOk ∧ State.reset.SetpointOk ∧ State.reset.LogOk ∧ State.reset.PeersOk ∧ State.reset.PeerWidthsOk ∧
    State.reset.ReserveOk ∧ State.reset.ParkOk ∧ State.reset.StationOk ∧ State.reset.QueueOk ∧ State.reset.ChainsOk ∧
    State.reset.AccountsOk ∧ State.reset.NoticesOk

/-! ## Invariants that every step keeps -/

/-- CLK's ranges (section 1.1) hold after every step that begins with them; a tick event is owed at tick 19 alone (the model's own
field, log entry 7). -/
def Obligations.ClockRangesKept : Prop :=
  ∀ s t : State, s.ClockOk → step s = .next t → t.ClockOk

/-- R99, R100, R101, R131: the lower bound and the target are those of R100's table, 0 in the five forced-zero cases, with the
event target of R131; and after every step the applied setpoint stands between the two, and is 0 while OPEN is set. -/
def Obligations.SetpointBoundsKept : Prop :=
  (∀ s : State,
    let forced := s.lnk.station = .unconfigured ∨ s.lnk.station = .listening ∨ s.ses = none ∨ s.prk.query ≠ none ∨
      s.stg.stageFault = true ∨ s.stg.meterLost = true
    (forced → s.lowerBound = 0 ∧ s.target = 0) ∧ (s.rsv.active = false ∨ s.ses = none → s.eventTarget = 0) ∧
      ∀ v, s.ses = some v →
        let low : Int := if v.consent then -(v.dischargeLimit : Int) else 0
        (s.rsv.active = true → s.eventTarget = max ((s.rsv.baseline : Int) - s.rsv.share) low) ∧
        (¬forced → s.lowerBound = low ∧ s.target = max low (min (s.alt.grant : Int)
          (if s.rsv.active = false then (s.alt.grant : Int)
           else if s.rsv.standing = some .withdrawn then (s.rsv.baseline : Int) else s.eventTarget)))) ∧
    ∀ s t : State, s.SetpointOk → step s = .next t → t.SetpointOk

/-- The banks, numbers and counters of LOG stay within section 9.4 and R172: at most one bank fills, records run on without a
gap, counters stay within 0..63. -/
def Obligations.LogKept : Prop :=
  ∀ s t : State, s.LogOk → step s = .next t → t.LogOk

/-- The peer table keeps its order and the ranges of section 3.1, never holds the own bay id, and is empty while UNCONFIGURED;
the configured bay id stays within 1..64; LIMIT_DISAGREE and DUP_BUS hold exactly while a LIVE entry reports other limits or the
live session's bus (R42, R43). The figures whose range is the width of their field on the line stay within it where the command
taken is one that the lines can carry. -/
def Obligations.PeerTableKept : Prop :=
  (∀ s t : State, s.PeersOk → step s = .next t → t.PeersOk) ∧
    ∀ s t : State, s.PeerWidthsOk → (∀ i ∈ s.pending.head?, i.wellFormed = true) → step s = .next t → t.PeerWidthsOk

/-- RSV's event state keeps its shape (R123, R137) and its baseline equals the own grant throughout an event (R132). The peer
table's invariant is a premise: it ties the station state to the configuration. -/
def Obligations.ReserveStateKept : Prop :=
  ∀ s t : State, s.PeersOk → s.ReserveOk → step s = .next t → t.ReserveOk

/-- The park table holds at most 4 entries, at most one for each bus, and never the live session's bus (R142). -/
def Obligations.ParkTableKept : Prop :=
  ∀ s t : State, s.ParkOk → step s = .next t → t.ParkOk

/-- The station state's rules (section 2.5) and the queue's holding limits (R20) are kept: no grant outside ACTIVE and ISOLATED,
the fair-share cap in ISOLATED (R91), one queued frame for each place, attempt counts within 0..12. -/
def Obligations.StationAndQueueKept : Prop :=
  ∀ s t : State, s.StationOk → s.QueueOk → step s = .next t → t.StationOk ∧ t.QueueOk

/-- Every chain that the station holds keeps the shape of section 4.4: at most 8 legs, no leg PENDING before the cursor, every leg
PENDING from it on. -/
def Obligations.ChainsKept : Prop :=
  ∀ s t : State, s.ChainsOk → step s = .next t → t.ChainsOk

/-- R104: an increment within the 32-bit range is added whole, to whole counts and residue together, one that would pass it is
not taken; the accounts of the live session stay within their ranges after every step; and E is E0 with the import's whole Wh and
without the export's, held within 0..C (R106), 0 with no session live. -/
def Obligations.AccountsAddUpAndStayInRange : Prop :=
  (∀ (i : Integrator) (x : Int), i.ws < 3600 →
      (inInt32 (i.wh + ((i.ws : Int) + x) / 3600) = true →
        (i.add x).wh * 3600 + (i.add x).ws = i.wh * 3600 + i.ws + x ∧ (i.add x).ws < 3600) ∧
      (inInt32 (i.wh + ((i.ws : Int) + x) / 3600) = false → i.add x = i)) ∧
    (∀ s t : State, s.AccountsOk → step s = .next t → t.AccountsOk) ∧
    (∀ v : Session, (v.energy : Int) = max 0 (min (v.cap : Int) (v.e0 + v.imp.wh - v.exp.wh))) ∧
    ∀ s : State, (s.ses = none → s.energy = 0) ∧ ∀ v, s.ses = some v → s.energy = v.energy

/-! ## Encodings -/

/-- The numbers and the command records are laid out as R190 and R193 say, most significant byte first, and every command record
that its fields can spell is read back as the command it was written from: no bit of a record is dropped. -/
def Obligations.CommandRecordsRoundTrip : Prop :=
  (∀ n : Nat, u8 n = [BitVec.ofNat 8 n] ∧ u16 n = u8 (n / 256) ++ u8 n ∧ u24 n = u8 (n / 65536) ++ u16 n ∧
    u32 n = u16 (n / 65536) ++ u16 n) ∧
  (∀ x : Int, i16 x = u16 (x % 65536).toNat ∧ i24 x = u24 (x % 16777216).toNat ∧ i32 x = u32 (x % 4294967296).toNat) ∧
  (∀ r : ConfigRecord, encodeRecord (.configure r) =
    u8 1 ++ u8 r.bayId ++ u8 r.feeder ++ u8 r.bayCount ++ u16 r.serviceLimit ++ u16 r.limits.f0 ++ u16 r.limits.f1 ++
      u16 r.limits.f2 ++ u16 r.limits.f3 ++ u16 r.chargerRating ++ u16 r.dischargeRating ++ u16 r.commitment ++ u16 r.dHold ++
      u16 r.rampStep ++ u8 r.eventMax ++ u8 r.parkHold ++ u8 r.lead ++ u8 r.window ++
      ([r.band0, r.band1, r.band2, r.band3].flatMap fun b =>
        u16 b.low ++ u16 b.high ++ u8 b.response ++ u16 b.dwell ++ u16 b.recovery ++ u8 b.enabled) ++ u24 r.mask.toNat) ∧
  (∀ e, encodeRecord (.setTime e) = u8 2 ++ u16 e) ∧
  (∀ p : PlugFields, encodeRecord (.plug p) = u8 3 ++ u8 p.busId ++ u32 p.cap ++ u32 p.e0 ++ u32 p.floor ++ u16 p.pAccept ++
    u8 p.consent ++ u16 p.dischargeLimit) ∧
  (∀ a d c, encodeRecord (.vehicleUpdate a d c) = u8 4 ++ u16 a ++ u16 d ++ u8 c) ∧
  (∀ ls : List NewLeg, encodeRecord (.chainLoad ls) =
    u8 5 ++ u8 ls.length ++ ls.flatMap fun l => u8 l.dayOffset ++ u16 l.minute ++ u24 l.req) ∧
  (∀ d m, encodeRecord (.dispatch d m) = u8 7 ++ u16 d ++ u16 m) ∧
  (∀ tag : BitVec 32, encodeRecord (.mark tag) = u8 8 ++ u32 tag.toNat) ∧
  (∀ b, encodeRecord (.releaseBank b) = u8 10 ++ u8 b) ∧ (∀ b i, encodeRecord (.readLog b i) = u8 11 ++ u8 b ++ u8 i) ∧
  (∀ x i, encodeRecord (.readPeerByIndex x i) = u8 14 ++ u8 x ++ u8 i) ∧
  (∀ b, encodeRecord (.readPeerByBay b) = u8 14 ++ u8 1 ++ u8 b) ∧
  (∀ set : BitVec 24, encodeRecord (.clearFlags set) = u8 17 ++ u24 set.toNat ∧
    encodeRecord (.setNoticeMask set) = u8 18 ++ u24 set.toNat) ∧
  (∀ p ∈ [(Instr.unplug, 6), (.closeBank, 9), (.readStatus, 12), (.readSession, 13), (.snapshot, 15), (.readSnapshot, 16),
          (.clearCounters, 19), (.bayReset, 20)], encodeRecord p.1 = u8 p.2) ∧
  ∀ i : Instr, i.wellFormed = true → i.portKind.isSome = true → decodeTransaction (encodeRecord i) = i

/-- Frames and records are laid out as R191 and R192 say, the checks of R15 and R192 are what decides whether one is read at
all, every frame that a station can drive passes them and is read back as the frame it was, and so is every MEASURE record. Bit
by bit: on a line at rest, the bit times of the frame and 16 more at rest bring LINE_BUSY, then the frame's command and
LINE_IDLE at the moment the line falls idle (R14, log entry 30); those of the record and 20 more at rest bring the record. Bytes
whose last one lacks its stop bit, or after which a bit stands, bring DROPPED_FRAME (how bytes are assembled: log entry 52; the
bits stand beside State: log entry 51). -/
def Obligations.FramesAndMeasuresRoundTrip : Prop :=
  (∀ (f : Frame) (bay epoch : Nat),
    let payload := match f with
      | .claim c => u16 epoch ++ u8 c.feeder ++ u8 c.busId ++ i24 (c.dep.getD 8388607) ++ u16 c.need ++ u16 c.ask ++
          u16 c.pledge ++ i16 c.drawn ++ u16 c.grant ++ u16 c.serviceLimit ++ u16 c.feederLimit ++
          u8 (c.late.toNat + 2 * c.atRisk.toNat + 4 * c.withdrawn.toNat + 8 * c.isolated.toNat + 16 * c.inEvent.toNat)
      | .event q d r => u8 bay ++ u8 q ++ u16 d ++ u16 r
      | .query b => u8 b
      | .offer o => u8 o.busId ++ u16 o.parkedEpoch ++ u8 o.dayAge ++ u32 o.cap ++ u32 o.floor ++ u32 o.lastE ++
          u8 o.legs.length ++ u8 o.cursor ++ i32 o.cumImp ++ i32 o.cumExp ++ i32 o.cumResp ++ u8 o.sessions ++
          o.legs.flatMap fun l => i24 l.dep ++ u24 l.req ++ u8 l.state
      | .taken b x => u8 b ++ u8 x
    let kind := match f with
      | .claim _ => 1
      | .event _ _ _ => 2
      | .query _ => 3
      | .offer _ => 4
      | .taken _ _ => 5
    let body := u8 kind ++ u8 bay ++ u8 payload.length ++ payload
    f.bytes bay epoch = body ++ u16 (crc16 body).toNat) ∧
    (∀ (bytes : List Byte) (whole : Bool), (decodeFrame bytes whole).isSome = true ↔ whole = true ∧
      ∃ (kind bay len c1 c2 : Byte) (payload : List Byte), bytes = kind :: bay :: len :: (payload ++ [c1, c2]) ∧
        len.toNat = payload.length ∧ payload.length ≤ 96 ∧ (1 ≤ bay.toNat ∧ bay.toNat ≤ 64) ∧
        (crc16 (kind :: bay :: len :: payload)).toNat = c1.toNat * 256 + c2.toNat ∧
        ((kind.toNat, payload.length) ∈ [(1, 22), (2, 6), (3, 1), (5, 2)] ∨
          (kind.toNat = 4 ∧ ∃ legs, payload[16]? = some legs ∧ payload.length = 31 + 7 * legs.toNat))) ∧
    crc16 ((List.range 9).map fun i => BitVec.ofNat 8 (0x31 + i)) = 0x29B1#16 ∧
    (∀ (m : Measure) (seq : Nat) (applied : Int), ∃ c d : Byte,
      m.bytes = u8 2 ++ u8 m.seq ++ i16 m.power ++ u16 m.volts ++ u8 (m.fault.toNat + 2 * m.isOpen.toNat) ++ [c] ∧
      setpointRecord seq applied = u8 1 ++ u8 seq ++ i16 applied ++ [d] ∧
      (m.bytes.map BitVec.toNat).sum % 256 = 0 ∧ ((setpointRecord seq applied).map BitVec.toNat).sum % 256 = 0) ∧
    (∀ bytes : List Byte, (decodeMeasure bytes).isSome = true ↔
      bytes.length = 8 ∧ bytes[0]? = some 2#8 ∧ (bytes.map BitVec.toNat).sum % 256 = 0) ∧
  (∀ (f : Frame) (bay epoch : Nat), f.wellFormed = true → 1 ≤ bay → bay ≤ 64 → epoch < 65536 →
      decodeFrame (f.bytes bay epoch) true = some (f.toInstr bay epoch)) ∧
    (∀ m : Measure, m.seq < 256 → -32768 ≤ m.power → m.power ≤ 32767 → m.volts < 65536 →
      decodeMeasure m.bytes = some m) ∧
    (∀ (f : Frame) (bay epoch : Nat), f.wellFormed = true → 1 ≤ bay → bay ≤ 64 → epoch < 65536 →
      LineWatch.rest.hears .depot ((f.bytes bay epoch).flatMap lineBits ++ List.replicate 16 true) =
        [.lineBusy, f.toInstr bay epoch, .lineIdle]) ∧
    (∀ m : Measure,
      LineWatch.rest.hears .stage (m.bytes.flatMap lineBits ++ List.replicate 20 true) = [.measure m.bytes]) ∧
    ∀ (bytes : List Byte) (b : Byte) (bits : List Bool) (n : Nat),
      frameCommand (assemble true (bytes.flatMap lineBits ++ false :: (bitsOf b ++ false :: List.replicate n true))) =
        .droppedFrame (bytes ++ [b]) false ∧
      (bits.length < 9 →
        frameCommand (assemble true (bytes.flatMap lineBits ++ false :: bits)) = .droppedFrame bytes false)

/-! ## The bay port -/

/-- R178, R179: every command but BAY_RESET advances the answer count (255 is followed by 1), and the pending response names its
kind, its status, that count, the station state and the flags as they stand after it. A command not answered OK changes nothing
but the answer count and the pending response. -/
def Obligations.EveryPortCommandIsAnswered : Prop :=
  ∀ (i : Instr) (k : Nat) (s : State), i.portKind = some k → i ≠ .bayReset →
    ∃ status payload, status ≠ .format ∧ (Answers i s fun t => Responds s t k status payload) ∧
      (status ≠ .ok → Refused i s k status payload)

/-- R176, R177, R179, R186, R187. At the port's pins: the bits that clock rises carry between a fall and a rise of chip select,
most significant bit of each byte first, are one transaction; those short of a byte are dropped, and at the rise the command is
taken that the whole bytes are the record of, none where there is none; no other edge of the port brings a command, and the
clock is ignored while chip select is high. At the fall of RESETn the transaction is discarded and power-on reset begins; until
RESETn rises, at which it ends, no transaction is taken, and data out and ATTN are released (that its values stand from its
beginning to its end: log entry 9). At all other times ATTN is asserted while a set flag has its mask bit set. From the fall of
chip select on data out shows the first bit of the pending response, header and payload, after n falls of the clock its bit n, 0
past its end; it is released while chip select is high (the pins stand beside State: log entry 49; chip select low when power-on
reset ends: log entry 56). An empty transaction changes nothing; a record of an unknown kind, of a wrong length, or of 257 bytes
or more is refused with FORMAT, the kind byte received and the count of whole bytes up to 511; and the commands that the
station's or the session's state refuses are answered STATE with the session's presence and both banks' states. The codes of the
session's presence are the model's reading: log entry 28. -/
def Obligations.FormatAndStateRefusals : Prop :=
  (∀ (p : PortPins) (s : State) (bytes : List Byte) (short : List Bool), p ≠ .inReset → short.length < 8 →
    let bits := (bytes.flatMap fun b => (List.range 8).map fun n => b.getLsbD (7 - n)) ++ short
    let q := (clocked bits).foldl PortPins.after (p.edge s .selectFalls).1
    (q.edge s .selectRises).1 = PortPins.released ∧
      (bytes = [] → (q.edge s .selectRises).2 = .next s) ∧
      (∀ i : Instr, i.wellFormed = true → i.portKind.isSome = true → bytes = encodeRecord i →
        (q.edge s .selectRises).2 = exec i s) ∧
      (bytes ≠ [] → 256 < bytes.length ∨ recordLength bytes (field bytes 0 1) ≠ some bytes.length →
        (q.edge s .selectRises).2 = exec (.formatRefusal bytes) s)) ∧
    (∀ (p : PortPins) (s : State) (e : PortEdge),
      (e ∉ [.selectRises, .resetFalls, .resetRises] → (p.edge s e).2 = .next s) ∧
      (e ∉ [.selectFalls, .resetFalls] → PortPins.released.edge s e = (.released, .next s)) ∧
      PortPins.released.dataOut s = none ∧
      p.edge s .resetFalls = (.inReset, exec .powerOnReset s) ∧
      (e ∉ [.resetFalls, .resetRises] → PortPins.inReset.edge s e = (.inReset, .next s)) ∧
      PortPins.inReset.dataOut s = none ∧ PortPins.inReset.attn s = false ∧
      (p ≠ .inReset → (p.attn s = true ↔ ∃ n : Notice, s.flagged n = true ∧ s.prt.mask.getLsbD n.bit = true)) ∧
      PortPins.inReset.edge s .resetRises = (.released, exec .powerOnReset s)) ∧
    (∀ (p : PortPins) (s : State) (bits : List Bool), p ≠ .inReset →
      let r := s.prt.response
      let status := match r.status with
        | .ok => 0
        | .state => 1
        | .range => 2
        | .format => 3
      let station := match r.station with
        | .unconfigured => 0
        | .listening => 1
        | .active => 2
        | .isolated => 3
      let shifted := u8 r.kind ++ u8 status ++ u8 r.answer ++ u8 station ++ u24 r.flags.toNat ++ r.payload
      ((clocked bits).foldl PortPins.after (p.edge s .selectFalls).1).dataOut s =
        some (((shifted[bits.length / 8]?).map fun b => b.getLsbD (7 - bits.length % 8)).getD false)) ∧
    (∀ s : State, Idle .emptyTransaction s) ∧
    (∀ (bytes : List Byte) (s : State), bytes ≠ [] →
      (256 < bytes.length ∨ recordLength bytes (field bytes 0 1) ≠ some bytes.length) →
      Refused (.formatRefusal bytes) s (field bytes 0 1) .format (bytes.take 1 ++ u16 (min 511 bytes.length))) ∧
    ∀ s : State,
      (let code (b : Bank) : Nat := match b.state with
        | .empty => 0
        | .filling => 1
        | .full => 2
       s.statePayload = u8 (if s.ses = none then 0 else if s.prk.query = none then 2 else 1) ++ u8 (code s.log.a) ++
         u8 (code s.log.b)) ∧
      (s.lnk.station ≠ .unconfigured → ∀ r, Refused (.configure r) s 1 .state s.statePayload) ∧
      (s.lnk.station = .unconfigured ∨ s.ses ≠ none → ∀ p, Refused (.plug p) s 3 .state s.statePayload) ∧
      (s.ses = none → (∀ p d c, Refused (.vehicleUpdate p d c) s 4 .state s.statePayload) ∧
        Refused .unplug s 6 .state s.statePayload) ∧
      (s.ses = none ∨ s.prk.query ≠ none → ∀ ls, Refused (.chainLoad ls) s 5 .state s.statePayload) ∧
      (s.lnk.station = .unconfigured → ∀ d m, Refused (.dispatch d m) s 7 .state s.statePayload)

/-- R180, R181, R28: in UNCONFIGURED a record with all 42 fields in range is stored, the station is LISTENING with a countdown of
3, the mask is put in force but for codes outside 1..21, and nothing else changes; otherwise the record is refused with RANGE and
the number of its first field out of range. Which field a low not below its high is put down to, and what is checked of an entry
whose enabled byte is neither yes nor no, are the model's choices: log entry 24. -/
def Obligations.ConfigureChecksAndStores : Prop :=
  ∀ (r : ConfigRecord) (s : State), s.lnk.station = .unconfigured →
    ((∀ n, 1 ≤ n → n ≤ 42 → configFieldOk r n = true) →
      exec (.configure r) s = .next { s with
        cfg := some r
        lnk := { s.lnk with station := .listening, listening := 3, armed := s.lnk.lineIdle }
        log := { s.log with mask := r.mask &&& 0x1FFFFF#24 }
        stg := { s.stg with applied := 0 }
        prt := { s.prt with
          answer := nextAnswer s.prt.answer
          response := { kind := 1, status := .ok, answer := nextAnswer s.prt.answer, station := .listening,
                        flags := s.prt.flags, payload := [3#8] } } }) ∧
    ∀ n, 1 ≤ n → n ≤ 42 → configFieldOk r n = false → (∀ m, 1 ≤ m → m < n → configFieldOk r m = true) →
      Refused (.configure r) s 1 .range (u8 n)

/-- R182, R70: READ_STATUS carries 349 bytes, the figures of one moment in the layout of section 11.4: every figure for which
the spec states a value is spelled out here (the queue group, the event group and the configuration record where they are
present). The filling code 255, the presence codes 1 and 2, the places of figures that the layout names by a rule and the
discard mark that is sent with no computation in flight are the model's reading: log entries 27, 28, 41 and 43; so are the mask
of the configuration as it was given beside the mask in force, log entry 29, and the window figures sent while the query state
is IDLE, log entry 44. READ_SESSION carries 63 bytes and 7 for each leg, all 0 with no session live. Neither changes anything
but the port's answer and response (and the model's own count of free values). -/
def Obligations.StatusAndSessionAreReadWhole : Prop :=
  ∀ s : State,
    (s.log.counters.length = 24 →
      Answers .readStatus s fun t =>
        let p := t.prt.response.payload
        let queued (n : Nat) := (s.lnk.queue.filter fun e => e.frame.kindCode == n).length
        t = { s with prt := t.prt, choices := t.choices } ∧ t.prt.flags = s.prt.flags ∧ t.prt.mask = s.prt.mask ∧
        Responds s t 12 .ok p ∧ p.length = 349 ∧
        p.take 5 = u16 s.clk.epoch ++ u8 s.clk.tick ++ yesNo s.clk.set ++ yesNo s.clk.disagree.isSome ∧
        (p.drop 5).take 9 =
          u8 s.lnk.station.code ++ u8 s.lnk.streak ++ yesNo s.lnk.dupBay ++ u8 (queued 1) ++ u8 (queued 2) ++ u8 (queued 3) ++
            u8 (queued 4) ++ u8 (queued 5) ++ yesNo s.lnk.access.isSending ∧
        (p.drop 14).take 34 =
          u8 (s.ptb.entries.filter PeerEntry.isLive).length ++ u8 (s.ptb.entries.filter fun e => !e.isLive).length ++
            u16 s.lEff ++ u16 (s.fEff 0) ++ u16 (s.fEff 1) ++ u16 (s.fEff 2) ++ u16 (s.fEff 3) ++
            u32 (heldOn s.ptb.entries 0) ++ u32 (heldOn s.ptb.entries 1) ++ u32 (heldOn s.ptb.entries 2) ++
            u32 (heldOn s.ptb.entries 3) ++ u32 (heldTotal s.ptb.entries) ++ yesNo s.ptb.limitDisagree ++ yesNo s.ptb.dupBus ∧
        (p.drop 48).take 2 = u16 s.alt.grant ∧
        (p.drop 50).take 1 = u8 (if s.alt.flight.isSome then 1 else 0) ∧
        (∀ f ∈ s.alt.flight, (p.drop 51).take 2 = u16 f.inputs.epoch) ∧
        (p.drop 53).take 2 = yesNo s.alt.discard ++ yesNo s.alt.result.isSome ∧
        (∀ r ∈ s.alt.result, (p.drop 55).take 14 =
          u16 r.epoch ++ u8 r.origin ++ u16 r.service ++ u16 r.feeders.f0 ++ u16 r.feeders.f1 ++ u16 r.feeders.f2 ++
            u16 r.feeders.f3 ++ u8 r.rows.length) ∧
        (s.alt.result = none → (p.drop 58).take 11 = List.replicate 11 0#8) ∧
        (p.drop 69).take 18 =
          i16 s.target ++ i16 s.stg.applied ++ i16 s.stg.measured ++ u16 s.stg.volts ++ u8 s.stg.seq ++
            u8 (answerCode s.stg.answer) ++ u8 s.stg.gap ++ yesNo s.stg.meterLost ++ yesNo s.stg.stageFault ++
            yesNo s.stg.isOpen ++ u32 s.energy ∧
        (p.drop 87).take 3 = u16 (s.rsv.freq.getD 0) ++ yesNo s.rsv.senseFault ∧
        (∀ i b, i < 4 → s.rsv.bands[i]? = some b →
          (p.drop (90 + 4 * i)).take 1 = u8 b.phase.code ∧ (p.drop (93 + 4 * i)).take 1 = yesNo b.mark ∧
          (b.phase ≠ .triggered → (p.drop (91 + 4 * i)).take 2 = u16 b.count)) ∧
        (p.drop 106).take 9 =
          u16 s.rsv.hostDemand ++ u16 s.rsv.hostDuration ++ u16 s.bandDemand ++ u16 s.selfDemand ++ u8 s.rsv.ownSeq ∧
        (p.drop 115).take 1 = u8 (if s.rsv.active then 1 else 0) ∧
        (s.rsv.active = true → (p.drop 116).take 7 =
          u8 (s.rsv.holder.getD 0) ++ u8 s.rsv.lastSeq ++ u16 s.rsv.dActive ++ u16 s.rsv.remaining ++ u8 s.rsv.refresh) ∧
        (s.rsv.active = false → (p.drop 116).take 7 = List.replicate 7 0#8) ∧
        (p.drop 123).take 20 =
          u16 s.rsv.baseline ++ u8 s.rsv.origin ++ u8 s.rsv.members.length ++ u32 s.rsv.pledgeSum ++ u16 s.rsv.ownPledge ++
            u8 (standingCode s.rsv.standing) ++ u16 s.rsv.share ++ u16 s.rsv.shareSum ++ i32 s.eventTarget ++
            yesNo s.rsv.shortfall ∧
        (p.drop 143).take 1 = u8 s.prk.entries.length ∧
        (∀ i e, i < 4 → s.prk.entries[i]? = some e →
          (p.drop (144 + 18 * i)).take 16 =
            u8 e.busId ++ u8 (if e.offered.isSome then 1 else 0) ++ u16 e.parkedEpoch ++ u8 e.dayAge ++ i24 e.parked ++
              u16 e.hold ++ u32 e.ctx.lastE ++ u8 e.ctx.chain.legs.length ++ u8 e.ctx.chain.cursor ∧
          ∀ w ∈ e.offered, (p.drop (160 + 18 * i)).take 2 = u8 w.wait ++ u8 w.rivals.length) ∧
        (∀ i, i < 4 → s.prk.entries.length ≤ i → (p.drop (144 + 18 * i)).take 18 = List.replicate 18 0#8) ∧
        (p.drop 216).take 8 = (match s.prk.query with
          | none => u8 0 ++ u8 s.prk.idle.busId ++ u8 s.prk.idle.countdown ++ u8 s.prk.idle.offers ++ u8 0 ++ departureBytes none
          | some q => u8 1 ++ u8 q.busId ++ u8 q.countdown ++ u8 q.offers ++ u8 ((q.best.map Candidate.bay).getD 0) ++
              departureBytes (q.best.map Candidate.parked)) ∧
        (p.drop 224).take 1 = yesNo s.prk.last.isSome ∧
        (∀ h ∈ s.prk.last, (p.drop 225).take 10 =
          u8 h.result.code ++ u8 h.busId ++ u16 h.epoch ++ u8 h.offerer ++ u8 h.offers ++ u32 h.lastE) ∧
        (p.drop 235).take 8 =
          u8 s.log.a.state.code ++ u8 s.log.a.records.length ++ u8 s.log.b.state.code ++ u8 s.log.b.records.length ++
            u8 (fillingCode s.log) ++ u16 s.log.seq ++ u8 s.log.lost ∧
        (p.drop 243).take 24 = s.log.counters.flatMap u8 ∧
        (p.drop 267).take 3 = u24 s.log.mask.toNat ∧
        (p.drop 270).take 9 =
          u24 s.prt.flags.toNat ++ u24 s.prt.mask.toNat ++ yesNo s.attn ++ u8 (nextAnswer s.prt.answer) ++
            yesNo s.cfg.isSome ∧
        ∀ r ∈ s.cfg, p.drop 279 = r.bytes) ∧
    (Answers .readSession s fun t =>
      t = { s with prt := { s.prt with answer := t.prt.answer, response := t.prt.response } } ∧
      Responds s t 13 .ok t.prt.response.payload ∧
      (s.ses = none → t.prt.response.payload = List.replicate 63 0#8) ∧
      ∀ v ∈ s.ses,
        t.prt.response.payload.length = 63 + 7 * v.chain.legs.length ∧
        t.prt.response.payload.take 63 =
          u8 (if s.prk.query.isSome then 1 else 2) ++ u8 v.busId ++ u8 v.origin.code ++ u16 v.plugEpoch ++ u32 v.cap ++
            u32 v.floor ++ u32 v.e0 ++ u32 v.energy ++ u16 v.pAccept ++ u16 v.dischargeLimit ++
            u8 (flagBits [v.late, v.atRisk, s.rsv.standing == some .withdrawn, v.consent]) ++ u8 v.chain.legs.length ++
            u8 v.chain.cursor ++ u16 v.need ++ u16 v.ask ++ u16 v.pledge ++ u16 v.dischargeable ++ u16 v.curtailable ++
            i32 v.imp.wh ++ i32 v.exp.wh ++ i32 v.resp.wh ++ i32 v.cumImp ++ i32 v.cumExp ++ i32 v.cumResp ++
            u8 v.sessions ∧
        t.prt.response.payload.drop 63 =
          v.chain.legs.flatMap fun l => i24 l.dep ++ u24 l.req ++ u8 l.state.code)

/-- R184, R183: CLEAR_FLAGS clears each flag of the set, but for those of conditions that hold at that moment; other flags, and
bits that name no flag, change nothing. After every step that begins so, the flag of each condition that holds is set. -/
def Obligations.ClearFlagsSparesHeldConditions : Prop :=
  (∀ (set : BitVec 24) (s : State), Answers (.clearFlags set) s fun t =>
      t = { s with prt := t.prt } ∧ t.prt.mask = s.prt.mask ∧ Responds s t 17 .ok [] ∧
        ∀ n : Notice, t.flagged n = (s.flagged n && !(set.getLsbD n.bit && !s.holds n))) ∧
    ∀ s t : State, s.NoticesOk → step s = .next t → t.NoticesOk

/-- R185: the set replaces the notice mask whole, bits that name no flag are stored as clear, no flag changes; the mask is clear
from power-on reset and kept across a bay reset. -/
def Obligations.SetNoticeMaskReplacesTheMask : Prop :=
  (∀ (set : BitVec 24) (s : State), Answers (.setNoticeMask set) s fun t =>
      t = { s with prt := t.prt } ∧ t.prt.flags = s.prt.flags ∧
        (∀ i, t.prt.mask.toNat.testBit i = (decide (i < 20) && set.getLsbD i)) ∧
        Responds s t 18 .ok (u24 t.prt.mask.toNat)) ∧
    (∀ s : State, Answers .powerOnReset s fun t => t.prt.mask = 0#20) ∧
    ∀ s : State, Answers .bayReset s fun t => t.prt.mask = s.prt.mask

/-- R188, R189, R12, R14, R34, R49, R72, R93, R112, R139, R159, R175: BAY_RESET keeps the clock, the sensing of the grid, the park
table, the log and the notice mask, ends the rest, parks a session whose capacity is known, and answers READY with count 0. What
is parked is the session's C and floor, its battery estimate (R106), its chain, each total with the whole Wh of its integrator
(held within 32 bits), and its sessions count. The level of the line stays (log entry 1). The
log is the log with the BAY_RESET capture, taken before any block acts, and with CONTEXT_EVICTED where parking the session
evicts an entry; the mask in force is the full one. That the other blocks act before that parking, so that the CONTEXT_EVICTED
record shows grant and setpoint 0 and no event, is the model's choice, and so is the READY record's status OK: log entries 21
and 45. That a window's figures stand while the query state is IDLE is log entry 44. Flags of conditions stay only for
CLOCK_UNSET, SENSE_FAULT and STAGE_FAULT while they hold; every event flag is cleared but those that the captures themselves
raise. -/
def Obligations.BayResetKeepsAndEnds : Prop :=
  ∀ s : State, Answers .bayReset s fun t =>
    let captured := { s with prt := { s.prt with flags := 0#20 } }.capture .bayReset 0#32 none
    let acted := { captured with
      log := { captured.log with mask := 0x1FFFFF#24 }
      alt := { captured.alt with grant := 0 }
      stg := { captured.stg with applied := 0 }
      rsv := { captured.rsv with active := false } }
    let parked := s.ses.bind fun v => if v.cap = 0 then none else some v
    let logged := match parked.bind fun v => evictedFor v.busId s.prk.entries with
      | none => acted
      | some e => acted.capture .contextEvicted 0#32 (some e.busId)
    t.clk = { s.clk with disagree := none } ∧
    (t.lnk.station = .unconfigured ∧ t.lnk.queue = [] ∧ t.lnk.access = .notContending ∧ t.lnk.armed = false ∧
      t.lnk.streak = 0 ∧ t.lnk.listening = 0 ∧ t.lnk.dupBay = false ∧
      t.lnk.lineIdle = s.lnk.lineIdle) ∧
    t.ptb = { entries := [], limitDisagree := false, dupBus := false } ∧ t.ses = none ∧ t.lastClaim = none ∧
    t.alt = { flight := none, discard := false, result := none, grant := 0 } ∧
    t.stg = { s.stg with applied := 0, gap := 0, meterLost := false } ∧ t.snap = s.snap ∧
    t.rsv = { Rsv.reset with freq := s.rsv.freq, edgeSeen := s.rsv.edgeSeen, edgeWatch := s.rsv.edgeWatch,
                             senseFault := s.rsv.senseFault } ∧
    t.prk.query = none ∧ t.prk.last = s.prk.last ∧ (s.prk.query = none → t.prk.idle = s.prk.idle) ∧
    (s.prk.query ≠ none → t.prk.idle.offers = 0) ∧
    t.prk.entries = (match parked with
      | none => s.prk.entries.map fun e => { e with offered := none }
      | some v => (roomFor v.busId s.prk.entries).map (fun e => { e with offered := none }) ++
          [{ busId := v.busId, parkedEpoch := s.clk.epoch, dayAge := 0, hold := (s.cfg.map fun c => c.parkHold * 1800).getD 0,
             ctx := leftBehind v v.chain, offered := none }]) ∧
    t.log = logged.log ∧ t.cfg = none ∧
    t.prt.answer = 0 ∧ t.prt.mask = s.prt.mask ∧
    t.prt.response = { kind := 0, status := .ok, answer := 0, station := .unconfigured, flags := t.prt.flags,
                       payload := [1#8] } ∧
    (∀ n : Notice, n = .clockUnset ∨ n = .senseFault ∨ n = .stageFault →
      t.flagged n = (s.flagged n && s.holds n)) ∧
    ∀ n : Notice, n ∉ [.clockUnset, .senseFault, .stageFault] → t.flagged n = logged.flagged n

/-! ## The clock -/

/-- R7, R3, R8: an accepted SET_TIME is an epoch restart to its value, with the clock SET, one epoch boundary (every peer entry is
one older, the disagreement age advances) and no day rollover; a computation in flight is abandoned (R79). A value above 43199 is
refused with RANGE. A tick event that is still owed when the epoch restarts comes no more: the model's choice, log entry 39. -/
def Obligations.SetTimeRestartsTheEpoch : Prop :=
  ∀ (e : Nat) (s : State),
    (e < 43200 → Answers (.setTime e) s fun t =>
      t.clk = { epoch := e, tick := 0, set := true, disagree := agedDisagree s.clk.disagree, tickOwed := false } ∧
      t.ptb.entries = agedEntries false s.ptb.entries ∧ (∀ f ∈ t.alt.flight, f.inputs.epoch = e ∧ f.ticks = 0) ∧
      t.cfg = s.cfg ∧ t.snap = s.snap ∧ t.log.mask = s.log.mask ∧ t.prt.mask = s.prt.mask ∧ Responds s t 2 .ok []) ∧
    (43200 ≤ e → Refused (.setTime e) s 2 .range [1#8])

/-- R1, R2, R4, R6, R9, R38, R39: the local advance. A tick event within the epoch advances the tick alone; the 20th brings the
tick to 0 and the epoch count to the next, 43199 followed by 0, and ages the peer table, with every departure in it a day earlier
at midnight. EPOCH_BOUNDARY is that advance taken before the tick event that completes with it, which then brings the tick from 19
to 0 (the model's form of R2's "either order", log entry 7), and CLOCK_DISAGREE_END the boundary at which a disagreement age of 15
becomes none: that the row is the whole boundary is log entry 6. Where no boundary is due, EPOCH_BOUNDARY has no effect (log
entry 5). -/
def Obligations.LocalAdvance : Prop :=
  ∀ s : State,
    (s.clk.tickOwed = false → s.clk.tick < 19 → Answers .tickEvent s fun t =>
      t.clk = { s.clk with tick := s.clk.tick + 1 } ∧ t.ptb = s.ptb) ∧
    (s.clk.tickOwed = true → Answers .tickEvent s fun t =>
      t.clk = { s.clk with tick := 0, tickOwed := false } ∧ t.ptb = s.ptb) ∧
    (s.AtEpochEnd →
      (Answers .tickEvent s fun t =>
        t.clk = { s.clk with epoch := s.nextCount, tick := 0, disagree := agedDisagree s.clk.disagree } ∧
        t.ptb.entries = agedEntries (s.clk.epoch == 43199) s.ptb.entries) ∧
      (Answers .epochBoundary s fun t =>
        t.clk = { s.clk with epoch := s.nextCount, disagree := agedDisagree s.clk.disagree, tickOwed := true } ∧
        t.ptb.entries = agedEntries (s.clk.epoch == 43199) s.ptb.entries) ∧
      (s.clk.disagree = some 15 → Answers .clockDisagreeEnd s fun t =>
        t.clk = { s.clk with epoch := s.nextCount, disagree := none, tickOwed := true } ∧
        t.ptb.entries = agedEntries (s.clk.epoch == 43199) s.ptb.entries)) ∧
    (s.clk.tick ≠ 19 ∨ s.clk.tickOwed = true → Idle .epochBoundary s)

/-- What the rows that are a whole epoch boundary (R10) or a whole tick event (R1) leave as it was. That these rows stand for the
whole boundary or tick at which their event comes about is the model's choice: log entry 6. -/
def Obligations.FramesOfBoundariesAndTicks : Prop :=
  (∀ (i : Instr) (s : State),
      (i ∈ [.epochBoundary, .clockDisagreeEnd, .takenExpiry, .listeningPeriodEnd, .eventRefresh, .eventCountdownEnd,
            .queryWindowClose] ∨
        ∃ n, i = .peerStale n ∨ i = .peerRemoved n ∨ i = .contextExpired n ∨ i = .takenWaitEnd n) →
      Answers i s fun t => KeptByBoundary s t) ∧
    ∀ (i : Instr) (s : State), s.WithinEpoch →
      (i ∈ [.tickEvent] ∨ (s.losesMeter = true ∧ i = .meterLost) ∨ (s.edgeWatchExpires = true ∧ i = .edgeWatchExpiry) ∨
        ∃ n b x, s.rsv.bands[n]? = some b ∧ s.steppedBands[n]? = some x ∧
          ((i = .bandTrigger n ∧ b.phase = .dwell ∧ x.phase = .triggered) ∨
            (i = .bandRecovered n ∧ b.phase = .recover ∧ x.phase = .out))) →
      Answers i s fun t => KeptByTick s t

/-- R5, R6, R36: the max-sync rule on a CLAIM from another station, with its fields in range. A count 1 to 5 ahead is adopted by
an epoch restart and captured; one 6 to 43194 away starts or renews a disagreement, captured where none held; the others move
nothing. The adoption's record carries the old count, that of a disagreement the sender,
and so does that of DUP_BUS where the claim brings it about (R43, R162, R163). That the adoption's record is stamped with the new
count and tick 0 is the model's reading: log entry 22. In every case the sender's entry then holds the
claim, LIVE with silence 0, its departure a day earlier where the sender stands before a midnight that this station has passed;
and the entries of the other bays stand as they stood, or one boundary older where the claim was adopted. A tick event still
owed at an adoption comes no more: the model's choice, log entry 39. That the departure is judged by the count that the max-sync
rule compared is the model's reading: log entry 23. -/
def Obligations.ClaimFollowsMaxSync : Prop :=
  ∀ (b e : Nat) (c : Claim) (s : State), s.Delivers b → s.clk.epoch < 43200 → e < 43200 → c.feeder ≤ 3 → c.busId ≤ 255 →
    (∀ d ∈ c.dep, -43200 ≤ d ∧ d ≤ 86399) → s.log.counters.length = 24 →
    Answers (.claimFrame b e c) s fun t =>
      let d := (e + 43200 - s.clk.epoch) % 43200
      (d = 0 ∨ 43195 ≤ d → t.clk = s.clk) ∧
      (1 ≤ d ∧ d ≤ 5 →
        t.clk = { s.clk with epoch := e, tick := 0, disagree := agedDisagree s.clk.disagree, tickOwed := false } ∧
        t.counter .clockAdopt = min 63 (s.counter .clockAdopt + 1) ∧
        Logged s t .clockAdopt 20 fun r => r.detail = BitVec.ofNat 32 s.clk.epoch ∧ r.epoch = e ∧ r.tick = 0) ∧
      (6 ≤ d ∧ d ≤ 43194 →
        t.clk = { s.clk with disagree := some 0 } ∧
        (s.clk.disagree = none →
          t.counter .clockDisagree = min 63 (s.counter .clockDisagree + 1) ∧ t.flagged .clockDisagree = true ∧
          Logged s t .clockDisagree 21 fun r => r.detail = BitVec.ofNat 32 b ∧ r.epoch = s.clk.epoch ∧ r.tick = s.clk.tick) ∧
        (s.clk.disagree ≠ none → t.counter .clockDisagree = s.counter .clockDisagree)) ∧
      (t.ptb.entries.find? fun p => p.bay == b) =
        some { bay := b, epoch := e,
               claim := { c with dep := if 43195 ≤ d ∧ s.clk.epoch < e then c.dep.map dayEarlier else c.dep },
               state := .live, silence := 0 } ∧
      (∀ n, n ≠ b → (t.ptb.entries.find? fun p => p.bay == n) =
        ((if 1 ≤ d ∧ d ≤ 5 then agedEntries (decide (e < s.clk.epoch)) s.ptb.entries else s.ptb.entries).find?
          fun p => p.bay == n)) ∧
      (s.PeersOk → s.ptb.dupBus = false → t.ptb.dupBus = true →
        Logged s t .dupBus 19 fun r => r.detail = BitVec.ofNat 32 b ∧ r.busId = c.busId) ∧
      t.cfg = s.cfg ∧ t.snap = s.snap ∧ t.prt.response = s.prt.response ∧ t.prt.mask = s.prt.mask

/-! ## The depot link -/

/-- R19, R24, R18: LNK chooses, of the entries below 12 attempts, the earliest of the highest kind present, in the order EVENT,
TAKEN, OFFER, QUERY, CLAIM. At idle it starts a backoff of ((bay id × 5 + attempts × 11) mod 64) × 8 bit times for it; when the
line becomes busy it waits; when the backoff runs out with the line idle it drives the frame, a CLAIM with the epoch count of
that moment. Nothing else changes, but that the receive path is armed at idle and by the first transition after it, and disarmed
by driving the line, which stays idle until its own first transition, LINE_BUSY (R14 in the model's form: log entries 30 and
59). Entries stand in the queue in the order of their times of entry: log entry 33. -/
def Obligations.AccessToTheLine : Prop :=
  (∀ (q : List QEntry) (e : QEntry), chooseEntry q = some e →
      let rank (x : QEntry) : Nat := match x.frame with
        | .event _ _ _ => 0
        | .taken _ _ => 1
        | .offer _ => 2
        | .query _ => 3
        | .claim _ => 4
      e.attempts < 12 ∧ (∀ x ∈ q, x.attempts < 12 → rank e ≤ rank x) ∧
      ∃ before after, q = before ++ e :: after ∧ ∀ x ∈ before, x.attempts < 12 → rank e < rank x) ∧
    (∀ q : List QEntry, chooseEntry q = none ↔ ∀ x ∈ q, 12 ≤ x.attempts) ∧
    ∀ s : State,
      (s.lnk.access.isSending = false →
        exec .lineBusy s = .next { s with lnk := { s.lnk with
          lineIdle := false
          armed := if s.lnk.lineIdle then decide (s.lnk.station ≠ .unconfigured) else s.lnk.armed
          access := if (chooseEntry s.lnk.queue).isSome then .waiting else .notContending } } ∧
        ((∀ k n, s.lnk.access ≠ .backoff k n) →
          exec .lineIdle s = .next { s with lnk := { s.lnk with
            lineIdle := true
            armed := decide (s.lnk.station ≠ .unconfigured)
            access := match chooseEntry s.lnk.queue with
              | none => .notContending
              | some e => .backoff (keyOf e.frame) ((s.ownBay * 5 + e.attempts * 11) % 64 * 8) } }) ∧
        ∀ k n, s.lnk.access = .backoff k n →
          exec .lineIdle s = .next { s with lnk := { s.lnk with
            lineIdle := true, armed := decide (s.lnk.station ≠ .unconfigured) } }) ∧
      (s.lnk.access.isSending = true →
        exec .lineBusy s = .next { s with lnk := { s.lnk with lineIdle := false, armed := false } }) ∧
      ∀ (k : FrameKey) (n : Nat) (e : QEntry), s.lnk.access = .backoff k n → s.lnk.lineIdle = true →
        s.lnk.queue.find? (QEntry.hasKey k) = some e →
        exec .backoffExpiry s = .next { s with lnk := { s.lnk with
          access := .sending k (e.frame.bytes s.ownBay s.clk.epoch) none, armed := false } }

/-- R25, R21, R30, R32, R26, R22: a frame sent whole leaves the queue, a replacement held for it enters in its place, and a
CLAIM sent makes the streak 0 and ends ISOLATED unless DUP_BAY holds; a collision adds an attempt, up to 12, and keeps the
frame, or lets in what was held for it. A claim replaced so counts as missed, at the collision (log entry 16; the claims that
waited for its end and gave way have counted at their boundaries, log entry 17), and the eighth missed epoch of an ACTIVE
station is its entry into ISOLATED, captured, noticed and capped; nothing else changes. That a replacement keeps the place of a
frame that was sent is the model's choice, log entry 50, and so is its age, which starts then, log entry 46. The two commands
come from the readback (R25, R191): FRAME_SENT with the last CRC bit where every bit lies beyond the threshold as it is driven,
COLLISION with the first bit that does not; the closing stop bit is not read back (log entry 53). A line held near 0 V is a
mismatch for whatever is driven. After a frame sent the line is busy, and LNK waits if it has a frame to send; so it does after
a collision on a busy line. Where the first bit reads back wrongly and the line has no transition, it is idle all the while
(R14), and a new backoff begins at once: the model's reading, log entry 59. A first bit that reads back as driven is the
transition that makes the line busy. -/
def Obligations.EndsOfTransmission : Prop :=
  ∀ (k : FrameKey) (bytes : List Byte) (held : Option Held) (s : State), s.lnk.access = .sending k bytes held →
    (Answers .frameSent s fun t =>
      t = { s with lnk := t.lnk } ∧
      t.lnk.queue = (match held with
        | some (.replace f) => s.lnk.queue.map fun e => if keyOf e.frame = k then { frame := f, attempts := 0, age := 0 } else e
        | _ => s.lnk.queue.filter fun e => decide (keyOf e.frame ≠ k)) ∧
      t.lnk.streak = (if k = .claim then 0 else s.lnk.streak) ∧
      t.lnk.station = (if k = .claim ∧ s.lnk.station = .isolated ∧ s.lnk.dupBay = false then .active else s.lnk.station) ∧
      t.lnk.access = (if (chooseEntry t.lnk.queue).isSome then .waiting else .notContending) ∧
      t.lnk.dupBay = s.lnk.dupBay ∧ t.lnk.listening = s.lnk.listening ∧ t.lnk.lineIdle = false ∧
      t.lnk.armed = s.lnk.armed) ∧
    (Answers .collision s fun t =>
      t.lnk.queue = (match held with
        | some (.replace f) => s.lnk.queue.map fun e => if keyOf e.frame = k then { frame := f, attempts := 0, age := 0 } else e
        | some .remove => s.lnk.queue.filter fun e => decide (keyOf e.frame ≠ k)
        | none => s.lnk.queue.map fun e =>
            if keyOf e.frame = k then { e with attempts := min 12 (e.attempts + 1) } else e) ∧
      t.lnk.access = (match chooseEntry t.lnk.queue with
        | none => .notContending
        | some e =>
          if s.lnk.lineIdle then .backoff (keyOf e.frame) ((s.ownBay * 5 + e.attempts * 11) % 64 * 8) else .waiting) ∧
      (k = .claim → held ≠ none →
        t.lnk = { s.lnk with queue := t.lnk.queue, access := t.lnk.access, streak := min 8 (s.lnk.streak + 1)
                             station := if s.lnk.station = .active ∧ 7 ≤ s.lnk.streak then .isolated else s.lnk.station } ∧
        (s.lnk.station = .active ∧ 7 ≤ s.lnk.streak →
          t.alt = { s.alt with grant := min s.alt.grant s.fairShare } ∧
          t.rsv = { s.rsv with baseline := if s.rsv.active then min s.alt.grant s.fairShare else s.rsv.baseline } ∧
          t.stg = { s.stg with applied := t.setpointFrom s.stg.applied } ∧ t.flagged .isolated = true ∧
          (s.log.counters.length = 24 → t.counter .isolated = min 63 (s.counter .isolated + 1)) ∧
          CapturedAlone s t .isolated 0#32 none ∧
          t = { s with lnk := t.lnk, alt := t.alt, rsv := t.rsv, stg := t.stg, log := t.log, prt := t.prt }) ∧
        (¬(s.lnk.station = .active ∧ 7 ≤ s.lnk.streak) → t = { s with lnk := t.lnk })) ∧
      (k ≠ .claim ∨ held = none → t = { s with lnk := { s.lnk with queue := t.lnk.queue, access := t.lnk.access } })) ∧
    (bytes ≠ [] → ∀ n : Nat,
      ((LinkPins.mk n 0 .rest).bitTime s .released).1.watch = .rest ∧
        ((LinkPins.mk n 0 .rest).bitTime s .released).2 = exec .collision s ∧
        ∀ mv : Int, mv < -200 → ((LinkPins.mk n 0 .rest).bitTime s (.held mv)).2 = exec .lineBusy s) ∧
    ∀ bits : List Bool, bits = s.lnk.access.readBits →
      bits.length = 10 * bytes.length - 1 ∧
      (∀ levels : List LineLevel, bits ≠ [] → bits.length ≤ levels.length →
        (∀ (n : Nat) (v : Bool) (l : LineLevel), bits[n]? = some v → levels[n]? = some l → l.beyond v = true) →
        readbackFrom bits 0 levels = some (bits.length - 1, .frameSent)) ∧
      (∀ (levels : List LineLevel) (n : Nat) (v : Bool) (l : LineLevel), bits[n]? = some v → levels[n]? = some l →
        l.beyond v = false →
        (∀ (m : Nat) (w : Bool) (k : LineLevel), m < n → bits[m]? = some w → levels[m]? = some k → k.beyond w = true) →
        readbackFrom bits 0 levels = some (n, .collision)) ∧
      ∀ (n : Nat) (mv : Int), n < bits.length → -200 ≤ mv → mv ≤ 200 →
        readback bits n (.held mv) = some .collision

/-- R14 to R17, R31: a frame that the receive path does not take changes nothing; one of bad structure, of a sender outside
1..64, or with a field out of the range of section 2.2 or chapter 8 (a CLAIM's epoch count, feeder, bus or departure; an EVENT
whose origin is not its sender, or with remaining epochs above 3600; a bus of QUERY, OFFER or TAKEN, a chosen bay, any field or
order of an OFFER's body) is dropped and counted under LINK_CRC alone; one with the own bay id begins DUP_BAY, captured and
noticed once, and sends an ACTIVE station into ISOLATED, captured after it. -/
def Obligations.FramesThatAreNotDelivered : Prop :=
  (∀ (i : Instr) (b : Nat) (s : State), frameSender i = some b →
    (s.receives = false → Idle i s) ∧
    (s.receives = true → ¬(1 ≤ b ∧ b ≤ 64) → Dropped i s) ∧
    (s.Delivers b → ¬FrameInRange i → Dropped i s) ∧
    (s.receives = true → 1 ≤ b → b ≤ 64 → b = s.ownBay →
      (s.lnk.dupBay = true → Idle i s) ∧
      (s.lnk.dupBay = false → s.log.counters.length = 24 → Answers i s fun t =>
        t.lnk.dupBay = true ∧ t.flagged .dupBay = true ∧ t.counter .dupBay = min 63 (s.counter .dupBay + 1) ∧
        t.lnk.station = (if s.lnk.station = .active then .isolated else s.lnk.station) ∧
        (s.lnk.station = .active → t.flagged .isolated = true ∧ t.alt.grant = min s.alt.grant s.fairShare ∧
          t.counter .isolated = min 63 (s.counter .isolated + 1) ∧
          CapturedAlone (s.capture .dupBay 0#32 none) t .isolated 0#32 none) ∧
        (s.lnk.station ≠ .active → CapturedAlone s t .dupBay 0#32 none) ∧
        t.clk = s.clk ∧ t.ptb = s.ptb ∧ t.ses = s.ses ∧ t.prk = s.prk ∧ t.lnk.queue = s.lnk.queue))) ∧
    ∀ (bytes : List Byte) (whole : Bool) (s : State),
      (s.receives = false → Idle (.droppedFrame bytes whole) s) ∧
      (s.receives = true → decodeFrame bytes whole = none → Dropped (.droppedFrame bytes whole) s) ∧
      ∀ i b, s.receives = true → decodeFrame bytes whole = some i → frameSender i = some b → b ≠ s.ownBay →
        ¬FrameInRange i → Dropped (.droppedFrame bytes whole) s

/-- R23, R21, R28, R29: at the fourth boundary after it was queued a TAKEN leaves the queue unsent; one that is being driven
stays until its transmission ends, with its removal held, and a replacement already held for it stands. The only TAKEN that the
queue can then hold is one that the close of a window queues at that same boundary. The boundary that brings the listening
countdown to 0 makes the station ACTIVE, or ISOLATED where DUP_BAY holds, with its first claim built at that same boundary. That
the two rows are the whole boundary is the model's choice: log entry 6; that a held TAKEN does not age is log entry 46. -/
def Obligations.TakenExpiryAndListeningEnd : Prop :=
  ∀ s : State, s.AtEpochEnd →
    (∀ e ∈ s.lnk.queue, keyOf e.frame = .taken → e.age = 3 → (∀ x ∈ s.lnk.queue, keyOf x.frame = .taken → x = e) →
      Answers .takenExpiry s fun t =>
        t.clk.epoch = s.nextCount ∧
        (s.lnk.access.drives .taken = false → ∀ x ∈ t.lnk.queue, keyOf x.frame = .taken →
          ∃ q ∈ s.prk.query, ∃ c ∈ q.best, q.countdown ≤ 1 ∧ x = { frame := .taken q.busId c.bay, attempts := 0, age := 0 }) ∧
        ∀ bytes held, s.lnk.access = .sending .taken bytes held → (∀ q ∈ s.prk.query, q.best = none ∨ 1 < q.countdown) →
          (∃ x ∈ t.lnk.queue, x = { e with attempts := 0, age := 4 }) ∧
          t.lnk.access = .sending .taken bytes (some (match held with
            | some h => h
            | none => .remove))) ∧
    (s.lnk.station = .listening → s.lnk.listening = 1 → Answers .listeningPeriodEnd s fun t =>
      t.lnk.station = (if s.lnk.dupBay then .isolated else .active) ∧ t.lnk.listening = 0 ∧
      t.lnk.streak = s.lnk.streak ∧ (s.lnk.dupBay = true → t.flagged .isolated = true) ∧
      ∃ b, t.lastClaim = some b ∧ b.epoch = s.nextCount ∧ b.claim.isolated = s.lnk.dupBay ∧ t.Holds (.claim b.claim))

/-- R22, R30, R31, R68, R69, R73, R74: at an epoch boundary in ACTIVE or ISOLATED a claim still queued and not in transmission
counts as missed, and so does one that waits, still unsent, for the end of the transmission of the claim before it (log entry
17); the eighth miss of an ACTIVE station is its entry into ISOLATED; the station builds its claim for the new epoch from the
readiness just computed, the need and the ask capped at the fair share in ISOLATED, the pledge the frozen one during an event,
and all three 0 for a pending session or none; LNK holds it to be sent, and, with the reserve unit IDLE, a computation starts
over it, over the peer entries after their aging, and from rotation origin (epoch count mod 64); during an event none starts.
The pledge and the WITHDRAWN flag follow the standing before that boundary's withdrawal check (R135): the model's reading, log
entry 13. -/
def Obligations.BoundaryClaimsAndLatches : Prop :=
  ∀ s : State, s.AtEpochEnd → (∀ q ∈ s.prk.query, 1 < q.countdown) → (s.lnk.station = .active ∨ s.lnk.station = .isolated) →
    Answers .epochBoundary s fun t =>
      (∃ b, t.lastClaim = some b ∧ b.epoch = s.nextCount ∧ t.Holds (.claim b.claim) ∧
        b.claim.isolated = (t.lnk.station == .isolated) ∧ b.claim.drawn = s.stg.measured ∧
        b.claim.feeder = s.ownFeeder ∧ b.claim.serviceLimit = s.ownService ∧ b.claim.feederLimit = s.ownLimit s.ownFeeder ∧
        b.claim.busId = s.liveBus ∧ b.claim.grant = t.alt.grant ∧
        (s.ses = none → (b.claim.dep, b.claim.need, b.claim.ask, b.claim.pledge) = (none, 0, 0, 0) ∧
          (b.claim.late, b.claim.atRisk) = (false, false)) ∧
        (s.ses ≠ none → ∃ w, t.ses = some w ∧
          b.claim.dep = (w.chain.legs[w.chain.cursor]?).map Leg.dep ∧ b.claim.late = w.late ∧ b.claim.atRisk = w.atRisk ∧
          (s.prk.query ≠ none → (b.claim.need, b.claim.ask, b.claim.pledge) = (0, 0, 0)) ∧
          (s.prk.query = none →
            b.claim.ask = (if t.lnk.station = .isolated then min w.ask t.fairShare else w.ask) ∧
            b.claim.need = (if t.lnk.station = .isolated then min w.need b.claim.ask else w.need) ∧
            (s.rsv.active = false → b.claim.pledge = w.pledge) ∧
            (s.ReserveOk → s.rsv.active = true → 1 < s.rsv.remaining →
              b.claim.pledge = if s.rsv.standing = some .member then s.rsv.ownPledge else 0))) ∧
        (s.ReserveOk → s.rsv.active = false ∨ 1 < s.rsv.remaining →
          b.claim.inEvent = s.rsv.active ∧ b.claim.withdrawn = (s.rsv.standing == some .withdrawn)) ∧
        (s.rsv.active = false → ∃ f, t.alt.flight = some f ∧ t.alt.discard = false ∧ f.inputs.own = b.claim ∧
          f.inputs.peers = t.ptb.entries ∧ f.inputs.epoch = s.nextCount ∧ f.inputs.origin = s.nextCount % 64 ∧
          f.inputs.lEff = t.lEff ∧ f.ticks = 0)) ∧
      (let missed := ((∃ e ∈ s.lnk.queue, keyOf e.frame = .claim) ∧ s.lnk.access.drives .claim = false) ∨
        ∃ bytes f, s.lnk.access = .sending .claim bytes (some (.replace f))
       (missed → t.lnk.streak = min 8 (s.lnk.streak + 1)) ∧ (¬missed → t.lnk.streak = s.lnk.streak) ∧
        (s.lnk.station = .active → (missed ∧ 7 ≤ s.lnk.streak → t.lnk.station = .isolated) ∧
          (¬(missed ∧ 7 ≤ s.lnk.streak) → t.lnk.station = .active))) ∧
      (s.ReserveOk → s.rsv.active = true → 1 < s.rsv.remaining → t.alt.flight = s.alt.flight) ∧
      ∀ e ∈ t.lnk.queue, e.attempts = 0

/-! ## The peer table -/

/-- R38: PEER_STALE and PEER_REMOVED are the boundaries at which the silence count of a bay's entry reaches 3, where the entry
becomes STALE and holds max(drawn, 0) of headroom (R40), and 15, where it is gone. The held draws of a feeder and of all are the
sums over STALE entries, the limits in effect the least of the own ones and those of LIVE entries (R41), and the fair share is
L_eff over the bay count (R33). That the rows are the whole boundary is the
model's choice: log entry 6. -/
def Obligations.SilentPeersGoStaleAndAreRemoved : Prop :=
  (∀ (b : Nat) (p : PeerEntry) (s : State), s.AtEpochEnd → (s.ptb.entries.map PeerEntry.bay).Nodup → p ∈ s.ptb.entries →
    p.bay = b →
    (p.silence = 2 → Answers (.peerStale b) s fun t =>
      ∃ q ∈ t.ptb.entries, q.bay = b ∧ q.state = .stale ∧ q.silence = 3 ∧ (q.held : Int) = max p.claim.drawn 0 ∧
        t.ptb.entries = agedEntries (s.clk.epoch == 43199) s.ptb.entries) ∧
    (p.silence = 14 → Answers (.peerRemoved b) s fun t =>
      (∀ q ∈ t.ptb.entries, q.bay ≠ b) ∧ t.ptb.entries = agedEntries (s.clk.epoch == 43199) s.ptb.entries)) ∧
    ∀ s : State,
      let live := s.ptb.entries.filter fun p => decide (p.state = .live)
      let stale := s.ptb.entries.filter fun p => decide (p.state = .stale)
      let service := (s.cfg.map ConfigRecord.serviceLimit).getD 0
      let feeder (f : Nat) := (s.cfg.map fun c => c.limits.get f).getD 0
      (s.lEff ≤ service ∧ (∀ p ∈ live, s.lEff ≤ p.claim.serviceLimit) ∧
        (s.lEff = service ∨ ∃ p ∈ live, s.lEff = p.claim.serviceLimit)) ∧
      (∀ f, s.fEff f ≤ feeder f ∧ (∀ p ∈ live, p.claim.feeder = f → s.fEff f ≤ p.claim.feederLimit) ∧
        (s.fEff f = feeder f ∨ ∃ p ∈ live, p.claim.feeder = f ∧ s.fEff f = p.claim.feederLimit)) ∧
      (∀ f, heldOn s.ptb.entries f =
        ((stale.filter fun p => decide (p.claim.feeder = f)).map fun p => p.claim.drawn.toNat).sum) ∧
      heldTotal s.ptb.entries = (stale.map fun p => p.claim.drawn.toNat).sum ∧
      s.fairShare = s.lEff / (s.cfg.map ConfigRecord.bayCount).getD 0

/-- R37: the peer table never needs room for a new entry. -/
def Obligations.PeerTableNeverNeedsRoom : Prop :=
  ∀ s : State, s.PeersOk → 1 ≤ s.ownBay → s.ownBay ≤ 64 →
    s.ptb.entries.length ≤ 63 ∧
      (∀ b, 1 ≤ b → b ≤ 64 → b ≠ s.ownBay → (∀ p ∈ s.ptb.entries, p.bay ≠ b) → s.ptb.entries.length < 63) ∧
      (s.ptb.entries.length = 63 → ∀ b, 1 ≤ b → b ≤ 64 → b ≠ s.ownBay → ∃ p ∈ s.ptb.entries, p.bay = b)

/-- R45 to R47, R41, R88, R179: READ_PEER answers, in 35 bytes, the entry at an index below the count in ascending bay id order,
or the entry of a bay 1..64: its claim, silence count and held draw, and its row of the result table with the latch epoch. A bay
without an entry is ABSENT (2) with zeros and departure NONE. The own bay is OWN (3), with the claim most recently built, or
that of a station with no session, and in the result part the own grant in effect and the own feeder, be there a row or none.
Indices and bays out of range, and a selector that is neither index nor bay, are refused with RANGE (log entry 31). OWN's epoch,
silence and held draw are the model's reading (log entry 25), and that every bay is ABSENT while no bay id is configured is its
choice (log entry 47). It changes nothing else (but the model's own count of free values). -/
def Obligations.ReadPeerAnswersEntries : Prop :=
  ∀ s : State,
    let answered (i : Instr) (head result : List Byte) := Answers i s fun t =>
      t = { s with prt := { s.prt with answer := t.prt.answer, response := t.prt.response }, choices := t.choices } ∧
      Responds s t 14 .ok t.prt.response.payload ∧ t.prt.response.payload.length = 35 ∧
      t.prt.response.payload.take 27 = head ∧ (t.prt.response.payload.drop 27).take result.length = result ∧
      t.prt.response.payload.drop 33 =
        u8 s.ptb.entries.length ++ u8 (s.ptb.entries.filter fun p => p.state == .live).length
    let entry (p : PeerEntry) :=
      u8 (if p.state = .live then 0 else 1) ++ u8 p.bay ++ u16 p.epoch ++ p.claim.bytes ++ u8 p.silence ++ u16 p.held
    let row (b : Nat) := match s.alt.result.bind fun r => (r.rows.find? fun w => w.bay == b).map fun w => (w, r.epoch) with
      | some (w, e) => yesNo true ++ u16 w.grant ++ u8 w.feeder ++ u16 e
      | none => yesNo false
    let none' : Claim :=
      { feeder := 0, busId := 0, dep := none, need := 0, ask := 0, pledge := 0, drawn := 0, grant := 0, serviceLimit := 0,
        feederLimit := 0, late := false, atRisk := false, withdrawn := false, isolated := false, inEvent := false }
    (∀ (i : Nat) (p : PeerEntry), i ≤ 62 → s.ptb.entries[i]? = some p →
      answered (.readPeerByIndex 0 i) (entry p) (row p.bay)) ∧
    (∀ i, 62 < i ∨ s.ptb.entries.length ≤ i → Refused (.readPeerByIndex 0 i) s 14 .range [2#8]) ∧
    (∀ x i, 1 < x → Refused (.readPeerByIndex x i) s 14 .range [1#8]) ∧
    (∀ b, 1 ≤ b → b ≤ 64 → s.cfg = none ∨ b ≠ s.ownBay →
      (∀ p, (s.ptb.entries.find? fun p => p.bay == b) = some p → answered (.readPeerByBay b) (entry p) (row b)) ∧
      ((∀ p ∈ s.ptb.entries, p.bay ≠ b) →
        answered (.readPeerByBay b) (u8 2 ++ u8 b ++ u16 0 ++ none'.bytes ++ u8 0 ++ u16 0) (row b))) ∧
    (∀ c b, s.cfg = some c → b = c.bayId → 1 ≤ b → b ≤ 64 →
      let ownRow := s.alt.result.bind fun r => (r.rows.find? fun w => w.bay == b).map fun _ => r.epoch
      let result := yesNo ownRow.isSome ++ u16 s.alt.grant ++ u8 c.feeder ++ (ownRow.map u16).getD []
      (∀ m ∈ s.lastClaim,
        answered (.readPeerByBay b) (u8 3 ++ u8 b ++ u16 m.epoch ++ m.claim.bytes ++ u8 0 ++ u16 0) result) ∧
      (s.lastClaim = none → answered (.readPeerByBay b)
        (u8 3 ++ u8 b ++ u16 0 ++ ({ none' with feeder := c.feeder } : Claim).bytes ++ u8 0 ++ u16 0) result)) ∧
    ∀ b, b = 0 ∨ 64 < b → Refused (.readPeerByBay b) s 14 .range [2#8]

/-! ## Sessions -/

/-- R51 to R53, R43, R145, R146, R136: PLUG with fields in range, in a configured station with no session, starts the session
with the clamps of R51. With a context for the bus in the own park table the session is LOCAL and settled, with C and the floor
that PLUG gave as 0 from the context and E0 and floor clamped to C (R52), the entry is gone, and PLUG_LOCAL is captured; with
none it is COLD, and a window of 3 boundaries opens with a QUERY. An entry that was OFFERED loses its queued OFFER (R23). Where
a LIVE peer reports the bus, DUP_BUS holds, captured at its beginning with the lowest such bay and E by the C that PLUG gave, as
it stands before the restore: the model's choice, log entry 55. The first field out of range is named in a RANGE refusal. The
response's presence codes PENDING 1 and SETTLED 2 are the model's reading, log entry 28. -/
def Obligations.PlugStartsASession : Prop :=
  ∀ (p : PlugFields) (c : ConfigRecord) (s : State), s.lnk.station ≠ .unconfigured → s.cfg = some c → s.ses = none →
    s.prk.query = none →
    (PlugInRange p → Answers (.plug p) s fun t =>
      (∃ w, t.ses = some w ∧ w.busId = p.busId ∧ w.plugEpoch = s.clk.epoch ∧ w.consent = decide (p.consent = 1) ∧
        w.pAccept = min p.pAccept c.chargerRating ∧ w.dischargeLimit = min p.dischargeLimit c.dischargeRating ∧
        (w.need, w.ask, w.pledge, w.late, w.atRisk) = (0, 0, 0, false, false) ∧
        (w.imp, w.exp, w.resp) = (zeroIntegrator, zeroIntegrator, zeroIntegrator) ∧
        Responds s t 3 .ok (u8 (if (s.prk.entryOf p.busId).isSome then 2 else 1) ++ u32 w.cap ++ u32 w.e0 ++ u32 w.floor ++
          u16 w.pAccept ++ u16 w.dischargeLimit) ∧
        match s.prk.entryOf p.busId with
        | some e =>
          w.origin = .locally ∧ w.cap = (if p.cap = 0 then e.ctx.cap else p.cap) ∧ w.e0 = min p.e0 w.cap ∧
          w.floor = min (if p.floor = 0 then e.ctx.floor else p.floor) w.cap ∧
          w.chain = { e.ctx.chain with legs := e.ctx.chain.legs.map fun l => { l with req := min l.req w.cap } } ∧
          (w.cumImp, w.cumExp, w.cumResp, w.sessions) =
            (e.ctx.cumImp, e.ctx.cumExp, e.ctx.cumResp, min 255 (e.ctx.sessions + 1)) ∧
          t.prk = { s.prk with
            entries := s.prk.entries.filter (fun x => x.busId != p.busId)
            last := some { result := .locally, busId := p.busId, epoch := s.clk.epoch, offerer := 0, offers := 0,
                           lastE := e.ctx.lastE } } ∧
          (s.log.counters.length = 24 → t.counter .plugLocal = min 63 (s.counter .plugLocal + 1)) ∧
          (Logged s t .plugLocal 3 fun r => r.detail = 0#32 ∧ r.busId = p.busId ∧ r.energy = w.e0) ∧
          (e.offered ≠ none → UnqueuedAlone s t (.offer p.busId))
        | none =>
          w.origin = .cold ∧ w.cap = p.cap ∧ w.e0 = (if p.cap = 0 then p.e0 else min p.e0 p.cap) ∧
          w.floor = (if p.cap = 0 then p.floor else min p.floor p.cap) ∧ w.chain = { legs := [], cursor := 0 } ∧
          (w.cumImp, w.cumExp, w.cumResp, w.sessions) = (0, 0, 0, 1) ∧
          t.prk = { s.prk with query := some { busId := p.busId, countdown := 3, offers := 0, best := none } } ∧
          t.Holds (.query p.busId)) ∧
      (s.rsv.active = true → t.rsv.standing = some .outside ∧ t.rsv.share = 0) ∧
      (∀ q, (s.ptb.entries.find? fun q => decide (q.state = .live) && q.claim.busId == p.busId) = some q →
        t.ptb.dupBus = true ∧ (s.ptb.dupBus = false → t.flagged .dupBus = true ∧
          Logged s t .dupBus 19 fun r => r.detail = BitVec.ofNat 32 q.bay ∧ r.busId = p.busId ∧
            r.energy = if p.cap = 0 then 0 else min p.e0 p.cap)) ∧
      t.clk = s.clk ∧ t.ptb.entries = s.ptb.entries ∧ t.lastClaim = s.lastClaim ∧ t.alt = s.alt ∧ t.snap = s.snap ∧
      t.cfg = s.cfg ∧ t.prt.mask = s.prt.mask) ∧
    (¬PlugInRange p → Refused (.plug p) s 3 .range (u8 (
      if ¬(1 ≤ p.busId ∧ p.busId ≤ 255) then 1
      else if ¬(p.cap = 0 ∨ 10000 ≤ p.cap ∧ p.cap ≤ 1000000) then 2
      else if 1000000 < p.e0 then 3
      else if 1000000 < p.floor then 4
      else 6)))

/-- R56, R57, R193: VEHICLE_UPDATE replaces the three vehicle figures with the clamps of R51, and the setpoint follows the limits
that they give (R101). CHAIN_LOAD of a settled session keeps the legs before the cursor and appends the new ones, PENDING; it is
refused as a whole with RANGE where a leg count, a field or a relation fails, with the leg number 0 for the leg count alone, else
that of the first new leg that fails. Neither changes anything else but the response; that OK carries no payload for CHAIN_LOAD is
the model's choice, log entry 18. -/
def Obligations.VehicleUpdateAndChainLoad : Prop :=
  ∀ (v : Session) (s : State), s.ses = some v →
    (∀ (pa dl x : Nat) (c : ConfigRecord), s.cfg = some c →
      (x ≤ 1 → Answers (.vehicleUpdate pa dl x) s fun t =>
        t = { s with
          ses := some { v with pAccept := min pa c.chargerRating, dischargeLimit := min dl c.dischargeRating,
                               consent := decide (x = 1) }
          stg := { s.stg with applied := t.setpointFrom s.stg.applied }
          prt := { s.prt with answer := t.prt.answer, response := t.prt.response } } ∧
        Responds s t 4 .ok (u16 (min pa c.chargerRating) ++ u16 (min dl c.dischargeRating) ++ u8 x)) ∧
      (1 < x → Refused (.vehicleUpdate pa dl x) s 4 .range [3#8])) ∧
    ∀ ls : List NewLeg, s.prk.query = none →
      let departs (l : NewLeg) : Int := ((l.dayOffset * 43200 + l.minute * 30 : Nat) : Int)
      let kept := v.chain.legs.take v.chain.cursor
      let good (ls : List NewLeg) := (∀ l ∈ ls, l.dayOffset ≤ 1 ∧ l.minute ≤ 1439 ∧ l.req ≤ v.cap) ∧
        (ls.map departs).Pairwise (· < ·) ∧ (∀ k ∈ kept.getLast?, ∀ l ∈ ls.head?, k.dep < departs l) ∧
        (ls ≠ [] → kept.length + ls.length ≤ 8)
      (ls.length ≤ 8 → good ls → exec (.chainLoad ls) s = .next { s with
        ses := some { v with chain :=
          { legs := kept ++ ls.map fun l => { dep := departs l, req := l.req, state := .pending }, cursor := v.chain.cursor } }
        prt := { s.prt with
          answer := nextAnswer s.prt.answer
          response := { kind := 5, status := .ok, answer := nextAnswer s.prt.answer, station := s.lnk.station,
                        flags := s.prt.flags, payload := [] } } }) ∧
      (8 < ls.length → Refused (.chainLoad ls) s 5 .range [0#8]) ∧
      ∀ n, ls.length ≤ 8 → n < ls.length → good (ls.take n) → ¬good (ls.take (n + 1)) →
        Refused (.chainLoad ls) s 5 .range (u8 (n + 1))

/-- R61 to R63, R141, R142, R78, R136, R151, R23: UNPLUG ends the session. A settled session's cursor leg within its departure
window is DONE and its context is parked at the newest end, in the place of one for the same bus and, with 4 others, of the
oldest; a pending one's window is cancelled with its queued QUERY, and it is parked only where its capacity is known. What is
parked is C, floor, the battery estimate of R106, the chain, each total with the whole Wh of its integrator (held within 32
bits) and the sessions count. The other entries stand as they were; one that is evicted is captured, and loses its queued OFFER.
The own grant and the setpoint fall to 0, a computation in flight is marked for discard, an event in progress sees the bay
withdrawn, and UNPLUG is counted twice and captured twice before the end (R162, R163, R194): first the import Wh, then export
and response in units of 10 Wh. That the figures of a window stand while the query state is IDLE is the model's choice: log
entry 44. -/
def Obligations.UnplugParksAndEnds : Prop :=
  ∀ (v : Session) (c : ConfigRecord) (s : State), s.ses = some v → s.cfg = some c → Answers .unplug s fun t =>
    let inWindow := s.prk.query = none ∧ ∃ l, v.chain.legs[v.chain.cursor]? = some l ∧
      l.dep - c.window * 30 ≤ s.clk.epoch ∧ (s.clk.epoch : Int) ≤ l.dep + c.window * 30
    t.ses = none ∧ t.prk.query = none ∧ t.alt.grant = 0 ∧ t.stg = { s.stg with applied := 0 } ∧
      (s.prk.query = none ∨ v.cap ≠ 0 →
        (∃ chain, t.prk.entries = roomFor v.busId s.prk.entries ++
            [{ busId := v.busId, parkedEpoch := s.clk.epoch, dayAge := 0, hold := c.parkHold * 1800, ctx := leftBehind v chain,
               offered := none }] ∧
          (inWindow → chain = { legs := v.chain.legs.modify v.chain.cursor fun l => { l with state := .done },
                                cursor := v.chain.cursor + 1 }) ∧
          (¬inWindow → chain = v.chain)) ∧
        ∀ e, evictedFor v.busId s.prk.entries = some e →
          (e.offered ≠ none → Unqueued s t (.offer e.busId)) ∧
          Logged s t .contextEvicted 8 fun r => r.detail = 0#32 ∧ r.busId = e.busId) ∧
      (s.prk.query ≠ none → Unqueued s t .query) ∧
      (let first := BitVec.ofNat 32 (min 2147483647 v.imp.wh.toNat)
       let tens (x : Int) : Int := max (-32768) (min 32767 (x / 10))
       let second := BitVec.ofNat 32 (2147483648 + (max 0 (tens v.exp.wh)).toNat * 65536 + (tens v.resp.wh % 65536).toNat)
       let parts := (s.capture .unplug first none).capture .unplug second none
       (Logged s t .unplug 4 fun r => r.detail = first ∧ r.busId = v.busId ∧ r.grant = s.alt.grant ∧ r.applied = s.stg.applied) ∧
       (Logged s t .unplug 4 fun r => r.detail = second ∧ r.busId = v.busId ∧ r.grant = s.alt.grant ∧ r.applied = s.stg.applied) ∧
       (evictedFor v.busId s.prk.entries = none ∨ (s.prk.query ≠ none ∧ v.cap = 0) →
         s.rsv.active = false ∨ s.rsv.standing = some .withdrawn → t.log = parts.log)) ∧
      (s.prk.query ≠ none → v.cap = 0 → t.prk.entries = s.prk.entries) ∧
      (s.prk.query = none → t.prk.idle = s.prk.idle) ∧ (s.prk.query ≠ none → t.prk.idle.offers = 0) ∧
      t.alt = { s.alt with grant := 0, discard := s.alt.discard || s.alt.flight.isSome } ∧
      (s.rsv.active = true → t.rsv.standing = some .withdrawn ∧ t.rsv.baseline = 0) ∧
      (s.log.counters.length = 24 → t.counter .unplug = min 63 (s.counter .unplug + 2)) ∧
      t.clk = s.clk ∧ t.ptb.entries = s.ptb.entries ∧ t.ptb.dupBus = false ∧ t.lastClaim = s.lastClaim ∧ t.snap = s.snap ∧
      t.cfg = s.cfg ∧ t.prk.last = s.prk.last ∧ t.prt.mask = s.prt.mask ∧ Responds s t 6 .ok []

/-- R58 to R60, R64: at an epoch boundary a settled session first has its legs shifted where the boundary is a day rollover,
then every cursor leg past its departure window is MISSED, captured with its index (R163), and its readiness figures are those
of R65 and R66 for what it then holds, the new epoch count and the own grant that stands. -/
def Obligations.BoundaryTestsLegsAndReadies : Prop :=
  ∀ (v : Session) (c : ConfigRecord) (s : State), s.AtEpochEnd → s.ses = some v → s.cfg = some c → s.prk.query = none →
    v.chain.Ok → Answers .epochBoundary s fun t =>
      let history := (v.chain.legs.take v.chain.cursor).filter fun l => decide (l.dep ≠ -43200)
      let chain : Chain :=
        if s.clk.epoch = 43199 then
          { legs := (history ++ v.chain.legs.drop v.chain.cursor).map fun l => { l with dep := dayEarlier l.dep }
            cursor := history.length }
        else v.chain
      ∃ w, t.ses = some w ∧ chain.cursor ≤ w.chain.cursor ∧ w.chain.cursor ≤ chain.legs.length ∧
        w.chain.legs = chain.legs.mapIdx (fun i l =>
          if chain.cursor ≤ i ∧ i < w.chain.cursor then { l with state := .missed } else l) ∧
        (∀ i l, chain.cursor ≤ i → i < w.chain.cursor → chain.legs[i]? = some l → l.dep + c.window * 30 < s.nextCount) ∧
        (∀ l, w.chain.legs[w.chain.cursor]? = some l → (s.nextCount : Int) ≤ l.dep + c.window * 30) ∧
        w = ({ v with chain := w.chain } : Session).readied c s.nextCount t.alt.grant false ∧
        (chain.cursor < w.chain.cursor → t.flagged .legMissed = true) ∧
        ∀ i, chain.cursor ≤ i → i < w.chain.cursor → Logged s t .legMissed 5 fun r =>
          r.detail = BitVec.ofNat 32 i ∧ r.epoch = s.nextCount ∧ r.busId = v.busId

/-- R65, R66: what the readiness computation gives. The ask is P_accept below the taper knee, and tapers to 0 at C above it. The
need is at most the ask; before the lead time it is the least power that closes the shortfall, or the ask where that is more,
which sets AT_RISK; within it LATE is set and the need is the ask. The surplus is the energy above the target and the floor, and
the dischargeable power what the consent, the discharge limit and that surplus allow for D_hold; LATE, AT_RISK or a pending
session pledges 0. -/
def Obligations.ReadinessFigures : Prop :=
  ∀ (v : Session) (c : ConfigRecord) (now grant : Nat) (pending : Bool),
    let r := v.readied c now grant pending
    let knee := v.cap - v.cap / 10
    let target := ((v.chain.legs[v.chain.cursor]?).map Leg.req).getD v.floor
    let surplus : Int := (v.energy : Int) - max (target : Int) v.floor
    r.ask = (if v.energy < knee then v.pAccept else v.pAccept * (v.cap - v.energy) / (v.cap - knee)) ∧
      r.ask ≤ v.pAccept ∧ r.need ≤ r.ask ∧
      (v.chain.cursorLeg = none → r.need = 0 ∧ r.late = false ∧ r.atRisk = false) ∧
      (∀ l, v.chain.cursorLeg = some l →
        let short := l.req - v.energy
        let lead := (l.dep - now) * 2 - c.lead * 60
        (short = 0 → r.need = 0 ∧ r.late = false ∧ r.atRisk = false) ∧
        (0 < short → lead ≤ 0 → r.need = r.ask ∧ r.late = true ∧ r.atRisk = false) ∧
        (0 < short → 0 < lead → r.late = false ∧
          (r.atRisk = true ↔ (r.ask : Int) * lead < short * 36) ∧
          (r.atRisk = true → r.need = r.ask) ∧
          (r.atRisk = false → (short : Int) * 36 ≤ r.need * lead ∧ ((r.need : Int) - 1) * lead < short * 36))) ∧
      (r.late = true ∨ r.atRisk = true ∨ pending = true → r.pledge = 0) ∧
      (r.late = false → r.atRisk = false → pending = false → r.pledge = min 65535 (r.curtailable + r.dischargeable)) ∧
      r.curtailable = grant - r.need ∧ r.surplus = surplus ∧
      r.dischargeable = (if v.consent = false ∨ surplus ≤ 0 then 0
        else min v.dischargeLimit (surplus.toNat * 36 / c.dHold)) ∧
      ((v.energy : Int) ≤ v.floor → r.dischargeable = 0) ∧
      r.chain = v.chain ∧ r.imp = v.imp ∧ r.exp = v.exp ∧ r.resp = v.resp

/-! ## Allotment -/

/-- R80 to R86, R88, R89: what a result gives, whatever was latched with distinct bays 1..64 and feeders 0..3. The claims enter
the passes by R82 (an ISOLATED peer's ask is capped at the fair share, a need at its ask) over the headroom of R81. In pass 1
each in departure order, NONE last and ties by rotation, gets min(need, H, h[f]) of what those before it left; pass 2 goes on
from there in rotation order, in rounds of an equal share and a last round of single units, and the result is what it leaves,
with rows in that order. A claim alone, with no copy at all, gets min(ask, L_eff, F_eff[f]). The bounds: on each feeder, and
over all, the grants and the held draws stay within the limit in effect, or, where the held draws alone exceed it, the grants
are 0; every grant is at most its claim's ask, and that of an ISOLATED peer at most the fair share. Each live claim has a row. -/
def Obligations.ResultsObeyTheirBounds : Prop :=
  ∀ i : AltInputs, (i.ownBay :: i.peers.map PeerEntry.bay).Nodup → (∀ b ∈ i.ownBay :: i.peers.map PeerEntry.bay, 1 ≤ b ∧ b ≤ 64) →
    i.own.feeder ≤ 3 → (∀ p ∈ i.peers, p.claim.feeder ≤ 3) →
    i.own.need ≤ i.own.ask →
    let live := i.peers.filter fun p => p.state == .live
    (i.result.rows.map Row.bay).Perm (i.ownBay :: live.map PeerEntry.bay) ∧
      (∀ f, f ≤ 3 →
        let grants := ((i.result.rows.filter fun w => w.feeder == f).map Row.grant).sum
        grants + heldOn i.peers f + i.result.feeders.get f = max (heldOn i.peers f) (i.fEff.get f) ∧
        (i.fEff.get f < heldOn i.peers f → grants = 0)) ∧
      (i.result.rows.map Row.grant).sum + heldTotal i.peers + i.result.service = max (heldTotal i.peers) i.lEff ∧
      (∀ w ∈ i.result.rows, (w.bay = i.ownBay → w.grant ≤ i.own.ask) ∧
        ∀ p ∈ live, w.bay = p.bay → w.feeder = p.claim.feeder ∧ w.grant ≤ p.claim.ask ∧
          (p.claim.isolated = true → w.grant ≤ i.lEff / i.bayCount)) ∧
      i.result.epoch = i.epoch ∧ i.result.origin = i.origin ∧
      (i.peers = [] → i.result.rows.map Row.grant = [min i.own.ask (min i.lEff (i.fEff.get i.own.feeder))]) ∧
      (i.origin < 64 →
        let asked (c : Claim) : Nat := if c.isolated then min c.ask (i.lEff / i.bayCount) else c.ask
        let entering : List Taker :=
          { bay := i.ownBay, feeder := i.own.feeder, dep := i.own.dep, need := i.own.need, ask := i.own.ask, grant := 0 } ::
            live.map fun p => { bay := p.bay, feeder := p.claim.feeder, dep := p.claim.dep,
                                need := min p.claim.need (asked p.claim), ask := asked p.claim, grant := 0 }
        let place (t : Taker) : Nat := (t.bay + 63 - i.origin) % 64
        let sooner (a b : Taker) : Prop := match a.dep, b.dep with
          | some x, some y => x < y ∨ (x = y ∧ place a < place b)
          | some _, none => True
          | none, some _ => False
          | none, none => place a < place b
        let room : Headroom :=
          { service := i.lEff - heldTotal i.peers
            feeders := { f0 := i.fEff.f0 - heldOn i.peers 0, f1 := i.fEff.f1 - heldOn i.peers 1,
                         f2 := i.fEff.f2 - heldOn i.peers 2, f3 := i.fEff.f3 - heldOn i.peers 3 } }
        ∃ order floors turn filled : List Taker, ∃ h k : Headroom,
          order.Perm entering ∧ order.Pairwise sooner ∧
          Walked (fun t all left => min t.need (min all left)) order floors room h ∧
          turn.Perm floors ∧ turn.Pairwise (fun a b => place a < place b) ∧ Filled turn h filled k ∧
          i.result.rows = filled.map (fun t => { bay := t.bay, feeder := t.feeder, grant := t.grant }) ∧
          i.result.service = k.service ∧ i.result.feeders = k.feeders)

/-- R87, R85, R86: pass 2 ends within 65 rounds. Over at most 64 claims no further round changes anything, and where it has
ended either the service headroom is used up but for less than 64 units (the final round begins with fewer units than eligible
claims, of which there are at most 64), or no claim is eligible any more. -/
def Obligations.PassTwoEndsWithin65Rounds : Prop :=
  ∀ (ts : List Taker) (h : Headroom), ts.length ≤ 64 →
    (∀ k, fill (65 + k) ts h = fill 65 ts h) ∧
      ((fill 65 ts h).2.service < 64 ∨ eligibleCount (fill 65 ts h).1 (fill 65 ts h).2 = 0)

/-- R75, R78, R91, R132, R101: the completion of a computation in flight makes its result the result table and its own row's
grant the own grant, capped at the fair share in ISOLATED; the baseline of an event in progress follows the own grant, and the
setpoint follows. Marked for discard, the result is dropped, and the mark stands after it: the model's choice, log entry 43. The
fifth tick event after the start forces the completion (a tick owed at the start counts as the first: log entries 7 and 10); the
earlier ones leave the computation in flight. With none in flight nothing happens (log entry 5). -/
def Obligations.CompletionAppliesOrDropsTheResult : Prop :=
  ∀ s : State,
    (s.alt.flight = none → Idle .allotmentCompletion s) ∧
    ∀ f : Flight, s.alt.flight = some f →
      let own := ((f.inputs.result.rows.find? fun w => w.bay == f.inputs.ownBay).map Row.grant).getD 0
      let grant := if s.lnk.station = .isolated then min own (s.lEff / s.bayCount) else own
      let after : Alt :=
        if s.alt.discard then { s.alt with flight := none }
        else { s.alt with flight := none, result := some f.inputs.result, grant := grant }
      (s.alt.discard = true → exec .allotmentCompletion s = .next { s with alt := after }) ∧
      (s.alt.discard = false → Answers .allotmentCompletion s fun t =>
        t = { s with
          alt := after
          rsv := { s.rsv with baseline := if s.rsv.active then grant else s.rsv.baseline }
          stg := { s.stg with applied := t.setpointFrom s.stg.applied } }) ∧
      (s.WithinEpoch → s.steppedBands = s.rsv.bands → Answers .tickEvent s fun t =>
        (f.ticks < 4 → t.alt = { s.alt with flight := some { f with ticks := f.ticks + 1 } }) ∧
        (4 ≤ f.ticks → t.alt = after ∧
          (s.alt.discard = false → t.rsv.baseline = if s.rsv.active then grant else s.rsv.baseline)))

/-! ## The stage line and the accounts -/

/-- R96, R98, R99, R101, R111: how a MEASURE is judged by its echoed sequence. The open exchange's answers it once, with the
values and flags it carries, and ends METER_LOST, and the setpoint follows; the previous one's is late; any other spoils an
exchange that awaits its answer; all others change nothing, nor does a record that fails the record checks. -/
def Obligations.MeasureIsJudgedByItsSequence : Prop :=
  ∀ (bytes : List Byte) (s : State),
    (decodeMeasure bytes = none → Idle (.measure bytes) s) ∧
    ∀ m : Measure, decodeMeasure bytes = some m →
      (s.stg.answer ≠ some .awaiting → Idle (.measure bytes) s) ∧
      (s.stg.answer = some .awaiting → m.seq ≠ s.stg.seq → m.seq = (s.stg.seq + 255) % 256 → Idle (.measure bytes) s) ∧
      (s.stg.answer = some .awaiting → m.seq ≠ s.stg.seq → m.seq ≠ (s.stg.seq + 255) % 256 →
        exec (.measure bytes) s = .next { s with stg := { s.stg with answer := some .spoiled } }) ∧
      (s.stg.answer = some .awaiting → m.seq = s.stg.seq → Answers (.measure bytes) s fun t =>
        t = { s with
          stg := { s.stg with answer := some .answered, measured := m.power, volts := m.volts, gap := 0, meterLost := false,
                              stageFault := m.fault, isOpen := m.isOpen, applied := t.setpointFrom s.stg.applied }
          log := t.log, prt := t.prt } ∧
        (m.fault = true → t.stg.applied = 0) ∧
        (m.fault = true → s.stg.stageFault = false → t.flagged .stageFault = true ∧
          (s.log.counters.length = 24 → t.counter .stageFault = min 63 (s.counter .stageFault + 1)) ∧
          CapturedAlone s t .stageFault 0#32 none) ∧
        (m.fault = false ∨ s.stg.stageFault = true → t.log = s.log ∧ t.prt = s.prt))

/-- R95, R97, R101, R102, R104, R105: a tick event within an epoch, where no frequency band changes state. The exchange closes:
an answer leaves the gap count, its lack raises it, to 4 at most. The measured power is integrated into the accounts of a live
session (the response account while an event is served). The next exchange opens with the next sequence number, its setpoint
raised toward the target by at most the ramp step, and SETPOINT carries both. -/
def Obligations.TickRunsTheExchange : Prop :=
  ∀ s : State, s.clk.tick < 19 → s.clk.tickOwed = false → s.steppedBands = s.rsv.bands → s.alt.flight = none → s.SetpointOk →
    s.losesMeter = false → Answers .tickEvent s fun t =>
      t.stg = { s.stg with
        seq := (s.stg.seq + 1) % 256
        answer := some .awaiting
        gap := if s.stg.answer = some .awaiting ∨ s.stg.answer = some .spoiled then min 4 (s.stg.gap + 1) else s.stg.gap
        applied := if s.stg.isOpen then 0 else min (s.stg.applied + s.rampStep) s.target
        sent := setpointRecord ((s.stg.seq + 1) % 256) t.stg.applied } ∧
      t.ses = s.ses.map (fun v => { v with
        imp := v.imp.add (max s.stg.measured 0 * 10)
        exp := v.exp.add (max (-s.stg.measured) 0 * 10)
        resp := v.resp.add
          (if s.rsv.active = true ∧ s.rsv.standing ≠ some .withdrawn then ((s.rsv.baseline : Int) - s.stg.measured) * 10 else 0) }) ∧
      t.clk = { s.clk with tick := s.clk.tick + 1 } ∧ t.lnk = s.lnk ∧ t.alt = s.alt ∧ t.ptb = s.ptb ∧ t.prk = s.prk ∧
      t.cfg = s.cfg ∧ t.snap = s.snap ∧ t.lastClaim = s.lastClaim ∧
      t.rsv = { s.rsv with edgeWatch := min 3 (s.rsv.edgeWatch + 1), senseFault := t.rsv.senseFault }

/-- R97, R98, R113, R114: METER_LOST is the tick event whose close brings the gap count to 4: the measured power, the target and
the setpoint are 0, captured and noticed. EDGE_WATCH_EXPIRY is the tick event that brings the edge watch to 3, where SENSE_FAULT
begins, captured and noticed; where it is already present, nothing further is raised. That the two rows are the whole tick event
is the model's choice: log entry 6. A tick event that is owed after its boundary is one of them: log entry 7. -/
def Obligations.MeterLostAndEdgeWatch : Prop :=
  ∀ s : State, s.WithinEpoch → s.log.counters.length = 24 →
    (s.stg.gap = 3 → s.stg.answer = some .awaiting ∨ s.stg.answer = some .spoiled → Answers .meterLost s fun t =>
      t.stg.meterLost = true ∧ t.stg.measured = 0 ∧ t.target = 0 ∧ t.stg.applied = 0 ∧ t.stg.gap = 4 ∧
      t.stg.answer = some .awaiting ∧ t.stg.seq = (s.stg.seq + 1) % 256 ∧
      t.stg.sent = setpointRecord ((s.stg.seq + 1) % 256) 0 ∧
      t.flagged .meterLost = true ∧ t.counter .meterLost = min 63 (s.counter .meterLost + 1) ∧
      Logged s t .meterLost 14 fun r => r.detail = 0#32 ∧ r.measured = 0 ∧ r.applied = 0) ∧
    (s.rsv.edgeWatch = 2 → s.rsv.senseFault = false → Answers .edgeWatchExpiry s fun t =>
      t.rsv.edgeWatch = 3 ∧ t.rsv.senseFault = true ∧ t.flagged .senseFault = true ∧
      t.counter .senseFault = min 63 (s.counter .senseFault + 1) ∧ t.rsv.freq = s.rsv.freq ∧
      Logged s t .senseFault 16 fun r => r.detail = 0#32) ∧
    (s.rsv.edgeWatch = 2 → s.rsv.senseFault = true → Answers .edgeWatchExpiry s fun t =>
      t.rsv = { s.rsv with edgeWatch := 3, baseline := t.rsv.baseline } ∧ t.flagged .senseFault = s.flagged .senseFault ∧
      t.counter .senseFault = s.counter .senseFault ∧ t.clk = { s.clk with tick := t.clk.tick, tickOwed := false })

/-- R108, R109: SNAPSHOT copies the figures of its moment into the record, in the place of the former one, and answers the epoch
count and tick latched; no other command but power-on reset changes the record. READ_SNAPSHOT answers it, with presence TAKEN (0),
or presence NONE (1) and zeros where none has been taken since power-on reset, and changes nothing, so that repeating it answers
the same. The two presence bytes are the model's reading: log entry 27. -/
def Obligations.SnapshotsAreTakenAndRead : Prop :=
  (∀ s : State, Answers .snapshot s fun t =>
      t = { s with snap := t.snap, prt := { s.prt with answer := t.prt.answer, response := t.prt.response } } ∧
        Responds s t 15 .ok (u16 s.clk.epoch ++ u8 s.clk.tick) ∧
        ∃ n, t.snap = some n ∧ n.epoch = s.clk.epoch ∧ n.tick = s.clk.tick ∧ n.live = s.ses.isSome ∧ n.busId = s.liveBus ∧
          n.energy = s.energy ∧ n.grant = s.alt.grant ∧ n.target = s.target ∧ n.applied = s.stg.applied ∧
          n.measured = s.stg.measured ∧
          (s.ses = none → (n.imp, n.exp, n.resp) = (zeroIntegrator, zeroIntegrator, zeroIntegrator)) ∧
          ∀ v ∈ s.ses, (n.imp, n.exp, n.resp) = (v.imp, v.exp, v.resp)) ∧
    (∀ s : State, Answers .readSnapshot s fun t =>
      t = { s with prt := { s.prt with answer := t.prt.answer, response := t.prt.response } } ∧
        Responds s t 16 .ok t.prt.response.payload ∧
        (s.snap = none → t.prt.response.payload = 1#8 :: List.replicate 35 0#8) ∧
        ∀ n ∈ s.snap, t.prt.response.payload =
          u8 0 ++ u16 n.epoch ++ u8 n.tick ++ yesNo n.live ++ u8 n.busId ++ i32 n.imp.wh ++ u16 n.imp.ws ++ i32 n.exp.wh ++
            u16 n.exp.ws ++ i32 n.resp.wh ++ u16 n.resp.ws ++ u32 n.energy ++ u16 n.grant ++ i16 n.target ++ i16 n.applied ++
            i16 n.measured) ∧
    State.reset.snap = none ∧
    (∀ i s t, exec i s = .next t → i ≠ .snapshot → i ≠ .powerOnReset → t.snap = s.snap) ∧
    ∀ s, Answers .powerOnReset s fun t => t.snap = none

/-! ## Grid reserve -/

/-- R113, R114: a rising edge of the grid sense input sets the edge watch to 0 and, but for the first, closes a period. A period
whose frequency lies in 45000..65000 mHz becomes the measured frequency and ends SENSE_FAULT; one outside leaves it and begins
SENSE_FAULT, captured and noticed where it was absent. -/
def Obligations.GridEdgesMeasureTheFrequency : Prop :=
  ∀ (n : Nat) (s : State), 0 < n →
    (s.rsv.edgeSeen = false →
      exec (.gsenseEdge n) s = .next { s with rsv := { s.rsv with edgeWatch := 0, edgeSeen := true } }) ∧
    (s.rsv.edgeSeen = true → 45000 ≤ 10000000000 / n → 10000000000 / n ≤ 65000 →
      exec (.gsenseEdge n) s = .next { s with
        rsv := { s.rsv with edgeWatch := 0, freq := some (10000000000 / n), senseFault := false } }) ∧
    (s.rsv.edgeSeen = true → 10000000000 / n < 45000 ∨ 65000 < 10000000000 / n → Answers (.gsenseEdge n) s fun t =>
      t = { s with rsv := { s.rsv with edgeWatch := 0, senseFault := true }, log := t.log, prt := t.prt } ∧
      (s.rsv.senseFault = true → t.log = s.log ∧ t.prt = s.prt) ∧
      (s.rsv.senseFault = false → t.flagged .senseFault = true ∧
        (s.log.counters.length = 24 → t.counter .senseFault = min 63 (s.counter .senseFault + 1)) ∧
        CapturedAlone s t .senseFault 0#32 none))

/-- R115 to R117, R119: the band demand is floor(R × m / 100) for the largest response m among the contributing bands, the self
demand the larger of it and the host demand. A tick event steps every enabled monitor by the table of R115 while there is a
frequency and no SENSE_FAULT, and holds the others: all of them during SENSE_FAULT or without a frequency, and a band that is
not enabled. BAND_TRIGGER is the tick event at which the band's dwell is complete: it is TRIGGERED with its contributing mark;
BAND_RECOVERED the one at which its recovery is: it is OUT with none. A mark may go in the same step where the change it causes
ends an event (R137). That the two rows are the whole tick event is log entry 6, and that the monitors step before the edge
watch is log entry 15. A tick event that is owed after its boundary is one of them: log entry 7. -/
def Obligations.BandsTriggerAndRecover : Prop :=
  (∀ s : State, s.selfDemand = max s.rsv.hostDemand s.bandDemand ∧ (s.cfg = none → s.bandDemand = 0) ∧
    ∀ c : ConfigRecord, s.cfg = some c → ∃ m, s.bandDemand = c.commitment * m / 100 ∧
      (m = 0 ∨ ∃ (i : Nat) (k : BandCfg) (b : Band), c.bands[i]? = some k ∧ s.rsv.bands[i]? = some b ∧ b.mark = true ∧
        m = k.response) ∧
      ∀ (i : Nat) (k : BandCfg) (b : Band), c.bands[i]? = some k → s.rsv.bands[i]? = some b → b.mark = true → k.response ≤ m) ∧
  ∀ s : State, s.WithinEpoch →
    (s.rsv.senseFault = true ∨ s.rsv.freq = none ∨ s.cfg = none → Answers .tickEvent s fun t => t.rsv.bands = s.rsv.bands) ∧
    ∀ (i f : Nat) (b : Band) (k : BandCfg) (c : ConfigRecord), s.cfg = some c → s.rsv.freq = some f →
      s.rsv.senseFault = false → c.bands[i]? = some k → s.rsv.bands[i]? = some b →
      (k.enabled ≠ 1 → Answers .tickEvent s fun t => ∃ x, t.rsv.bands[i]? = some x ∧ x.phase = b.phase ∧ x.count = b.count ∧
        (x.mark = b.mark ∨ (s.rsv.active = true ∧ t.rsv.active = false ∧ x.mark = false))) ∧
      (k.enabled = 1 →
        (b.phase = .dwell → k.low ≤ f → f ≤ k.high → k.dwell ≤ b.count + 1 → Answers (.bandTrigger i) s fun t =>
          KeptByTick s t ∧ ∃ x, t.rsv.bands[i]? = some x ∧ x.phase = .triggered ∧
            (x.mark = true ∨ (s.rsv.active = true ∧ t.rsv.active = false))) ∧
        (b.phase = .recover → f < k.low ∨ k.high < f → k.recovery ≤ b.count + 1 → Answers (.bandRecovered i) s fun t =>
          KeptByTick s t ∧ t.rsv.bands[i]? = some { phase := .out, count := 0, mark := false }) ∧
        Answers .tickEvent s fun t => ∃ x, t.rsv.bands[i]? = some x ∧ (x.mark = true → b.mark = true ∨ b.phase = .dwell) ∧
          (b.phase = .out → x.phase = (if k.low ≤ f ∧ f ≤ k.high then .dwell else .out)) ∧
          (b.phase = .out → k.low ≤ f → f ≤ k.high → x.count = 0) ∧
          (b.phase = .dwell → ¬(k.low ≤ f ∧ f ≤ k.high) → x.phase = .out ∧ x.count = 0) ∧
          (b.phase = .dwell → k.low ≤ f → f ≤ k.high → b.count + 1 < k.dwell → x.phase = .dwell ∧ x.count = b.count + 1) ∧
          (b.phase = .triggered → x.phase = (if k.low ≤ f ∧ f ≤ k.high then .triggered else .recover)) ∧
          (b.phase = .triggered → f < k.low ∨ k.high < f → x.count = 0) ∧
          (b.phase = .recover → k.low ≤ f → f ≤ k.high → x.phase = .triggered) ∧
          (b.phase = .recover → f < k.low ∨ k.high < f → b.count + 1 < k.recovery →
            x.phase = .recover ∧ x.count = b.count + 1))

/-- R123, R124, R129 to R131, R77, R100, R101: an EVENT frame from another station with D above 0, taken while IDLE, is an
event: its holder, sequence, demand, remaining epochs, baseline, frozen set, origin and own standing are those of the taking, a
computation in flight is marked for discard, the own share and the share sum are those of R129 over the frozen set, the setpoint
follows, and the taking is captured after that with the origin (R162, R163). -/
def Obligations.EventFrameTakesAnEvent : Prop :=
  ∀ (b q d n : Nat) (s : State), s.Delivers b → s.rsv.active = false → 0 < d → n ≤ 3600 → s.log.counters.length = 24 →
    Answers (.eventFrame b b q d n) s fun t =>
      let shares := memberShares t.rsv.members (s.clk.epoch % 64) d
      t.rsv = { s.rsv with
        active := true, holder := some b, lastSeq := q, dActive := d, remaining := min n s.eventMaxEpochs,
        baseline := s.alt.grant, origin := s.clk.epoch % 64, ownPledge := t.rsv.ownPledge,
        members := { bay := s.ownBay, pledge := t.rsv.ownPledge } ::
          (s.ptb.entries.filter fun p => p.state == .live).map fun p => { bay := p.bay, pledge := p.claim.pledge }
        standing := some (if s.ses.isSome then .member else .outside)
        share := if s.ses.isSome then shareOf shares s.ownBay else 0
        shareSum := (shares.map MemberShare.share).sum
        shortfall := decide (t.rsv.pledgeSum < d) } ∧
      (s.lnk.station = .listening ∨ s.ses = none ∨ s.prk.query ≠ none → t.rsv.ownPledge = 0) ∧
      (∀ m ∈ s.lastClaim, s.lnk.station = .active ∨ s.lnk.station = .isolated → s.ses ≠ none → s.prk.query = none →
        t.rsv.ownPledge = m.claim.pledge) ∧
      t.alt = { s.alt with discard := s.alt.discard || s.alt.flight.isSome } ∧
      t.stg = { s.stg with applied := t.setpointFrom s.stg.applied } ∧ t.flagged .eventTaken = true ∧
      (t.rsv.pledgeSum < d → t.flagged .shortfall = true) ∧
      t.counter .eventTaken = min 63 (s.counter .eventTaken + 1) ∧
      CapturedAlone s t .eventTaken (BitVec.ofNat 32 b) none ∧
      t = { s with rsv := t.rsv, alt := t.alt, stg := t.stg, log := t.log, prt := t.prt }

/-- R122, R126 to R130, R137: what an EVENT frame from another station does during an event. A newer frame of the holder with D
above 0 updates it, one with D 0 ends it, one of another origin with a greater D takes it over with the larger remaining time, and
every other one has no effect; a new demand gives the shares of R129 over the frozen set anew, which with the baseline stands, and
the setpoint follows. -/
def Obligations.EventFramesDuringAnEvent : Prop :=
  ∀ (b q d n h : Nat) (s : State), s.Delivers b → s.rsv.active = true → s.rsv.holder = some h → n ≤ 3600 →
    let newer := 1 ≤ (q + 256 - s.rsv.lastSeq) % 256 ∧ (q + 256 - s.rsv.lastSeq) % 256 ≤ 127
    let shares := memberShares s.rsv.members s.rsv.origin d
    let shared : Rsv := { s.rsv with
      dActive := d
      share := if s.rsv.standing = some .member then shareOf shares s.ownBay else 0
      shareSum := (shares.map MemberShare.share).sum
      shortfall := decide (s.rsv.pledgeSum < d) }
    let changes (t : State) : Prop :=
      (s.log.counters.length = 24 → t.counter .eventChanged = min 63 (s.counter .eventChanged + 1)) ∧
      CapturedAlone s t .eventChanged (BitVec.ofNat 32 b) none ∧
      (s.rsv.pledgeSum < d → s.rsv.shortfall = false → t.flagged .shortfall = true) ∧
      t = { s with rsv := t.rsv, stg := { s.stg with applied := t.setpointFrom s.stg.applied }, log := t.log, prt := t.prt }
    (b = h → newer → 0 < d → Answers (.eventFrame b b q d n) s fun t =>
      (d = s.rsv.dActive → t = { s with rsv := { s.rsv with lastSeq := q, remaining := n } }) ∧
      (d ≠ s.rsv.dActive → t.rsv = { shared with lastSeq := q, remaining := n } ∧ changes t)) ∧
    (b = h → newer → d = 0 → Answers (.eventFrame b b q d n) s fun t =>
      t.rsv = { Rsv.reset with
        freq := s.rsv.freq, edgeSeen := s.rsv.edgeSeen, edgeWatch := s.rsv.edgeWatch, senseFault := s.rsv.senseFault,
        bands := s.rsv.bands.map fun x => { x with mark := false }, hostDuration := s.rsv.hostDuration,
        ownSeq := s.rsv.ownSeq, lastSeq := s.rsv.lastSeq } ∧
      t.flagged .eventEnded = true ∧
      (s.log.counters.length = 24 → t.counter .eventEnded = min 63 (s.counter .eventEnded + 1)) ∧
      t.log = (s.capture .eventEnded (BitVec.ofInt 32 ((s.ses.map fun v => v.resp.wh).getD 0)) none).log ∧
      t = { s with rsv := t.rsv, stg := { s.stg with applied := t.setpointFrom s.stg.applied }, log := t.log, prt := t.prt }) ∧
    (b ≠ h → s.rsv.dActive < d → Answers (.eventFrame b b q d n) s fun t =>
      t.rsv = { shared with holder := some b, lastSeq := q, remaining := max s.rsv.remaining n } ∧ changes t) ∧
    ((b = h ∧ ¬newer) ∨ (b ≠ h ∧ d ≤ s.rsv.dActive) → Idle (.eventFrame b b q d n) s)

/-- R129: the shares over a frozen set of distinct bays 1..64. Every member has one; each is at most its pledge, and where the
pledges exceed the demand it is the floor of the demand's fraction, and one unit more for as many of the members below their
pledge as the leftover has units, the first of them in the rotation order of the frozen origin; together the shares serve the
demand as far as the pledges go. -/
def Obligations.SharesServeTheDemand : Prop :=
  ∀ (members : List Member) (o d : Nat), (members.map Member.bay).Nodup → (∀ m ∈ members, 1 ≤ m.bay ∧ m.bay ≤ 64) → o < 64 →
    let shares := memberShares members o d
    let p := (members.map Member.pledge).sum
    (shares.map fun x => (x.bay, x.pledge)).Perm (members.map fun m => (m.bay, m.pledge)) ∧
      (shares.map MemberShare.share).sum = min p d ∧
      ∀ x ∈ shares, x.share ≤ x.pledge ∧ (p ≤ d → x.share = x.pledge) ∧ (d < p →
        let place (bay : Nat) : Nat := (bay + 63 - o) % 64
        let leftover := d - (members.map fun m => d * m.pledge / p).sum
        let before := members.filter fun m => decide (d * m.pledge / p < m.pledge ∧ place m.bay < place x.bay)
        x.share = d * x.pledge / p + if d * x.pledge / p < x.pledge ∧ before.length < leftover then 1 else 0)

/-- R134, R137, R121, R126, R135, R136: at an epoch boundary the countdown ends an event whose remaining epochs reach 0, with
its capture, which carries the response Wh and the demand from before the end (R162, R163), and notice, and every item of the
event cleared. An event that goes on has one epoch less; its holder repeats it when the refresh countdown reaches 0, with the
next own sequence number, and has it queued; a station that is not the holder keeps its refresh countdown. A MEMBER that the
figures of that same boundary show to need its baseline, or to discharge without a surplus, withdraws, captured and noticed,
with share 0. That the rows are the whole boundary is the model's choice: log entry 6. The withdrawal check reads the setpoint
as it stands before the boundary's other changes reach it: log entry 11. -/
def Obligations.CountdownAndRefresh : Prop :=
  ∀ s : State, s.AtEpochEnd → s.PeersOk → s.ReserveOk → s.rsv.active = true → s.log.counters.length = 24 →
    (s.rsv.remaining ≤ 1 → Answers .eventCountdownEnd s fun t =>
      (t.rsv.active, t.rsv.holder, t.rsv.dActive, t.rsv.remaining, t.rsv.refresh) = (false, none, 0, 0, 0) ∧
      (t.rsv.standing, t.rsv.members, t.rsv.baseline, t.rsv.hostDemand, t.rsv.shortfall) = (none, [], 0, 0, false) ∧
      (∀ b ∈ t.rsv.bands, b.mark = false) ∧ t.rsv.lastSeq = s.rsv.lastSeq ∧ t.rsv.ownSeq = s.rsv.ownSeq ∧
      t.rsv.hostDuration = s.rsv.hostDuration ∧ t.flagged .eventEnded = true ∧
      t.counter .eventEnded = min 63 (s.counter .eventEnded + 1) ∧
      ((∀ q ∈ s.prk.query, 1 < q.countdown) → Logged s t .eventEnded 11 fun r =>
        r.detail = BitVec.ofInt 32 ((s.ses.map fun v => v.resp.wh).getD 0) ∧ r.dActive = s.rsv.dActive)) ∧
    (1 < s.rsv.remaining → s.rsv.holder = some s.ownBay → s.rsv.refresh ≤ 1 → Answers .eventRefresh s fun t =>
      t.rsv.active = true ∧ t.rsv.holder = some s.ownBay ∧ t.rsv.dActive = s.rsv.dActive ∧
      t.rsv.remaining = s.rsv.remaining - 1 ∧ t.rsv.refresh = 5 ∧ t.rsv.ownSeq = (s.rsv.ownSeq + 1) % 256 ∧
      t.rsv.lastSeq = (s.rsv.ownSeq + 1) % 256 ∧ t.rsv.members = s.rsv.members ∧ t.rsv.shareSum = s.rsv.shareSum ∧
      t.counter .eventChanged = s.counter .eventChanged ∧
      t.Holds (.event ((s.rsv.ownSeq + 1) % 256) s.rsv.dActive (s.rsv.remaining - 1))) ∧
    (1 < s.rsv.remaining → s.rsv.holder ≠ some s.ownBay ∨ 1 < s.rsv.refresh → Answers .epochBoundary s fun t =>
      t.rsv.active = true ∧ t.rsv.holder = s.rsv.holder ∧ t.rsv.dActive = s.rsv.dActive ∧
      t.rsv.remaining = s.rsv.remaining - 1 ∧ t.rsv.ownSeq = s.rsv.ownSeq ∧ t.rsv.lastSeq = s.rsv.lastSeq ∧
      t.rsv.refresh = (if s.rsv.holder = some s.ownBay then s.rsv.refresh - 1 else s.rsv.refresh)) ∧
    (1 < s.rsv.remaining → s.rsv.standing = some .member → s.lnk.station = .active → (∀ q ∈ s.prk.query, 1 < q.countdown) →
      Answers .epochBoundary s fun t => t.lnk.station = .active → ∀ w ∈ t.ses,
        let must := (0 < w.need ∧ s.rsv.baseline ≤ w.need) ∨ (s.stg.applied < 0 ∧ w.surplus ≤ 0)
        (must → t.rsv.standing = some .withdrawn ∧ t.rsv.share = 0 ∧ t.flagged .withdrawn = true ∧
          t.counter .withdrawn = min 63 (s.counter .withdrawn + 1) ∧
          Logged s t .withdrawn 12 fun r => r.detail = 0#32) ∧
        (¬must → t.rsv.standing = some .member ∧ t.rsv.share = s.rsv.share ∧
          t.counter .withdrawn = s.counter .withdrawn))

/-- R118, R119: DISPATCH in a configured station clamps the demand to R, sets the duration of a demand above 0 (30 epochs to the
minute, the event maximum for 0 or more than it) and answers both. Where it changes the host demand, be that the smaller of the
two demands, or its demand is above 0 and at least the band demand, the self demand counts as changed: the own EVENT frame with
the next sequence number is held to be sent, and applied to the station itself. One that clears the demand releases the event
that the own bay holds. One that changes neither sends nothing. -/
def Obligations.DispatchSetsTheHostDemand : Prop :=
  ∀ (d m : Nat) (c : ConfigRecord) (s : State), s.lnk.station ≠ .unconfigured → s.cfg = some c →
    Answers (.dispatch d m) s fun t =>
      let host := min d c.commitment
      let span := if m = 0 ∨ c.eventMax < m then c.eventMax * 30 else m * 30
      let counts := (0 < host ∧ s.bandDemand ≤ host) ∨ host ≠ s.rsv.hostDemand
      (0 < host → s.bandDemand ≤ host →
        t.rsv.hostDemand = host ∧ t.rsv.hostDuration = span ∧ t.rsv.ownSeq = (s.rsv.ownSeq + 1) % 256 ∧
        t.rsv.active = true ∧ t.Holds (.event ((s.rsv.ownSeq + 1) % 256) host span) ∧
        (s.rsv.active = false → t.rsv.holder = some c.bayId ∧ t.rsv.dActive = host ∧ t.rsv.refresh = 5 ∧
          t.rsv.remaining = min span (c.eventMax * 30) ∧ t.rsv.baseline = s.alt.grant)) ∧
      (counts → t.rsv.ownSeq = (s.rsv.ownSeq + 1) % 256 ∧
        (0 < s.bandDemand → host < s.bandDemand →
          t.Holds (.event ((s.rsv.ownSeq + 1) % 256) s.bandDemand (c.eventMax * 30)) ∧ t.rsv.hostDemand = host)) ∧
      (¬counts → t = { s with
        rsv := { s.rsv with hostDuration := if 0 < host then span else s.rsv.hostDuration }
        prt := { s.prt with answer := t.prt.answer, response := t.prt.response } }) ∧
      (host = 0 → 0 < s.rsv.hostDemand → s.bandDemand = 0 → s.ReserveOk → s.rsv.active = true →
        s.rsv.holder = some c.bayId →
        t.rsv.active = false ∧ t.rsv.hostDemand = 0 ∧ t.rsv.hostDuration = s.rsv.hostDuration ∧
        t.Holds (.event ((s.rsv.ownSeq + 1) % 256) 0 0)) ∧
      Responds s t 7 .ok (u16 t.rsv.hostDemand ++ u16 t.rsv.hostDuration) ∧
      t.clk = s.clk ∧ t.ptb = s.ptb ∧ t.ses = s.ses ∧ t.lastClaim = s.lastClaim ∧ t.prk = s.prk ∧ t.snap = s.snap ∧
      t.cfg = s.cfg ∧ t.alt.grant = s.alt.grant ∧ t.alt.result = s.alt.result ∧ t.log.mask = s.log.mask ∧
      t.prt.mask = s.prt.mask

/-! ## Parking and handover -/

/-- R153, R154, R156, R20, R23: a QUERY for a parked bus makes its entry OFFERED with a wait of 4 and keeps the rivals of one
already OFFERED. Its OFFER, with the context as it is parked but for the legs at −43200, the cursor lower by those of them before
it, joins the queue, or takes the place of one still queued for the bus. A TAKEN that names the own bay removes the entry and is
captured with its sender; one that names another bay removes it only where a rival record of that bay shows it no older. An entry
so removed while OFFERED loses its queued OFFER, and every other queued frame stands. Other frames have no effect. -/
def Obligations.QueriesAndTakensActOnParkedContexts : Prop :=
  ∀ (b bus : Nat) (s : State), s.Delivers b → 1 ≤ bus → bus ≤ 255 → (s.prk.entries.map ParkEntry.busId).Nodup →
    (s.prk.entryOf bus = none → Idle (.queryFrame b bus) s ∧ ∀ x, 1 ≤ x → x ≤ 64 → Idle (.takenFrame b bus x) s) ∧
    ∀ e, s.prk.entryOf bus = some e →
      (Answers (.queryFrame b bus) s fun t =>
        t = { s with lnk := { s.lnk with queue := t.lnk.queue, access := t.lnk.access }, prk := { s.prk with
          entries := s.prk.entries.map fun x => if x.busId = bus then
            { x with offered := some { wait := 4, rivals := (e.offered.map OfferWait.rivals).getD [] } } else x } } ∧
        let x := e.ctx
        let atEnd := (x.chain.legs.take x.chain.cursor).filter fun l => decide (l.dep = -43200)
        let o : Offer :=
          { busId := bus, parkedEpoch := e.parkedEpoch, dayAge := e.dayAge, cap := x.cap, floor := x.floor, lastE := x.lastE,
            cursor := x.chain.cursor - atEnd.length, cumImp := x.cumImp, cumExp := x.cumExp, cumResp := x.cumResp,
            sessions := x.sessions
            legs := (x.chain.legs.filter fun l => decide (l.dep ≠ -43200)).map fun l => { dep := l.dep, req := l.req, state :=
              match l.state with
              | .pending => 0
              | .done => 1
              | .missed => 2 } }
        t.lnk.queue =
          if s.lnk.queue.any fun e => decide (keyOf e.frame = .offer bus) then
            s.lnk.queue.map fun e => if keyOf e.frame = .offer bus then { frame := .offer o, attempts := 0, age := 0 } else e
          else s.lnk.queue ++ [{ frame := .offer o, attempts := 0, age := 0 }]) ∧
      (1 ≤ s.ownBay → s.ownBay ≤ 64 → Answers (.takenFrame b bus s.ownBay) s fun t =>
        t.prk = { s.prk with entries := s.prk.entries.filter fun x => x.busId != bus } ∧
        (s.log.counters.length = 24 → t.counter .handoverOut = min 63 (s.counter .handoverOut + 1)) ∧
        CapturedAlone s t .handoverOut (BitVec.ofNat 32 b) (some bus) ∧
        (e.offered = none → t.lnk = s.lnk) ∧
        (e.offered ≠ none → t.lnk.queue = s.lnk.queue.filter fun x => decide (keyOf x.frame ≠ .offer bus)) ∧
        t = { s with prk := t.prk, log := t.log, prt := t.prt,
                     lnk := { s.lnk with queue := t.lnk.queue, access := t.lnk.access } }) ∧
      ∀ x, 1 ≤ x → x ≤ 64 → x ≠ s.ownBay →
        let older := ∃ w ∈ e.offered, ∃ r ∈ w.rivals, r.bay = x ∧ (e.parkedEpoch : Int) - 43200 * e.dayAge ≤ r.parked
        (older → Answers (.takenFrame b bus x) s fun t =>
          t.prk = { s.prk with entries := s.prk.entries.filter fun y => y.busId != bus } ∧ t.log = s.log ∧
          t.lnk.queue = s.lnk.queue.filter (fun x => decide (keyOf x.frame ≠ .offer bus)) ∧
          t = { s with prk := t.prk, lnk := { s.lnk with queue := t.lnk.queue, access := t.lnk.access } }) ∧
        (¬older → Idle (.takenFrame b bus x) s)

/-- R147, R148, R152, R155: an OFFER for the window's bus, brought into the own day, is counted, and becomes the candidate where
it is fresher, or as fresh and of no higher a bay, with its legs in the own day up to the first past 86399, its leg states and
its totals; for an entry OFFERED for its bus it is that bay's rival record. An OFFER for another bus changes nothing. That a
window whose own QUERY was never sent takes a candidate too is the model's choice: log entry 58. -/
def Obligations.OffersAreJudgedByFreshness : Prop :=
  ∀ (b : Nat) (o : Offer) (s : State), s.Delivers b → OfferInRange o → Answers (.offerFrame b o) s fun t =>
    let q := (o.parkedEpoch : Int) - 43200 * o.dayAge
    let k : Int := if (s.clk.epoch : Int) < q then -1 else if (s.clk.epoch : Int) - 43200 < q then 0 else 1
    let parked := q + 43200 * k
    t = { s with prk := { s.prk with query := t.prk.query, entries := t.prk.entries } } ∧
      (∀ w ∈ s.prk.query, w.busId ≠ o.busId → t.prk.query = some w) ∧
      (∀ w ∈ s.prk.query, w.busId = o.busId → ∃ x, t.prk.query = some { w with offers := min 255 (w.offers + 1), best := x } ∧
        ((∃ best, w.best = some best ∧ (parked < best.parked ∨ (parked = best.parked ∧ best.bay < b))) → x = w.best) ∧
        (w.best = none ∨
          (∃ best, w.best = some best ∧ (best.parked < parked ∨ (parked = best.parked ∧ b ≤ best.bay))) →
          let legs := (o.legs.map fun l => ({ dep := max (l.dep + 43200 * k) (-43200), req := l.req, state :=
            match l.state with
            | 0 => .pending
            | 1 => .done
            | _ => .missed } : Leg)).takeWhile fun l => decide (l.dep ≤ 86399)
          x = some { bay := b, parked := parked, ctx :=
            { cap := o.cap, floor := o.floor, lastE := o.lastE, chain := { legs := legs, cursor := min o.cursor legs.length },
              cumImp := o.cumImp, cumExp := o.cumExp, cumResp := o.cumResp, sessions := o.sessions } })) ∧
      (s.prk.query = none → t.prk.query = none) ∧
      t.prk.entries = s.prk.entries.map fun e =>
        if e.busId = o.busId then { e with offered := e.offered.map fun w =>
          { w with rivals := (w.rivals.filter fun r => r.bay != b) ++ [{ bay := b, parked := parked }] } } else e

/-- R149, R54, R55, R158, R144, R23: the boundary that brings the window countdown to 0 closes the window, with its notice, its
record and its capture (the offerer the detail, the bus that of the session, ended or not: R163), its QUERY leaves the queue,
and the window's bus and the offers heard stand. With a candidate, which by log entry 58 a window whose QUERY was never sent may
have too, the session is RESTORED from it, E0, the floor and the legs' energies clamped to C, its legs a day earlier where the
boundary is a day rollover, and a TAKEN names its bay; with none the session settles COLD, or ends where its capacity is
unknown. That the row is the whole boundary is the model's choice, log entry 6, and so is that the window's figures stand while
the query state is IDLE, log entry 44. -/
def Obligations.WindowCloseRestoresOrSettles : Prop :=
  ∀ (q : Query) (v : Session) (s : State), s.AtEpochEnd → s.ses = some v → s.prk.query = some q →
    q.countdown = 1 → s.lnk.station ≠ .unconfigured → v.chain = { legs := [], cursor := 0 } → s.log.counters.length = 24 →
    Answers .queryWindowClose s fun t =>
      t.prk.query = none ∧ t.prk.idle = { busId := q.busId, countdown := 0, offers := q.offers } ∧ Unqueued s t .query ∧
      t.flagged .handoverDone = true ∧ t.clk.epoch = s.nextCount ∧
      (∀ c ∈ q.best, (∃ w, t.ses = some w ∧ w.origin = .restored ∧ w.cap = (if v.cap = 0 then c.ctx.cap else v.cap) ∧
          w.e0 = min v.e0 w.cap ∧ w.floor = min (if v.floor = 0 then c.ctx.floor else v.floor) w.cap ∧
          (let held := if s.clk.epoch = 43199 then chainDayLater c.ctx.chain else c.ctx.chain
           w.chain = { held with legs := held.legs.map fun l => { l with req := min l.req w.cap } }) ∧
          (w.cumImp, w.cumExp, w.cumResp, w.sessions) =
            (c.ctx.cumImp, c.ctx.cumExp, c.ctx.cumResp, min 255 (c.ctx.sessions + 1))) ∧
        t.Holds (.taken q.busId c.bay) ∧ t.counter .plugRestored = min 63 (s.counter .plugRestored + 1) ∧
        (Logged s t .plugRestored 2 fun r => r.detail = BitVec.ofNat 32 c.bay ∧ r.busId = v.busId) ∧
        t.prk.last = some { result := .restored, busId := q.busId, epoch := s.nextCount, offerer := c.bay,
                            offers := q.offers, lastE := c.ctx.lastE }) ∧
      (q.best = none → t.counter .plugCold = min 63 (s.counter .plugCold + 1) ∧
        (Logged s t .plugCold 1 fun r => r.detail = 0#32 ∧ r.busId = v.busId) ∧
        t.prk.last = some { result := if v.cap ≠ 0 then .cold else .noCapacity, busId := q.busId,
                            epoch := s.nextCount, offerer := 0, offers := q.offers, lastE := 0 } ∧
        (v.cap ≠ 0 → ∃ w, t.ses = some w ∧ w.origin = v.origin ∧ w.cap = v.cap ∧ w.e0 = v.e0 ∧ w.floor = v.floor ∧
          w.chain.legs = []) ∧
        (v.cap = 0 → t.ses = none ∧ t.alt.grant = 0 ∧ t.stg.applied = 0))

/-- R143, R157, R144, R23: at an epoch boundary every hold and every TAKEN-wait is one less, and at a day rollover the entry a
day later. CONTEXT_EXPIRED is the boundary at which the hold of a bus's entry reaches 0, where the entry is gone and captured;
TAKEN_WAIT_END the one at which its wait does, where it is PARKED again without rivals. At both the queued OFFER of an entry
that was OFFERED leaves the queue. That the rows are the whole boundary is the model's choice: log entry 6. -/
def Obligations.HoldsAndWaitsRunOut : Prop :=
  ∀ (bus : Nat) (e : ParkEntry) (s : State), s.AtEpochEnd → s.prk.entries.filter (fun x => x.busId == bus) = [e] → s.LogOk →
    let later := if s.clk.epoch = 43199 then parkedDayLater e else e
    (e.hold = 1 → Answers (.contextExpired bus) s fun t =>
      (∀ x ∈ t.prk.entries, x.busId ≠ bus) ∧ (e.offered ≠ none → Unqueued s t (.offer bus)) ∧
      (Logged s t .contextExpired 7 fun r => r.detail = 0#32 ∧ r.busId = bus) ∧
      s.counter .contextExpired ≤ t.counter .contextExpired ∧
      (s.counter .contextExpired < 63 → s.counter .contextExpired < t.counter .contextExpired)) ∧
    (∀ w, e.offered = some w → w.wait = 1 → 1 < e.hold → Answers (.takenWaitEnd bus) s fun t =>
      Unqueued s t (.offer bus) ∧
      t.prk.entries.filter (fun x => x.busId == bus) = [{ later with offered := none, hold := e.hold - 1 }]) ∧
    (1 < e.hold → (∀ w ∈ e.offered, 1 < w.wait) → Answers .epochBoundary s fun t =>
      t.prk.entries.filter (fun x => x.busId == bus) =
        [{ later with hold := e.hold - 1, offered := later.offered.map fun w => { w with wait := w.wait - 1 } }])

/-! ## The capture log -/

/-- R161 to R167, R170, R171, R172, R194: a capture of any of the 24 causes is counted. It is stored where its code is 1..21 and
in the mask in force, and for MARK and BAY_RESET; otherwise it is only counted. What is stored is the filling bank's next
record, with the next number, the stamp, the standing figures, the cause and detail given, and the bus of the live session or of
the parked context given; the twelfth record makes the bank FULL with its notice, and an EMPTY other bank FILLING. With no bank
filling it is lost, the lost count rises and LOG_OVERFLOW is set. MARK is such a capture with the tag its detail, and its
response names the record. READ_LOG answers the bank's state and count and the 23 bytes of the record at an index below the
count, and changes nothing; other banks and indices are refused with RANGE. -/
def Obligations.MarksAreStoredAndRead : Prop :=
  ∀ s : State, s.LogOk →
    let record (c : Cause) (detail : BitVec 32) (bus : Nat) : LogRecord :=
      { seq := s.log.seq, epoch := s.clk.epoch, tick := s.clk.tick, cause := c, busId := bus, grant := s.alt.grant,
        applied := s.stg.applied, measured := s.stg.measured, dActive := if s.rsv.active then s.rsv.dActive else 0,
        energy := s.energy, detail := detail }
    let live := (s.ses.map Session.busId).getD 0
    (∀ (c : Cause) (n : Nat) (detail : BitVec 32) (bus : Option Nat), (c, n) ∈ causeCodes →
      let t := s.capture c detail bus
      let kept := (n ≤ 21 ∧ s.log.mask.getLsbD (n - 1) = true) ∨ n = 22 ∨ n = 23
      t = { s with log := t.log, prt := { s.prt with flags := t.prt.flags } } ∧
        t.log.counters = s.log.counters.modify (n - 1) (fun x => min 63 (x + 1)) ∧
        (kept → StoredOrLost s t (record c detail (bus.getD live))) ∧
        (¬kept → t.log = { s.log with counters := t.log.counters } ∧ t.prt.flags = s.prt.flags)) ∧
    (∀ c : Cause, ∃ n, (c, n) ∈ causeCodes) ∧
    (∀ (tag : BitVec 32), Answers (.mark tag) s fun t =>
      t = { s with log := t.log, prt := t.prt, choices := t.choices } ∧ Responds s t 8 .ok t.prt.response.payload ∧
      t.counter .mark = min 63 (s.counter .mark + 1) ∧ t.prt.mask = s.prt.mask ∧ StoredOrLost s t (record .mark tag live) ∧
      (s.log.a.state = .filling ∨ s.log.b.state = .filling →
        t.prt.response.payload = u8 0 ++ u16 s.log.seq ++ u16 s.clk.epoch ++ u8 s.clk.tick) ∧
      (s.log.a.state ≠ .filling → s.log.b.state ≠ .filling → t.prt.response.payload.take 1 = [1#8])) ∧
    (∀ bank i r, bank ≤ 1 → i ≤ 11 → (if bank = 0 then s.log.a else s.log.b).records[i]? = some r →
      let held := if bank = 0 then s.log.a else s.log.b
      let code := match held.state with
        | .empty => 0
        | .filling => 1
        | .full => 2
      ∃ n, (r.cause, n) ∈ causeCodes ∧ Answers (.readLog bank i) s fun t =>
        t = { s with prt := { s.prt with answer := t.prt.answer, response := t.prt.response } } ∧
        Responds s t 11 .ok (u8 code ++ u8 held.records.length ++ u16 r.seq ++ u16 r.epoch ++ u8 r.tick ++ u8 n ++ u8 r.busId ++
          u16 r.grant ++ i16 r.applied ++ i16 r.measured ++ u16 r.dActive ++ u32 r.energy ++ u32 r.detail.toNat)) ∧
    (∀ bank i, 1 < bank → Refused (.readLog bank i) s 11 .range [1#8]) ∧
    ∀ bank i, bank ≤ 1 → (if bank = 0 then s.log.a else s.log.b).records.length ≤ i →
      Refused (.readLog bank i) s 11 .range [2#8]

/-- R169, R168: CLOSE_BANK closes the filling bank, which becomes FULL with the records it holds and raises its notice, and the
other becomes FILLING; it is taken where the filling bank has a record and the other is EMPTY, and refused with STATE in every
other case, with nothing changed. RELEASE_BANK discards the records of a FULL bank, which becomes EMPTY, or FILLING at once where
no bank is filling; it clears no notice. A bank that is EMPTY or FILLING refuses it with STATE, a name other than A (0) and B (1)
with RANGE, and nothing changes. A capture in the same instant is stored or lost by the order in which the two are taken. -/
def Obligations.BanksAreClosedAndReleased : Prop :=
  ∀ s : State,
    (s.log.a.state = .filling → s.log.a.records ≠ [] → s.log.b.state = .empty → exec .closeBank s = .next { s with
      log := { s.log with a := { s.log.a with state := .full }, b := { s.log.b with state := .filling } }
      prt := { s.prt with
        answer := nextAnswer s.prt.answer
        flags := s.prt.flags ||| 1#20
        response := { kind := 9, status := .ok, answer := nextAnswer s.prt.answer, station := s.lnk.station,
                      flags := s.prt.flags ||| 1#20
                      payload := u8 2 ++ u8 s.log.a.records.length ++ u8 1 ++ u8 s.log.b.records.length } } }) ∧
    (s.log.b.state = .filling → s.log.b.records ≠ [] → s.log.a.state = .empty → exec .closeBank s = .next { s with
      log := { s.log with b := { s.log.b with state := .full }, a := { s.log.a with state := .filling } }
      prt := { s.prt with
        answer := nextAnswer s.prt.answer
        flags := s.prt.flags ||| 2#20
        response := { kind := 9, status := .ok, answer := nextAnswer s.prt.answer, station := s.lnk.station,
                      flags := s.prt.flags ||| 2#20
                      payload := u8 1 ++ u8 s.log.a.records.length ++ u8 2 ++ u8 s.log.b.records.length } } }) ∧
    (¬(s.log.a.state = .filling ∧ s.log.a.records ≠ [] ∧ s.log.b.state = .empty) →
      ¬(s.log.b.state = .filling ∧ s.log.b.records ≠ [] ∧ s.log.a.state = .empty) →
      Refused .closeBank s 9 .state s.statePayload) ∧
    (∀ tag : BitVec 32, s.log.a.state = .filling → s.log.a.records.length = 11 → s.log.b = { state := .empty, records := [] } →
      (∃ t, exec (.mark tag) s = .next t ∧ t.log.b.state = .filling ∧ Refused .closeBank t 9 .state t.statePayload) ∧
      ∃ t u, exec .closeBank s = .next t ∧ exec (.mark tag) t = .next u ∧ u.log.b.records.length = 1) ∧
    (s.log.a.state = .full → exec (.releaseBank 0) s = .next { s with
      log := { s.log with a := { state := if s.log.b.state = .filling then .empty else .filling, records := [] } }
      prt := { s.prt with
        answer := nextAnswer s.prt.answer
        response := { kind := 10, status := .ok, answer := nextAnswer s.prt.answer, station := s.lnk.station,
                      flags := s.prt.flags
                      payload := u8 (if s.log.b.state = .filling then 0 else 1) ++ u8 0 ++ u8 s.log.b.state.code ++
                        u8 s.log.b.records.length } } }) ∧
    (s.log.b.state = .full → exec (.releaseBank 1) s = .next { s with
      log := { s.log with b := { state := if s.log.a.state = .filling then .empty else .filling, records := [] } }
      prt := { s.prt with
        answer := nextAnswer s.prt.answer
        response := { kind := 10, status := .ok, answer := nextAnswer s.prt.answer, station := s.lnk.station,
                      flags := s.prt.flags
                      payload := u8 s.log.a.state.code ++ u8 s.log.a.records.length ++
                        u8 (if s.log.a.state = .filling then 0 else 1) ++ u8 0 } } }) ∧
    (s.log.a.state ≠ .full → Refused (.releaseBank 0) s 10 .state s.statePayload) ∧
    (s.log.b.state ≠ .full → Refused (.releaseBank 1) s 10 .state s.statePayload) ∧
    (∀ n, 1 < n → Refused (.releaseBank n) s 10 .range [1#8]) ∧
    ∀ tag : BitVec 32, s.log.a.state = .full → s.log.b.state = .full →
      (∃ t u, exec (.releaseBank 0) s = .next t ∧ exec (.mark tag) t = .next u ∧ u.log.a.records.length = 1 ∧
        u.log.lost = s.log.lost) ∧
      ∃ t u, exec (.mark tag) s = .next t ∧ exec (.releaseBank 0) t = .next u ∧ u.log.a.records = [] ∧
        u.log.lost = min 255 (s.log.lost + 1)

/-- R173: CLEAR_COUNTERS sets all 24 counters and the lost-record count to 0 and leaves the rest of the log and every notice. A
capture before it is cleared with the rest; after it the counter of a capture's cause reads 1. -/
def Obligations.ClearCountersZeroesTheCounters : Prop :=
  ∀ s : State,
    (exec .clearCounters s = .next { s with
      log := { s.log with counters := List.replicate 24 0, lost := 0 }
      prt := { s.prt with
        answer := nextAnswer s.prt.answer
        response := { kind := 19, status := .ok, answer := nextAnswer s.prt.answer, station := s.lnk.station,
                      flags := s.prt.flags, payload := [] } } }) ∧
    ∀ (c : Cause) (detail : BitVec 32) (bus : Option Nat),
      (Answers .clearCounters s fun t => (t.capture c detail bus).counter c = 1) ∧
      Answers .clearCounters (s.capture c detail bus) fun t => t.counter c = 0
end

