-- ==== Sys2Proof/Laws/State.lean ====
section
/-!
SUPPORT. One lemma for each field of `State` after each named update of `Machine/Ops.lean`: true by `rfl`, so that no later
proof unfolds a record update.
-/

namespace Sys2Proof.Machine

@[simp] theorem State.setClk_clk (s : State) (x : Clk) : (s.setClk x).clk = x := rfl
@[simp] theorem State.setClk_lnk (s : State) (x : Clk) : (s.setClk x).lnk = s.lnk := rfl
@[simp] theorem State.setClk_ptb (s : State) (x : Clk) : (s.setClk x).ptb = s.ptb := rfl
@[simp] theorem State.setClk_ses (s : State) (x : Clk) : (s.setClk x).ses = s.ses := rfl
@[simp] theorem State.setClk_lastClaim (s : State) (x : Clk) : (s.setClk x).lastClaim = s.lastClaim := rfl
@[simp] theorem State.setClk_alt (s : State) (x : Clk) : (s.setClk x).alt = s.alt := rfl
@[simp] theorem State.setClk_stg (s : State) (x : Clk) : (s.setClk x).stg = s.stg := rfl
@[simp] theorem State.setClk_snap (s : State) (x : Clk) : (s.setClk x).snap = s.snap := rfl
@[simp] theorem State.setClk_rsv (s : State) (x : Clk) : (s.setClk x).rsv = s.rsv := rfl
@[simp] theorem State.setClk_prk (s : State) (x : Clk) : (s.setClk x).prk = s.prk := rfl
@[simp] theorem State.setClk_log (s : State) (x : Clk) : (s.setClk x).log = s.log := rfl
@[simp] theorem State.setClk_prt (s : State) (x : Clk) : (s.setClk x).prt = s.prt := rfl
@[simp] theorem State.setClk_cfg (s : State) (x : Clk) : (s.setClk x).cfg = s.cfg := rfl
@[simp] theorem State.setClk_pending (s : State) (x : Clk) : (s.setClk x).pending = s.pending := rfl
@[simp] theorem State.setClk_choices (s : State) (x : Clk) : (s.setClk x).choices = s.choices := rfl
@[simp] theorem State.setLnk_clk (s : State) (x : Lnk) : (s.setLnk x).clk = s.clk := rfl
@[simp] theorem State.setLnk_lnk (s : State) (x : Lnk) : (s.setLnk x).lnk = x := rfl
@[simp] theorem State.setLnk_ptb (s : State) (x : Lnk) : (s.setLnk x).ptb = s.ptb := rfl
@[simp] theorem State.setLnk_ses (s : State) (x : Lnk) : (s.setLnk x).ses = s.ses := rfl
@[simp] theorem State.setLnk_lastClaim (s : State) (x : Lnk) : (s.setLnk x).lastClaim = s.lastClaim := rfl
@[simp] theorem State.setLnk_alt (s : State) (x : Lnk) : (s.setLnk x).alt = s.alt := rfl
@[simp] theorem State.setLnk_stg (s : State) (x : Lnk) : (s.setLnk x).stg = s.stg := rfl
@[simp] theorem State.setLnk_snap (s : State) (x : Lnk) : (s.setLnk x).snap = s.snap := rfl
@[simp] theorem State.setLnk_rsv (s : State) (x : Lnk) : (s.setLnk x).rsv = s.rsv := rfl
@[simp] theorem State.setLnk_prk (s : State) (x : Lnk) : (s.setLnk x).prk = s.prk := rfl
@[simp] theorem State.setLnk_log (s : State) (x : Lnk) : (s.setLnk x).log = s.log := rfl
@[simp] theorem State.setLnk_prt (s : State) (x : Lnk) : (s.setLnk x).prt = s.prt := rfl
@[simp] theorem State.setLnk_cfg (s : State) (x : Lnk) : (s.setLnk x).cfg = s.cfg := rfl
@[simp] theorem State.setLnk_pending (s : State) (x : Lnk) : (s.setLnk x).pending = s.pending := rfl
@[simp] theorem State.setLnk_choices (s : State) (x : Lnk) : (s.setLnk x).choices = s.choices := rfl
@[simp] theorem State.setPtb_clk (s : State) (x : Ptb) : (s.setPtb x).clk = s.clk := rfl
@[simp] theorem State.setPtb_lnk (s : State) (x : Ptb) : (s.setPtb x).lnk = s.lnk := rfl
@[simp] theorem State.setPtb_ptb (s : State) (x : Ptb) : (s.setPtb x).ptb = x := rfl
@[simp] theorem State.setPtb_ses (s : State) (x : Ptb) : (s.setPtb x).ses = s.ses := rfl
@[simp] theorem State.setPtb_lastClaim (s : State) (x : Ptb) : (s.setPtb x).lastClaim = s.lastClaim := rfl
@[simp] theorem State.setPtb_alt (s : State) (x : Ptb) : (s.setPtb x).alt = s.alt := rfl
@[simp] theorem State.setPtb_stg (s : State) (x : Ptb) : (s.setPtb x).stg = s.stg := rfl
@[simp] theorem State.setPtb_snap (s : State) (x : Ptb) : (s.setPtb x).snap = s.snap := rfl
@[simp] theorem State.setPtb_rsv (s : State) (x : Ptb) : (s.setPtb x).rsv = s.rsv := rfl
@[simp] theorem State.setPtb_prk (s : State) (x : Ptb) : (s.setPtb x).prk = s.prk := rfl
@[simp] theorem State.setPtb_log (s : State) (x : Ptb) : (s.setPtb x).log = s.log := rfl
@[simp] theorem State.setPtb_prt (s : State) (x : Ptb) : (s.setPtb x).prt = s.prt := rfl
@[simp] theorem State.setPtb_cfg (s : State) (x : Ptb) : (s.setPtb x).cfg = s.cfg := rfl
@[simp] theorem State.setPtb_pending (s : State) (x : Ptb) : (s.setPtb x).pending = s.pending := rfl
@[simp] theorem State.setPtb_choices (s : State) (x : Ptb) : (s.setPtb x).choices = s.choices := rfl
@[simp] theorem State.setSes_clk (s : State) (x : Option Session) : (s.setSes x).clk = s.clk := rfl
@[simp] theorem State.setSes_lnk (s : State) (x : Option Session) : (s.setSes x).lnk = s.lnk := rfl
@[simp] theorem State.setSes_ptb (s : State) (x : Option Session) : (s.setSes x).ptb = s.ptb := rfl
@[simp] theorem State.setSes_ses (s : State) (x : Option Session) : (s.setSes x).ses = x := rfl
@[simp] theorem State.setSes_lastClaim (s : State) (x : Option Session) : (s.setSes x).lastClaim = s.lastClaim := rfl
@[simp] theorem State.setSes_alt (s : State) (x : Option Session) : (s.setSes x).alt = s.alt := rfl
@[simp] theorem State.setSes_stg (s : State) (x : Option Session) : (s.setSes x).stg = s.stg := rfl
@[simp] theorem State.setSes_snap (s : State) (x : Option Session) : (s.setSes x).snap = s.snap := rfl
@[simp] theorem State.setSes_rsv (s : State) (x : Option Session) : (s.setSes x).rsv = s.rsv := rfl
@[simp] theorem State.setSes_prk (s : State) (x : Option Session) : (s.setSes x).prk = s.prk := rfl
@[simp] theorem State.setSes_log (s : State) (x : Option Session) : (s.setSes x).log = s.log := rfl
@[simp] theorem State.setSes_prt (s : State) (x : Option Session) : (s.setSes x).prt = s.prt := rfl
@[simp] theorem State.setSes_cfg (s : State) (x : Option Session) : (s.setSes x).cfg = s.cfg := rfl
@[simp] theorem State.setSes_pending (s : State) (x : Option Session) : (s.setSes x).pending = s.pending := rfl
@[simp] theorem State.setSes_choices (s : State) (x : Option Session) : (s.setSes x).choices = s.choices := rfl
@[simp] theorem State.setLastClaim_clk (s : State) (x : Option BuiltClaim) : (s.setLastClaim x).clk = s.clk := rfl
@[simp] theorem State.setLastClaim_lnk (s : State) (x : Option BuiltClaim) : (s.setLastClaim x).lnk = s.lnk := rfl
@[simp] theorem State.setLastClaim_ptb (s : State) (x : Option BuiltClaim) : (s.setLastClaim x).ptb = s.ptb := rfl
@[simp] theorem State.setLastClaim_ses (s : State) (x : Option BuiltClaim) : (s.setLastClaim x).ses = s.ses := rfl
@[simp] theorem State.setLastClaim_lastClaim (s : State) (x : Option BuiltClaim) : (s.setLastClaim x).lastClaim = x := rfl
@[simp] theorem State.setLastClaim_alt (s : State) (x : Option BuiltClaim) : (s.setLastClaim x).alt = s.alt := rfl
@[simp] theorem State.setLastClaim_stg (s : State) (x : Option BuiltClaim) : (s.setLastClaim x).stg = s.stg := rfl
@[simp] theorem State.setLastClaim_snap (s : State) (x : Option BuiltClaim) : (s.setLastClaim x).snap = s.snap := rfl
@[simp] theorem State.setLastClaim_rsv (s : State) (x : Option BuiltClaim) : (s.setLastClaim x).rsv = s.rsv := rfl
@[simp] theorem State.setLastClaim_prk (s : State) (x : Option BuiltClaim) : (s.setLastClaim x).prk = s.prk := rfl
@[simp] theorem State.setLastClaim_log (s : State) (x : Option BuiltClaim) : (s.setLastClaim x).log = s.log := rfl
@[simp] theorem State.setLastClaim_prt (s : State) (x : Option BuiltClaim) : (s.setLastClaim x).prt = s.prt := rfl
@[simp] theorem State.setLastClaim_cfg (s : State) (x : Option BuiltClaim) : (s.setLastClaim x).cfg = s.cfg := rfl
@[simp] theorem State.setLastClaim_pending (s : State) (x : Option BuiltClaim) : (s.setLastClaim x).pending = s.pending := rfl
@[simp] theorem State.setLastClaim_choices (s : State) (x : Option BuiltClaim) : (s.setLastClaim x).choices = s.choices := rfl
@[simp] theorem State.setAlt_clk (s : State) (x : Alt) : (s.setAlt x).clk = s.clk := rfl
@[simp] theorem State.setAlt_lnk (s : State) (x : Alt) : (s.setAlt x).lnk = s.lnk := rfl
@[simp] theorem State.setAlt_ptb (s : State) (x : Alt) : (s.setAlt x).ptb = s.ptb := rfl
@[simp] theorem State.setAlt_ses (s : State) (x : Alt) : (s.setAlt x).ses = s.ses := rfl
@[simp] theorem State.setAlt_lastClaim (s : State) (x : Alt) : (s.setAlt x).lastClaim = s.lastClaim := rfl
@[simp] theorem State.setAlt_alt (s : State) (x : Alt) : (s.setAlt x).alt = x := rfl
@[simp] theorem State.setAlt_stg (s : State) (x : Alt) : (s.setAlt x).stg = s.stg := rfl
@[simp] theorem State.setAlt_snap (s : State) (x : Alt) : (s.setAlt x).snap = s.snap := rfl
@[simp] theorem State.setAlt_rsv (s : State) (x : Alt) : (s.setAlt x).rsv = s.rsv := rfl
@[simp] theorem State.setAlt_prk (s : State) (x : Alt) : (s.setAlt x).prk = s.prk := rfl
@[simp] theorem State.setAlt_log (s : State) (x : Alt) : (s.setAlt x).log = s.log := rfl
@[simp] theorem State.setAlt_prt (s : State) (x : Alt) : (s.setAlt x).prt = s.prt := rfl
@[simp] theorem State.setAlt_cfg (s : State) (x : Alt) : (s.setAlt x).cfg = s.cfg := rfl
@[simp] theorem State.setAlt_pending (s : State) (x : Alt) : (s.setAlt x).pending = s.pending := rfl
@[simp] theorem State.setAlt_choices (s : State) (x : Alt) : (s.setAlt x).choices = s.choices := rfl
@[simp] theorem State.setStg_clk (s : State) (x : Stg) : (s.setStg x).clk = s.clk := rfl
@[simp] theorem State.setStg_lnk (s : State) (x : Stg) : (s.setStg x).lnk = s.lnk := rfl
@[simp] theorem State.setStg_ptb (s : State) (x : Stg) : (s.setStg x).ptb = s.ptb := rfl
@[simp] theorem State.setStg_ses (s : State) (x : Stg) : (s.setStg x).ses = s.ses := rfl
@[simp] theorem State.setStg_lastClaim (s : State) (x : Stg) : (s.setStg x).lastClaim = s.lastClaim := rfl
@[simp] theorem State.setStg_alt (s : State) (x : Stg) : (s.setStg x).alt = s.alt := rfl
@[simp] theorem State.setStg_stg (s : State) (x : Stg) : (s.setStg x).stg = x := rfl
@[simp] theorem State.setStg_snap (s : State) (x : Stg) : (s.setStg x).snap = s.snap := rfl
@[simp] theorem State.setStg_rsv (s : State) (x : Stg) : (s.setStg x).rsv = s.rsv := rfl
@[simp] theorem State.setStg_prk (s : State) (x : Stg) : (s.setStg x).prk = s.prk := rfl
@[simp] theorem State.setStg_log (s : State) (x : Stg) : (s.setStg x).log = s.log := rfl
@[simp] theorem State.setStg_prt (s : State) (x : Stg) : (s.setStg x).prt = s.prt := rfl
@[simp] theorem State.setStg_cfg (s : State) (x : Stg) : (s.setStg x).cfg = s.cfg := rfl
@[simp] theorem State.setStg_pending (s : State) (x : Stg) : (s.setStg x).pending = s.pending := rfl
@[simp] theorem State.setStg_choices (s : State) (x : Stg) : (s.setStg x).choices = s.choices := rfl
@[simp] theorem State.setSnap_clk (s : State) (x : Option Snapshot) : (s.setSnap x).clk = s.clk := rfl
@[simp] theorem State.setSnap_lnk (s : State) (x : Option Snapshot) : (s.setSnap x).lnk = s.lnk := rfl
@[simp] theorem State.setSnap_ptb (s : State) (x : Option Snapshot) : (s.setSnap x).ptb = s.ptb := rfl
@[simp] theorem State.setSnap_ses (s : State) (x : Option Snapshot) : (s.setSnap x).ses = s.ses := rfl
@[simp] theorem State.setSnap_lastClaim (s : State) (x : Option Snapshot) : (s.setSnap x).lastClaim = s.lastClaim := rfl
@[simp] theorem State.setSnap_alt (s : State) (x : Option Snapshot) : (s.setSnap x).alt = s.alt := rfl
@[simp] theorem State.setSnap_stg (s : State) (x : Option Snapshot) : (s.setSnap x).stg = s.stg := rfl
@[simp] theorem State.setSnap_snap (s : State) (x : Option Snapshot) : (s.setSnap x).snap = x := rfl
@[simp] theorem State.setSnap_rsv (s : State) (x : Option Snapshot) : (s.setSnap x).rsv = s.rsv := rfl
@[simp] theorem State.setSnap_prk (s : State) (x : Option Snapshot) : (s.setSnap x).prk = s.prk := rfl
@[simp] theorem State.setSnap_log (s : State) (x : Option Snapshot) : (s.setSnap x).log = s.log := rfl
@[simp] theorem State.setSnap_prt (s : State) (x : Option Snapshot) : (s.setSnap x).prt = s.prt := rfl
@[simp] theorem State.setSnap_cfg (s : State) (x : Option Snapshot) : (s.setSnap x).cfg = s.cfg := rfl
@[simp] theorem State.setSnap_pending (s : State) (x : Option Snapshot) : (s.setSnap x).pending = s.pending := rfl
@[simp] theorem State.setSnap_choices (s : State) (x : Option Snapshot) : (s.setSnap x).choices = s.choices := rfl
@[simp] theorem State.setRsv_clk (s : State) (x : Rsv) : (s.setRsv x).clk = s.clk := rfl
@[simp] theorem State.setRsv_lnk (s : State) (x : Rsv) : (s.setRsv x).lnk = s.lnk := rfl
@[simp] theorem State.setRsv_ptb (s : State) (x : Rsv) : (s.setRsv x).ptb = s.ptb := rfl
@[simp] theorem State.setRsv_ses (s : State) (x : Rsv) : (s.setRsv x).ses = s.ses := rfl
@[simp] theorem State.setRsv_lastClaim (s : State) (x : Rsv) : (s.setRsv x).lastClaim = s.lastClaim := rfl
@[simp] theorem State.setRsv_alt (s : State) (x : Rsv) : (s.setRsv x).alt = s.alt := rfl
@[simp] theorem State.setRsv_stg (s : State) (x : Rsv) : (s.setRsv x).stg = s.stg := rfl
@[simp] theorem State.setRsv_snap (s : State) (x : Rsv) : (s.setRsv x).snap = s.snap := rfl
@[simp] theorem State.setRsv_rsv (s : State) (x : Rsv) : (s.setRsv x).rsv = x := rfl
@[simp] theorem State.setRsv_prk (s : State) (x : Rsv) : (s.setRsv x).prk = s.prk := rfl
@[simp] theorem State.setRsv_log (s : State) (x : Rsv) : (s.setRsv x).log = s.log := rfl
@[simp] theorem State.setRsv_prt (s : State) (x : Rsv) : (s.setRsv x).prt = s.prt := rfl
@[simp] theorem State.setRsv_cfg (s : State) (x : Rsv) : (s.setRsv x).cfg = s.cfg := rfl
@[simp] theorem State.setRsv_pending (s : State) (x : Rsv) : (s.setRsv x).pending = s.pending := rfl
@[simp] theorem State.setRsv_choices (s : State) (x : Rsv) : (s.setRsv x).choices = s.choices := rfl
@[simp] theorem State.setPrk_clk (s : State) (x : Prk) : (s.setPrk x).clk = s.clk := rfl
@[simp] theorem State.setPrk_lnk (s : State) (x : Prk) : (s.setPrk x).lnk = s.lnk := rfl
@[simp] theorem State.setPrk_ptb (s : State) (x : Prk) : (s.setPrk x).ptb = s.ptb := rfl
@[simp] theorem State.setPrk_ses (s : State) (x : Prk) : (s.setPrk x).ses = s.ses := rfl
@[simp] theorem State.setPrk_lastClaim (s : State) (x : Prk) : (s.setPrk x).lastClaim = s.lastClaim := rfl
@[simp] theorem State.setPrk_alt (s : State) (x : Prk) : (s.setPrk x).alt = s.alt := rfl
@[simp] theorem State.setPrk_stg (s : State) (x : Prk) : (s.setPrk x).stg = s.stg := rfl
@[simp] theorem State.setPrk_snap (s : State) (x : Prk) : (s.setPrk x).snap = s.snap := rfl
@[simp] theorem State.setPrk_rsv (s : State) (x : Prk) : (s.setPrk x).rsv = s.rsv := rfl
@[simp] theorem State.setPrk_prk (s : State) (x : Prk) : (s.setPrk x).prk = x := rfl
@[simp] theorem State.setPrk_log (s : State) (x : Prk) : (s.setPrk x).log = s.log := rfl
@[simp] theorem State.setPrk_prt (s : State) (x : Prk) : (s.setPrk x).prt = s.prt := rfl
@[simp] theorem State.setPrk_cfg (s : State) (x : Prk) : (s.setPrk x).cfg = s.cfg := rfl
@[simp] theorem State.setPrk_pending (s : State) (x : Prk) : (s.setPrk x).pending = s.pending := rfl
@[simp] theorem State.setPrk_choices (s : State) (x : Prk) : (s.setPrk x).choices = s.choices := rfl
@[simp] theorem State.setLog_clk (s : State) (x : Log) : (s.setLog x).clk = s.clk := rfl
@[simp] theorem State.setLog_lnk (s : State) (x : Log) : (s.setLog x).lnk = s.lnk := rfl
@[simp] theorem State.setLog_ptb (s : State) (x : Log) : (s.setLog x).ptb = s.ptb := rfl
@[simp] theorem State.setLog_ses (s : State) (x : Log) : (s.setLog x).ses = s.ses := rfl
@[simp] theorem State.setLog_lastClaim (s : State) (x : Log) : (s.setLog x).lastClaim = s.lastClaim := rfl
@[simp] theorem State.setLog_alt (s : State) (x : Log) : (s.setLog x).alt = s.alt := rfl
@[simp] theorem State.setLog_stg (s : State) (x : Log) : (s.setLog x).stg = s.stg := rfl
@[simp] theorem State.setLog_snap (s : State) (x : Log) : (s.setLog x).snap = s.snap := rfl
@[simp] theorem State.setLog_rsv (s : State) (x : Log) : (s.setLog x).rsv = s.rsv := rfl
@[simp] theorem State.setLog_prk (s : State) (x : Log) : (s.setLog x).prk = s.prk := rfl
@[simp] theorem State.setLog_log (s : State) (x : Log) : (s.setLog x).log = x := rfl
@[simp] theorem State.setLog_prt (s : State) (x : Log) : (s.setLog x).prt = s.prt := rfl
@[simp] theorem State.setLog_cfg (s : State) (x : Log) : (s.setLog x).cfg = s.cfg := rfl
@[simp] theorem State.setLog_pending (s : State) (x : Log) : (s.setLog x).pending = s.pending := rfl
@[simp] theorem State.setLog_choices (s : State) (x : Log) : (s.setLog x).choices = s.choices := rfl
@[simp] theorem State.setPrt_clk (s : State) (x : Prt) : (s.setPrt x).clk = s.clk := rfl
@[simp] theorem State.setPrt_lnk (s : State) (x : Prt) : (s.setPrt x).lnk = s.lnk := rfl
@[simp] theorem State.setPrt_ptb (s : State) (x : Prt) : (s.setPrt x).ptb = s.ptb := rfl
@[simp] theorem State.setPrt_ses (s : State) (x : Prt) : (s.setPrt x).ses = s.ses := rfl
@[simp] theorem State.setPrt_lastClaim (s : State) (x : Prt) : (s.setPrt x).lastClaim = s.lastClaim := rfl
@[simp] theorem State.setPrt_alt (s : State) (x : Prt) : (s.setPrt x).alt = s.alt := rfl
@[simp] theorem State.setPrt_stg (s : State) (x : Prt) : (s.setPrt x).stg = s.stg := rfl
@[simp] theorem State.setPrt_snap (s : State) (x : Prt) : (s.setPrt x).snap = s.snap := rfl
@[simp] theorem State.setPrt_rsv (s : State) (x : Prt) : (s.setPrt x).rsv = s.rsv := rfl
@[simp] theorem State.setPrt_prk (s : State) (x : Prt) : (s.setPrt x).prk = s.prk := rfl
@[simp] theorem State.setPrt_log (s : State) (x : Prt) : (s.setPrt x).log = s.log := rfl
@[simp] theorem State.setPrt_prt (s : State) (x : Prt) : (s.setPrt x).prt = x := rfl
@[simp] theorem State.setPrt_cfg (s : State) (x : Prt) : (s.setPrt x).cfg = s.cfg := rfl
@[simp] theorem State.setPrt_pending (s : State) (x : Prt) : (s.setPrt x).pending = s.pending := rfl
@[simp] theorem State.setPrt_choices (s : State) (x : Prt) : (s.setPrt x).choices = s.choices := rfl
@[simp] theorem State.setCfg_clk (s : State) (x : Option ConfigRecord) : (s.setCfg x).clk = s.clk := rfl
@[simp] theorem State.setCfg_lnk (s : State) (x : Option ConfigRecord) : (s.setCfg x).lnk = s.lnk := rfl
@[simp] theorem State.setCfg_ptb (s : State) (x : Option ConfigRecord) : (s.setCfg x).ptb = s.ptb := rfl
@[simp] theorem State.setCfg_ses (s : State) (x : Option ConfigRecord) : (s.setCfg x).ses = s.ses := rfl
@[simp] theorem State.setCfg_lastClaim (s : State) (x : Option ConfigRecord) : (s.setCfg x).lastClaim = s.lastClaim := rfl
@[simp] theorem State.setCfg_alt (s : State) (x : Option ConfigRecord) : (s.setCfg x).alt = s.alt := rfl
@[simp] theorem State.setCfg_stg (s : State) (x : Option ConfigRecord) : (s.setCfg x).stg = s.stg := rfl
@[simp] theorem State.setCfg_snap (s : State) (x : Option ConfigRecord) : (s.setCfg x).snap = s.snap := rfl
@[simp] theorem State.setCfg_rsv (s : State) (x : Option ConfigRecord) : (s.setCfg x).rsv = s.rsv := rfl
@[simp] theorem State.setCfg_prk (s : State) (x : Option ConfigRecord) : (s.setCfg x).prk = s.prk := rfl
@[simp] theorem State.setCfg_log (s : State) (x : Option ConfigRecord) : (s.setCfg x).log = s.log := rfl
@[simp] theorem State.setCfg_prt (s : State) (x : Option ConfigRecord) : (s.setCfg x).prt = s.prt := rfl
@[simp] theorem State.setCfg_cfg (s : State) (x : Option ConfigRecord) : (s.setCfg x).cfg = x := rfl
@[simp] theorem State.setCfg_pending (s : State) (x : Option ConfigRecord) : (s.setCfg x).pending = s.pending := rfl
@[simp] theorem State.setCfg_choices (s : State) (x : Option ConfigRecord) : (s.setCfg x).choices = s.choices := rfl
@[simp] theorem State.setPending_clk (s : State) (x : List Instr) : (s.setPending x).clk = s.clk := rfl
@[simp] theorem State.setPending_lnk (s : State) (x : List Instr) : (s.setPending x).lnk = s.lnk := rfl
@[simp] theorem State.setPending_ptb (s : State) (x : List Instr) : (s.setPending x).ptb = s.ptb := rfl
@[simp] theorem State.setPending_ses (s : State) (x : List Instr) : (s.setPending x).ses = s.ses := rfl
@[simp] theorem State.setPending_lastClaim (s : State) (x : List Instr) : (s.setPending x).lastClaim = s.lastClaim := rfl
@[simp] theorem State.setPending_alt (s : State) (x : List Instr) : (s.setPending x).alt = s.alt := rfl
@[simp] theorem State.setPending_stg (s : State) (x : List Instr) : (s.setPending x).stg = s.stg := rfl
@[simp] theorem State.setPending_snap (s : State) (x : List Instr) : (s.setPending x).snap = s.snap := rfl
@[simp] theorem State.setPending_rsv (s : State) (x : List Instr) : (s.setPending x).rsv = s.rsv := rfl
@[simp] theorem State.setPending_prk (s : State) (x : List Instr) : (s.setPending x).prk = s.prk := rfl
@[simp] theorem State.setPending_log (s : State) (x : List Instr) : (s.setPending x).log = s.log := rfl
@[simp] theorem State.setPending_prt (s : State) (x : List Instr) : (s.setPending x).prt = s.prt := rfl
@[simp] theorem State.setPending_cfg (s : State) (x : List Instr) : (s.setPending x).cfg = s.cfg := rfl
@[simp] theorem State.setPending_pending (s : State) (x : List Instr) : (s.setPending x).pending = x := rfl
@[simp] theorem State.setPending_choices (s : State) (x : List Instr) : (s.setPending x).choices = s.choices := rfl
@[simp] theorem State.setChoices_clk (s : State) (x : Nat) : (s.setChoices x).clk = s.clk := rfl
@[simp] theorem State.setChoices_lnk (s : State) (x : Nat) : (s.setChoices x).lnk = s.lnk := rfl
@[simp] theorem State.setChoices_ptb (s : State) (x : Nat) : (s.setChoices x).ptb = s.ptb := rfl
@[simp] theorem State.setChoices_ses (s : State) (x : Nat) : (s.setChoices x).ses = s.ses := rfl
@[simp] theorem State.setChoices_lastClaim (s : State) (x : Nat) : (s.setChoices x).lastClaim = s.lastClaim := rfl
@[simp] theorem State.setChoices_alt (s : State) (x : Nat) : (s.setChoices x).alt = s.alt := rfl
@[simp] theorem State.setChoices_stg (s : State) (x : Nat) : (s.setChoices x).stg = s.stg := rfl
@[simp] theorem State.setChoices_snap (s : State) (x : Nat) : (s.setChoices x).snap = s.snap := rfl
@[simp] theorem State.setChoices_rsv (s : State) (x : Nat) : (s.setChoices x).rsv = s.rsv := rfl
@[simp] theorem State.setChoices_prk (s : State) (x : Nat) : (s.setChoices x).prk = s.prk := rfl
@[simp] theorem State.setChoices_log (s : State) (x : Nat) : (s.setChoices x).log = s.log := rfl
@[simp] theorem State.setChoices_prt (s : State) (x : Nat) : (s.setChoices x).prt = s.prt := rfl
@[simp] theorem State.setChoices_cfg (s : State) (x : Nat) : (s.setChoices x).cfg = s.cfg := rfl
@[simp] theorem State.setChoices_pending (s : State) (x : Nat) : (s.setChoices x).pending = s.pending := rfl
@[simp] theorem State.setChoices_choices (s : State) (x : Nat) : (s.setChoices x).choices = x := rfl

/-- Two states are equal where each block is. -/
@[ext] theorem State.ext_fields {s t : State} (clk : s.clk = t.clk) (lnk : s.lnk = t.lnk) (ptb : s.ptb = t.ptb)
    (ses : s.ses = t.ses) (lastClaim : s.lastClaim = t.lastClaim) (alt : s.alt = t.alt) (stg : s.stg = t.stg)
    (snap : s.snap = t.snap) (rsv : s.rsv = t.rsv) (prk : s.prk = t.prk) (log : s.log = t.log) (prt : s.prt = t.prt)
    (cfg : s.cfg = t.cfg) (pending : s.pending = t.pending) (choices : s.choices = t.choices) :
    s = t := by
  cases s
  cases t
  simp_all

end Sys2Proof.Machine
end

