-- ==== Sys2Proof/Laws/Frames.lean ====
section
/-!
SUPPORT. The frames of the shared operations: for each, one lemma that names every block it leaves as it was. Together with
the update lemmas of Laws/State.lean, `simp` carries an untouched block through any meaning.
-/

namespace Sys2Proof.Machine

@[simp] theorem State.raise_frame (s : State) (n : Notice) :
    (s.raise n).clk = s.clk ∧ (s.raise n).lnk = s.lnk ∧ (s.raise n).ptb = s.ptb ∧ (s.raise n).ses = s.ses ∧
      (s.raise n).lastClaim = s.lastClaim ∧ (s.raise n).alt = s.alt ∧ (s.raise n).stg = s.stg ∧
      (s.raise n).snap = s.snap ∧ (s.raise n).rsv = s.rsv ∧ (s.raise n).prk = s.prk ∧ (s.raise n).log = s.log ∧
      (s.raise n).cfg = s.cfg ∧ (s.raise n).pending = s.pending ∧ (s.raise n).choices = s.choices := by
  simp [State.raise]

@[simp] theorem State.store_frame (s : State) (r : LogRecord) :
    (s.store r).clk = s.clk ∧ (s.store r).lnk = s.lnk ∧ (s.store r).ptb = s.ptb ∧ (s.store r).ses = s.ses ∧
      (s.store r).lastClaim = s.lastClaim ∧ (s.store r).alt = s.alt ∧ (s.store r).stg = s.stg ∧
      (s.store r).snap = s.snap ∧ (s.store r).rsv = s.rsv ∧ (s.store r).prk = s.prk ∧ (s.store r).cfg = s.cfg ∧
      (s.store r).pending = s.pending ∧ (s.store r).choices = s.choices := by
  simp only [State.store]
  (repeat' split) <;> simp

@[simp] theorem State.capture_frame (s : State) (c : Cause) (d : BitVec 32) (b : Option Nat) :
    (s.capture c d b).clk = s.clk ∧ (s.capture c d b).lnk = s.lnk ∧ (s.capture c d b).ptb = s.ptb ∧
      (s.capture c d b).ses = s.ses ∧ (s.capture c d b).lastClaim = s.lastClaim ∧ (s.capture c d b).alt = s.alt ∧
      (s.capture c d b).stg = s.stg ∧ (s.capture c d b).snap = s.snap ∧ (s.capture c d b).rsv = s.rsv ∧
      (s.capture c d b).prk = s.prk ∧ (s.capture c d b).cfg = s.cfg ∧ (s.capture c d b).pending = s.pending ∧
      (s.capture c d b).choices = s.choices := by
  simp only [State.capture]
  (repeat' split) <;> simp

@[simp] theorem State.captureNat_frame (s : State) (c : Cause) (d : Nat) :
    (s.captureNat c d).clk = s.clk ∧ (s.captureNat c d).lnk = s.lnk ∧ (s.captureNat c d).ptb = s.ptb ∧
      (s.captureNat c d).ses = s.ses ∧ (s.captureNat c d).lastClaim = s.lastClaim ∧ (s.captureNat c d).alt = s.alt ∧
      (s.captureNat c d).stg = s.stg ∧ (s.captureNat c d).snap = s.snap ∧ (s.captureNat c d).rsv = s.rsv ∧
      (s.captureNat c d).prk = s.prk ∧ (s.captureNat c d).cfg = s.cfg ∧ (s.captureNat c d).pending = s.pending ∧
      (s.captureNat c d).choices = s.choices := by
  simp [State.captureNat]

@[simp] theorem State.clearNotices_frame (s : State) (x : BitVec 20) :
    (s.clearNotices x).clk = s.clk ∧ (s.clearNotices x).lnk = s.lnk ∧ (s.clearNotices x).ptb = s.ptb ∧
      (s.clearNotices x).ses = s.ses ∧ (s.clearNotices x).lastClaim = s.lastClaim ∧ (s.clearNotices x).alt = s.alt ∧
      (s.clearNotices x).stg = s.stg ∧ (s.clearNotices x).snap = s.snap ∧ (s.clearNotices x).rsv = s.rsv ∧
      (s.clearNotices x).prk = s.prk ∧ (s.clearNotices x).log = s.log ∧ (s.clearNotices x).cfg = s.cfg ∧
      (s.clearNotices x).pending = s.pending ∧ (s.clearNotices x).choices = s.choices := by
  simp [State.clearNotices]

@[simp] theorem State.closeFilling_frame (s : State) :
    (s.closeFilling).clk = s.clk ∧ (s.closeFilling).lnk = s.lnk ∧ (s.closeFilling).ptb = s.ptb ∧
      (s.closeFilling).ses = s.ses ∧ (s.closeFilling).lastClaim = s.lastClaim ∧ (s.closeFilling).alt = s.alt ∧
      (s.closeFilling).stg = s.stg ∧ (s.closeFilling).snap = s.snap ∧ (s.closeFilling).rsv = s.rsv ∧
      (s.closeFilling).prk = s.prk ∧ (s.closeFilling).cfg = s.cfg ∧ (s.closeFilling).pending = s.pending ∧
      (s.closeFilling).choices = s.choices := by
  simp only [State.closeFilling]
  (repeat' split) <;> simp

@[simp] theorem State.releaseFull_frame (s : State) (b : Nat) :
    (s.releaseFull b).clk = s.clk ∧ (s.releaseFull b).lnk = s.lnk ∧ (s.releaseFull b).ptb = s.ptb ∧
      (s.releaseFull b).ses = s.ses ∧ (s.releaseFull b).lastClaim = s.lastClaim ∧ (s.releaseFull b).alt = s.alt ∧
      (s.releaseFull b).stg = s.stg ∧ (s.releaseFull b).snap = s.snap ∧ (s.releaseFull b).rsv = s.rsv ∧
      (s.releaseFull b).prk = s.prk ∧ (s.releaseFull b).prt = s.prt ∧ (s.releaseFull b).cfg = s.cfg ∧
      (s.releaseFull b).pending = s.pending ∧ (s.releaseFull b).choices = s.choices := by
  simp only [State.releaseFull]
  (repeat' split) <;> simp

@[simp] theorem State.follow_frame (s : State) :
    (s.follow).clk = s.clk ∧ (s.follow).lnk = s.lnk ∧ (s.follow).ptb = s.ptb ∧ (s.follow).ses = s.ses ∧
      (s.follow).lastClaim = s.lastClaim ∧ (s.follow).alt = s.alt ∧ (s.follow).snap = s.snap ∧
      (s.follow).rsv = s.rsv ∧ (s.follow).prk = s.prk ∧ (s.follow).log = s.log ∧ (s.follow).prt = s.prt ∧
      (s.follow).cfg = s.cfg ∧ (s.follow).pending = s.pending ∧ (s.follow).choices = s.choices := by
  simp [State.follow]

@[simp] theorem State.setGrant_frame (s : State) (g : Nat) :
    (s.setGrant g).clk = s.clk ∧ (s.setGrant g).lnk = s.lnk ∧ (s.setGrant g).ptb = s.ptb ∧
      (s.setGrant g).ses = s.ses ∧ (s.setGrant g).lastClaim = s.lastClaim ∧ (s.setGrant g).snap = s.snap ∧
      (s.setGrant g).prk = s.prk ∧ (s.setGrant g).log = s.log ∧ (s.setGrant g).prt = s.prt ∧
      (s.setGrant g).cfg = s.cfg ∧ (s.setGrant g).pending = s.pending ∧ (s.setGrant g).choices = s.choices := by
  simp only [State.setGrant]
  (repeat' split) <;> simp

@[simp] theorem State.capIsolated_frame (s : State) :
    (s.capIsolated).clk = s.clk ∧ (s.capIsolated).lnk = s.lnk ∧ (s.capIsolated).ptb = s.ptb ∧
      (s.capIsolated).ses = s.ses ∧ (s.capIsolated).lastClaim = s.lastClaim ∧ (s.capIsolated).snap = s.snap ∧
      (s.capIsolated).prk = s.prk ∧ (s.capIsolated).log = s.log ∧ (s.capIsolated).prt = s.prt ∧
      (s.capIsolated).cfg = s.cfg ∧ (s.capIsolated).pending = s.pending ∧ (s.capIsolated).choices = s.choices := by
  simp only [State.capIsolated]
  (repeat' split) <;> simp

@[simp] theorem State.modSes_frame (s : State) (f : Session → Session) :
    (s.modSes f).clk = s.clk ∧ (s.modSes f).lnk = s.lnk ∧ (s.modSes f).ptb = s.ptb ∧
      (s.modSes f).lastClaim = s.lastClaim ∧ (s.modSes f).alt = s.alt ∧ (s.modSes f).stg = s.stg ∧
      (s.modSes f).snap = s.snap ∧ (s.modSes f).rsv = s.rsv ∧ (s.modSes f).prk = s.prk ∧ (s.modSes f).log = s.log ∧
      (s.modSes f).prt = s.prt ∧ (s.modSes f).cfg = s.cfg ∧ (s.modSes f).pending = s.pending ∧
      (s.modSes f).choices = s.choices := by
  simp [State.modSes]

@[simp] theorem State.bumpChoices_frame (s : State) :
    (s.bumpChoices).clk = s.clk ∧ (s.bumpChoices).lnk = s.lnk ∧ (s.bumpChoices).ptb = s.ptb ∧
      (s.bumpChoices).ses = s.ses ∧ (s.bumpChoices).lastClaim = s.lastClaim ∧ (s.bumpChoices).alt = s.alt ∧
      (s.bumpChoices).stg = s.stg ∧ (s.bumpChoices).snap = s.snap ∧ (s.bumpChoices).rsv = s.rsv ∧
      (s.bumpChoices).prk = s.prk ∧ (s.bumpChoices).log = s.log ∧ (s.bumpChoices).prt = s.prt ∧
      (s.bumpChoices).cfg = s.cfg ∧ (s.bumpChoices).pending = s.pending := by
  simp [State.bumpChoices]

@[simp] theorem State.rechoose_frame (s : State) :
    (s.rechoose).clk = s.clk ∧ (s.rechoose).ptb = s.ptb ∧ (s.rechoose).ses = s.ses ∧
      (s.rechoose).lastClaim = s.lastClaim ∧ (s.rechoose).alt = s.alt ∧ (s.rechoose).stg = s.stg ∧
      (s.rechoose).snap = s.snap ∧ (s.rechoose).rsv = s.rsv ∧ (s.rechoose).prk = s.prk ∧ (s.rechoose).log = s.log ∧
      (s.rechoose).prt = s.prt ∧ (s.rechoose).cfg = s.cfg ∧ (s.rechoose).pending = s.pending ∧
      (s.rechoose).choices = s.choices := by
  simp only [State.rechoose]
  (repeat' split) <;> simp

@[simp] theorem State.queueChanged_frame (s : State) (k : FrameKey) :
    (s.queueChanged k).clk = s.clk ∧ (s.queueChanged k).ptb = s.ptb ∧ (s.queueChanged k).ses = s.ses ∧
      (s.queueChanged k).lastClaim = s.lastClaim ∧ (s.queueChanged k).alt = s.alt ∧ (s.queueChanged k).stg = s.stg ∧
      (s.queueChanged k).snap = s.snap ∧ (s.queueChanged k).rsv = s.rsv ∧ (s.queueChanged k).prk = s.prk ∧
      (s.queueChanged k).log = s.log ∧ (s.queueChanged k).prt = s.prt ∧ (s.queueChanged k).cfg = s.cfg ∧
      (s.queueChanged k).pending = s.pending ∧ (s.queueChanged k).choices = s.choices := by
  simp only [State.queueChanged]
  (repeat' split) <;> simp

@[simp] theorem State.enqueue_frame (s : State) (f : Frame) :
    (s.enqueue f).clk = s.clk ∧ (s.enqueue f).ptb = s.ptb ∧ (s.enqueue f).ses = s.ses ∧
      (s.enqueue f).lastClaim = s.lastClaim ∧ (s.enqueue f).alt = s.alt ∧ (s.enqueue f).stg = s.stg ∧
      (s.enqueue f).snap = s.snap ∧ (s.enqueue f).rsv = s.rsv ∧ (s.enqueue f).prk = s.prk ∧
      (s.enqueue f).log = s.log ∧ (s.enqueue f).prt = s.prt ∧ (s.enqueue f).cfg = s.cfg ∧
      (s.enqueue f).pending = s.pending ∧ (s.enqueue f).choices = s.choices := by
  simp only [State.enqueue]
  (repeat' split) <;> simp

@[simp] theorem State.dequeue_frame (s : State) (k : FrameKey) :
    (s.dequeue k).clk = s.clk ∧ (s.dequeue k).ptb = s.ptb ∧ (s.dequeue k).ses = s.ses ∧
      (s.dequeue k).lastClaim = s.lastClaim ∧ (s.dequeue k).alt = s.alt ∧ (s.dequeue k).stg = s.stg ∧
      (s.dequeue k).snap = s.snap ∧ (s.dequeue k).rsv = s.rsv ∧ (s.dequeue k).prk = s.prk ∧
      (s.dequeue k).log = s.log ∧ (s.dequeue k).prt = s.prt ∧ (s.dequeue k).cfg = s.cfg ∧
      (s.dequeue k).pending = s.pending ∧ (s.dequeue k).choices = s.choices := by
  simp only [State.dequeue]
  (repeat' split) <;> simp

@[simp] theorem State.expireTaken_frame (s : State) :
    (s.expireTaken).clk = s.clk ∧ (s.expireTaken).ptb = s.ptb ∧ (s.expireTaken).ses = s.ses ∧
      (s.expireTaken).lastClaim = s.lastClaim ∧ (s.expireTaken).alt = s.alt ∧ (s.expireTaken).stg = s.stg ∧
      (s.expireTaken).snap = s.snap ∧ (s.expireTaken).rsv = s.rsv ∧ (s.expireTaken).prk = s.prk ∧
      (s.expireTaken).log = s.log ∧ (s.expireTaken).prt = s.prt ∧ (s.expireTaken).cfg = s.cfg ∧
      (s.expireTaken).pending = s.pending ∧ (s.expireTaken).choices = s.choices := by
  simp only [State.expireTaken]
  (repeat' split) <;> simp

@[simp] theorem State.enterIsolated_frame (s : State) :
    (s.enterIsolated).clk = s.clk ∧ (s.enterIsolated).ptb = s.ptb ∧ (s.enterIsolated).ses = s.ses ∧
      (s.enterIsolated).lastClaim = s.lastClaim ∧ (s.enterIsolated).snap = s.snap ∧ (s.enterIsolated).prk = s.prk ∧
      (s.enterIsolated).cfg = s.cfg ∧ (s.enterIsolated).pending = s.pending ∧ (s.enterIsolated).choices = s.choices := by
  simp [State.enterIsolated]

@[simp] theorem State.missEpoch_frame (s : State) :
    (s.missEpoch).clk = s.clk ∧ (s.missEpoch).ptb = s.ptb ∧ (s.missEpoch).ses = s.ses ∧
      (s.missEpoch).lastClaim = s.lastClaim ∧ (s.missEpoch).snap = s.snap ∧ (s.missEpoch).prk = s.prk ∧
      (s.missEpoch).cfg = s.cfg ∧ (s.missEpoch).pending = s.pending ∧ (s.missEpoch).choices = s.choices := by
  simp only [State.missEpoch]
  (repeat' split) <;> simp

@[simp] theorem State.listeningBoundary_frame (s : State) :
    (s.listeningBoundary).clk = s.clk ∧ (s.listeningBoundary).ptb = s.ptb ∧ (s.listeningBoundary).ses = s.ses ∧
      (s.listeningBoundary).lastClaim = s.lastClaim ∧ (s.listeningBoundary).snap = s.snap ∧
      (s.listeningBoundary).prk = s.prk ∧ (s.listeningBoundary).cfg = s.cfg ∧
      (s.listeningBoundary).pending = s.pending ∧ (s.listeningBoundary).choices = s.choices := by
  simp only [State.listeningBoundary]
  (repeat' split) <;> simp

@[simp] theorem State.claimBoundary_frame (s : State) :
    (s.claimBoundary).clk = s.clk ∧ (s.claimBoundary).ptb = s.ptb ∧ (s.claimBoundary).ses = s.ses ∧
      (s.claimBoundary).lastClaim = s.lastClaim ∧ (s.claimBoundary).snap = s.snap ∧ (s.claimBoundary).prk = s.prk ∧
      (s.claimBoundary).cfg = s.cfg ∧ (s.claimBoundary).pending = s.pending ∧ (s.claimBoundary).choices = s.choices := by
  simp only [State.claimBoundary]
  (repeat' split) <;> simp

@[simp] theorem State.lnkBoundary_frame (s : State) :
    (s.lnkBoundary).clk = s.clk ∧ (s.lnkBoundary).ptb = s.ptb ∧ (s.lnkBoundary).ses = s.ses ∧
      (s.lnkBoundary).lastClaim = s.lastClaim ∧ (s.lnkBoundary).snap = s.snap ∧ (s.lnkBoundary).prk = s.prk ∧
      (s.lnkBoundary).cfg = s.cfg ∧ (s.lnkBoundary).pending = s.pending ∧ (s.lnkBoundary).choices = s.choices := by
  simp only [State.lnkBoundary]
  (repeat' split) <;> simp

@[simp] theorem State.beginDriving_frame (s : State) :
    (s.beginDriving).clk = s.clk ∧ (s.beginDriving).ptb = s.ptb ∧ (s.beginDriving).ses = s.ses ∧
      (s.beginDriving).lastClaim = s.lastClaim ∧ (s.beginDriving).alt = s.alt ∧ (s.beginDriving).stg = s.stg ∧
      (s.beginDriving).snap = s.snap ∧ (s.beginDriving).rsv = s.rsv ∧ (s.beginDriving).prk = s.prk ∧
      (s.beginDriving).log = s.log ∧ (s.beginDriving).prt = s.prt ∧ (s.beginDriving).cfg = s.cfg ∧
      (s.beginDriving).pending = s.pending ∧ (s.beginDriving).choices = s.choices := by
  simp only [State.beginDriving]
  (repeat' split) <;> simp

@[simp] theorem State.stopDriving_frame (s : State) (q : List QEntry) :
    (s.stopDriving q).clk = s.clk ∧ (s.stopDriving q).ptb = s.ptb ∧ (s.stopDriving q).ses = s.ses ∧
      (s.stopDriving q).lastClaim = s.lastClaim ∧ (s.stopDriving q).alt = s.alt ∧ (s.stopDriving q).stg = s.stg ∧
      (s.stopDriving q).snap = s.snap ∧ (s.stopDriving q).rsv = s.rsv ∧ (s.stopDriving q).prk = s.prk ∧
      (s.stopDriving q).log = s.log ∧ (s.stopDriving q).prt = s.prt ∧ (s.stopDriving q).cfg = s.cfg ∧
      (s.stopDriving q).pending = s.pending ∧ (s.stopDriving q).choices = s.choices := by
  simp [State.stopDriving]

@[simp] theorem State.claimSent_frame (s : State) :
    (s.claimSent).clk = s.clk ∧ (s.claimSent).ptb = s.ptb ∧ (s.claimSent).ses = s.ses ∧
      (s.claimSent).lastClaim = s.lastClaim ∧ (s.claimSent).alt = s.alt ∧ (s.claimSent).stg = s.stg ∧
      (s.claimSent).snap = s.snap ∧ (s.claimSent).rsv = s.rsv ∧ (s.claimSent).prk = s.prk ∧
      (s.claimSent).log = s.log ∧ (s.claimSent).prt = s.prt ∧ (s.claimSent).cfg = s.cfg ∧
      (s.claimSent).pending = s.pending ∧ (s.claimSent).choices = s.choices := by
  simp [State.claimSent]

@[simp] theorem State.sentWhole_frame (s : State) :
    (s.sentWhole).clk = s.clk ∧ (s.sentWhole).ptb = s.ptb ∧ (s.sentWhole).ses = s.ses ∧
      (s.sentWhole).lastClaim = s.lastClaim ∧ (s.sentWhole).alt = s.alt ∧ (s.sentWhole).stg = s.stg ∧
      (s.sentWhole).snap = s.snap ∧ (s.sentWhole).rsv = s.rsv ∧ (s.sentWhole).prk = s.prk ∧
      (s.sentWhole).log = s.log ∧ (s.sentWhole).prt = s.prt ∧ (s.sentWhole).cfg = s.cfg ∧
      (s.sentWhole).pending = s.pending ∧ (s.sentWhole).choices = s.choices := by
  simp only [State.sentWhole]
  (repeat' split) <;> simp

@[simp] theorem State.collided_frame (s : State) :
    (s.collided).clk = s.clk ∧ (s.collided).ptb = s.ptb ∧ (s.collided).ses = s.ses ∧
      (s.collided).lastClaim = s.lastClaim ∧ (s.collided).snap = s.snap ∧ (s.collided).prk = s.prk ∧
      (s.collided).cfg = s.cfg ∧ (s.collided).pending = s.pending ∧ (s.collided).choices = s.choices := by
  simp only [State.collided]
  (repeat' split) <;> simp

@[simp] theorem State.lineFallsIdle_frame (s : State) :
    (s.lineFallsIdle).clk = s.clk ∧ (s.lineFallsIdle).ptb = s.ptb ∧ (s.lineFallsIdle).ses = s.ses ∧
      (s.lineFallsIdle).lastClaim = s.lastClaim ∧ (s.lineFallsIdle).alt = s.alt ∧ (s.lineFallsIdle).stg = s.stg ∧
      (s.lineFallsIdle).snap = s.snap ∧ (s.lineFallsIdle).rsv = s.rsv ∧ (s.lineFallsIdle).prk = s.prk ∧
      (s.lineFallsIdle).log = s.log ∧ (s.lineFallsIdle).prt = s.prt ∧ (s.lineFallsIdle).cfg = s.cfg ∧
      (s.lineFallsIdle).pending = s.pending ∧ (s.lineFallsIdle).choices = s.choices := by
  simp only [State.lineFallsIdle]
  (repeat' split) <;> simp

@[simp] theorem State.lineGetsBusy_frame (s : State) :
    (s.lineGetsBusy).clk = s.clk ∧ (s.lineGetsBusy).ptb = s.ptb ∧ (s.lineGetsBusy).ses = s.ses ∧
      (s.lineGetsBusy).lastClaim = s.lastClaim ∧ (s.lineGetsBusy).alt = s.alt ∧ (s.lineGetsBusy).stg = s.stg ∧
      (s.lineGetsBusy).snap = s.snap ∧ (s.lineGetsBusy).rsv = s.rsv ∧ (s.lineGetsBusy).prk = s.prk ∧
      (s.lineGetsBusy).log = s.log ∧ (s.lineGetsBusy).prt = s.prt ∧ (s.lineGetsBusy).cfg = s.cfg ∧
      (s.lineGetsBusy).pending = s.pending ∧ (s.lineGetsBusy).choices = s.choices := by
  simp only [State.lineGetsBusy]
  (repeat' split) <;> simp

@[simp] theorem State.dropFrame_frame (s : State) :
    (s.dropFrame).clk = s.clk ∧ (s.dropFrame).lnk = s.lnk ∧ (s.dropFrame).ptb = s.ptb ∧ (s.dropFrame).ses = s.ses ∧
      (s.dropFrame).lastClaim = s.lastClaim ∧ (s.dropFrame).alt = s.alt ∧ (s.dropFrame).stg = s.stg ∧
      (s.dropFrame).snap = s.snap ∧ (s.dropFrame).rsv = s.rsv ∧ (s.dropFrame).prk = s.prk ∧
      (s.dropFrame).cfg = s.cfg ∧ (s.dropFrame).pending = s.pending ∧ (s.dropFrame).choices = s.choices := by
  simp [State.dropFrame]

@[simp] theorem State.hearOwnBay_frame (s : State) :
    (s.hearOwnBay).clk = s.clk ∧ (s.hearOwnBay).ptb = s.ptb ∧ (s.hearOwnBay).ses = s.ses ∧
      (s.hearOwnBay).lastClaim = s.lastClaim ∧ (s.hearOwnBay).snap = s.snap ∧ (s.hearOwnBay).prk = s.prk ∧
      (s.hearOwnBay).cfg = s.cfg ∧ (s.hearOwnBay).pending = s.pending ∧ (s.hearOwnBay).choices = s.choices := by
  simp only [State.hearOwnBay]
  (repeat' split) <;> simp

@[simp] theorem State.evalLimits_frame (s : State) :
    (s.evalLimits).clk = s.clk ∧ (s.evalLimits).lnk = s.lnk ∧ (s.evalLimits).ses = s.ses ∧
      (s.evalLimits).lastClaim = s.lastClaim ∧ (s.evalLimits).alt = s.alt ∧ (s.evalLimits).stg = s.stg ∧
      (s.evalLimits).snap = s.snap ∧ (s.evalLimits).rsv = s.rsv ∧ (s.evalLimits).prk = s.prk ∧
      (s.evalLimits).log = s.log ∧ (s.evalLimits).cfg = s.cfg ∧ (s.evalLimits).pending = s.pending ∧
      (s.evalLimits).choices = s.choices := by
  simp only [State.evalLimits]
  (repeat' split) <;> simp

@[simp] theorem State.evalDupBus_frame (s : State) :
    (s.evalDupBus).clk = s.clk ∧ (s.evalDupBus).lnk = s.lnk ∧ (s.evalDupBus).ses = s.ses ∧
      (s.evalDupBus).lastClaim = s.lastClaim ∧ (s.evalDupBus).alt = s.alt ∧ (s.evalDupBus).stg = s.stg ∧
      (s.evalDupBus).snap = s.snap ∧ (s.evalDupBus).rsv = s.rsv ∧ (s.evalDupBus).prk = s.prk ∧
      (s.evalDupBus).cfg = s.cfg ∧ (s.evalDupBus).pending = s.pending ∧ (s.evalDupBus).choices = s.choices := by
  simp only [State.evalDupBus]
  (repeat' split) <;> simp

@[simp] theorem State.reevaluate_frame (s : State) :
    (s.reevaluate).clk = s.clk ∧ (s.reevaluate).lnk = s.lnk ∧ (s.reevaluate).ses = s.ses ∧
      (s.reevaluate).lastClaim = s.lastClaim ∧ (s.reevaluate).snap = s.snap ∧ (s.reevaluate).prk = s.prk ∧
      (s.reevaluate).cfg = s.cfg ∧ (s.reevaluate).pending = s.pending ∧ (s.reevaluate).choices = s.choices := by
  simp [State.reevaluate]

@[simp] theorem State.takeClaim_frame (s : State) (own b e : Nat) (c : Claim) :
    (s.takeClaim own b e c).clk = s.clk ∧ (s.takeClaim own b e c).lnk = s.lnk ∧ (s.takeClaim own b e c).ses = s.ses ∧
      (s.takeClaim own b e c).lastClaim = s.lastClaim ∧ (s.takeClaim own b e c).snap = s.snap ∧
      (s.takeClaim own b e c).prk = s.prk ∧ (s.takeClaim own b e c).cfg = s.cfg ∧
      (s.takeClaim own b e c).pending = s.pending ∧ (s.takeClaim own b e c).choices = s.choices := by
  simp [State.takeClaim]

@[simp] theorem State.ptbBoundary_frame (s : State) :
    (s.ptbBoundary).clk = s.clk ∧ (s.ptbBoundary).lnk = s.lnk ∧ (s.ptbBoundary).ses = s.ses ∧
      (s.ptbBoundary).lastClaim = s.lastClaim ∧ (s.ptbBoundary).snap = s.snap ∧ (s.ptbBoundary).prk = s.prk ∧
      (s.ptbBoundary).cfg = s.cfg ∧ (s.ptbBoundary).pending = s.pending ∧ (s.ptbBoundary).choices = s.choices := by
  simp [State.ptbBoundary]

@[simp] theorem State.ptbRollover_frame (s : State) :
    (s.ptbRollover).clk = s.clk ∧ (s.ptbRollover).lnk = s.lnk ∧ (s.ptbRollover).ses = s.ses ∧
      (s.ptbRollover).lastClaim = s.lastClaim ∧ (s.ptbRollover).alt = s.alt ∧ (s.ptbRollover).stg = s.stg ∧
      (s.ptbRollover).snap = s.snap ∧ (s.ptbRollover).rsv = s.rsv ∧ (s.ptbRollover).prk = s.prk ∧
      (s.ptbRollover).log = s.log ∧ (s.ptbRollover).prt = s.prt ∧ (s.ptbRollover).cfg = s.cfg ∧
      (s.ptbRollover).pending = s.pending ∧ (s.ptbRollover).choices = s.choices := by
  simp [State.ptbRollover]

@[simp] theorem State.altStart_frame (s : State) (c : Claim) :
    (s.altStart c).clk = s.clk ∧ (s.altStart c).lnk = s.lnk ∧ (s.altStart c).ptb = s.ptb ∧
      (s.altStart c).ses = s.ses ∧ (s.altStart c).lastClaim = s.lastClaim ∧ (s.altStart c).stg = s.stg ∧
      (s.altStart c).snap = s.snap ∧ (s.altStart c).rsv = s.rsv ∧ (s.altStart c).prk = s.prk ∧
      (s.altStart c).log = s.log ∧ (s.altStart c).prt = s.prt ∧ (s.altStart c).cfg = s.cfg ∧
      (s.altStart c).pending = s.pending ∧ (s.altStart c).choices = s.choices := by
  simp [State.altStart]

@[simp] theorem State.altDiscard_frame (s : State) :
    (s.altDiscard).clk = s.clk ∧ (s.altDiscard).lnk = s.lnk ∧ (s.altDiscard).ptb = s.ptb ∧
      (s.altDiscard).ses = s.ses ∧ (s.altDiscard).lastClaim = s.lastClaim ∧ (s.altDiscard).stg = s.stg ∧
      (s.altDiscard).snap = s.snap ∧ (s.altDiscard).rsv = s.rsv ∧ (s.altDiscard).prk = s.prk ∧
      (s.altDiscard).log = s.log ∧ (s.altDiscard).prt = s.prt ∧ (s.altDiscard).cfg = s.cfg ∧
      (s.altDiscard).pending = s.pending ∧ (s.altDiscard).choices = s.choices := by
  simp [State.altDiscard]

@[simp] theorem State.altAbandon_frame (s : State) :
    (s.altAbandon).clk = s.clk ∧ (s.altAbandon).lnk = s.lnk ∧ (s.altAbandon).ptb = s.ptb ∧
      (s.altAbandon).ses = s.ses ∧ (s.altAbandon).lastClaim = s.lastClaim ∧ (s.altAbandon).stg = s.stg ∧
      (s.altAbandon).snap = s.snap ∧ (s.altAbandon).rsv = s.rsv ∧ (s.altAbandon).prk = s.prk ∧
      (s.altAbandon).log = s.log ∧ (s.altAbandon).prt = s.prt ∧ (s.altAbandon).cfg = s.cfg ∧
      (s.altAbandon).pending = s.pending ∧ (s.altAbandon).choices = s.choices := by
  simp [State.altAbandon]

@[simp] theorem State.altComplete_frame (s : State) :
    (s.altComplete).clk = s.clk ∧ (s.altComplete).lnk = s.lnk ∧ (s.altComplete).ptb = s.ptb ∧
      (s.altComplete).ses = s.ses ∧ (s.altComplete).lastClaim = s.lastClaim ∧ (s.altComplete).snap = s.snap ∧
      (s.altComplete).prk = s.prk ∧ (s.altComplete).log = s.log ∧ (s.altComplete).prt = s.prt ∧
      (s.altComplete).cfg = s.cfg ∧ (s.altComplete).pending = s.pending ∧ (s.altComplete).choices = s.choices := by
  simp only [State.altComplete]
  (repeat' split) <;> simp

@[simp] theorem State.altTick_frame (s : State) :
    (s.altTick).clk = s.clk ∧ (s.altTick).lnk = s.lnk ∧ (s.altTick).ptb = s.ptb ∧ (s.altTick).ses = s.ses ∧
      (s.altTick).lastClaim = s.lastClaim ∧ (s.altTick).snap = s.snap ∧ (s.altTick).prk = s.prk ∧
      (s.altTick).log = s.log ∧ (s.altTick).prt = s.prt ∧ (s.altTick).cfg = s.cfg ∧ (s.altTick).pending = s.pending ∧
      (s.altTick).choices = s.choices := by
  simp only [State.altTick]
  (repeat' split) <;> simp

@[simp] theorem State.meter_frame (s : State) (p : Int) :
    (s.meter p).clk = s.clk ∧ (s.meter p).lnk = s.lnk ∧ (s.meter p).ptb = s.ptb ∧
      (s.meter p).lastClaim = s.lastClaim ∧ (s.meter p).alt = s.alt ∧ (s.meter p).stg = s.stg ∧
      (s.meter p).snap = s.snap ∧ (s.meter p).rsv = s.rsv ∧ (s.meter p).prk = s.prk ∧ (s.meter p).log = s.log ∧
      (s.meter p).prt = s.prt ∧ (s.meter p).cfg = s.cfg ∧ (s.meter p).pending = s.pending ∧
      (s.meter p).choices = s.choices := by
  simp [State.meter]

@[simp] theorem State.loseMeter_frame (s : State) :
    (s.loseMeter).clk = s.clk ∧ (s.loseMeter).lnk = s.lnk ∧ (s.loseMeter).ptb = s.ptb ∧ (s.loseMeter).ses = s.ses ∧
      (s.loseMeter).lastClaim = s.lastClaim ∧ (s.loseMeter).alt = s.alt ∧ (s.loseMeter).snap = s.snap ∧
      (s.loseMeter).rsv = s.rsv ∧ (s.loseMeter).prk = s.prk ∧ (s.loseMeter).cfg = s.cfg ∧
      (s.loseMeter).pending = s.pending ∧ (s.loseMeter).choices = s.choices := by
  simp [State.loseMeter]

@[simp] theorem State.closeExchange_frame (s : State) :
    (s.closeExchange).clk = s.clk ∧ (s.closeExchange).lnk = s.lnk ∧ (s.closeExchange).ptb = s.ptb ∧
      (s.closeExchange).ses = s.ses ∧ (s.closeExchange).lastClaim = s.lastClaim ∧ (s.closeExchange).alt = s.alt ∧
      (s.closeExchange).snap = s.snap ∧ (s.closeExchange).rsv = s.rsv ∧ (s.closeExchange).prk = s.prk ∧
      (s.closeExchange).cfg = s.cfg ∧ (s.closeExchange).pending = s.pending ∧ (s.closeExchange).choices = s.choices := by
  simp only [State.closeExchange]
  (repeat' split) <;> simp

@[simp] theorem State.openExchange_frame (s : State) :
    (s.openExchange).clk = s.clk ∧ (s.openExchange).lnk = s.lnk ∧ (s.openExchange).ptb = s.ptb ∧
      (s.openExchange).ses = s.ses ∧ (s.openExchange).lastClaim = s.lastClaim ∧ (s.openExchange).alt = s.alt ∧
      (s.openExchange).snap = s.snap ∧ (s.openExchange).rsv = s.rsv ∧ (s.openExchange).prk = s.prk ∧
      (s.openExchange).log = s.log ∧ (s.openExchange).prt = s.prt ∧ (s.openExchange).cfg = s.cfg ∧
      (s.openExchange).pending = s.pending ∧ (s.openExchange).choices = s.choices := by
  simp [State.openExchange]

@[simp] theorem State.stageTick_frame (s : State) :
    (s.stageTick).clk = s.clk ∧ (s.stageTick).lnk = s.lnk ∧ (s.stageTick).ptb = s.ptb ∧
      (s.stageTick).lastClaim = s.lastClaim ∧ (s.stageTick).alt = s.alt ∧ (s.stageTick).snap = s.snap ∧
      (s.stageTick).rsv = s.rsv ∧ (s.stageTick).prk = s.prk ∧ (s.stageTick).cfg = s.cfg ∧
      (s.stageTick).pending = s.pending ∧ (s.stageTick).choices = s.choices := by
  simp [State.stageTick]

@[simp] theorem State.takeStageFlags_frame (s : State) (m : Measure) :
    (s.takeStageFlags m).clk = s.clk ∧ (s.takeStageFlags m).lnk = s.lnk ∧ (s.takeStageFlags m).ptb = s.ptb ∧
      (s.takeStageFlags m).ses = s.ses ∧ (s.takeStageFlags m).lastClaim = s.lastClaim ∧
      (s.takeStageFlags m).alt = s.alt ∧ (s.takeStageFlags m).snap = s.snap ∧ (s.takeStageFlags m).rsv = s.rsv ∧
      (s.takeStageFlags m).prk = s.prk ∧ (s.takeStageFlags m).cfg = s.cfg ∧
      (s.takeStageFlags m).pending = s.pending ∧ (s.takeStageFlags m).choices = s.choices := by
  simp only [State.takeStageFlags]
  (repeat' split) <;> simp

@[simp] theorem State.takeMeasure_frame (s : State) (m : Measure) :
    (s.takeMeasure m).clk = s.clk ∧ (s.takeMeasure m).lnk = s.lnk ∧ (s.takeMeasure m).ptb = s.ptb ∧
      (s.takeMeasure m).ses = s.ses ∧ (s.takeMeasure m).lastClaim = s.lastClaim ∧ (s.takeMeasure m).alt = s.alt ∧
      (s.takeMeasure m).snap = s.snap ∧ (s.takeMeasure m).rsv = s.rsv ∧ (s.takeMeasure m).prk = s.prk ∧
      (s.takeMeasure m).cfg = s.cfg ∧ (s.takeMeasure m).pending = s.pending ∧ (s.takeMeasure m).choices = s.choices := by
  simp [State.takeMeasure]

@[simp] theorem State.judgeMeasure_frame (s : State) (m : Measure) :
    (s.judgeMeasure m).clk = s.clk ∧ (s.judgeMeasure m).lnk = s.lnk ∧ (s.judgeMeasure m).ptb = s.ptb ∧
      (s.judgeMeasure m).ses = s.ses ∧ (s.judgeMeasure m).lastClaim = s.lastClaim ∧ (s.judgeMeasure m).alt = s.alt ∧
      (s.judgeMeasure m).snap = s.snap ∧ (s.judgeMeasure m).rsv = s.rsv ∧ (s.judgeMeasure m).prk = s.prk ∧
      (s.judgeMeasure m).cfg = s.cfg ∧ (s.judgeMeasure m).pending = s.pending ∧ (s.judgeMeasure m).choices = s.choices := by
  simp only [State.judgeMeasure]
  (repeat' split) <;> simp

@[simp] theorem State.computeShares_frame (s : State) (t : Bool) :
    (s.computeShares t).clk = s.clk ∧ (s.computeShares t).lnk = s.lnk ∧ (s.computeShares t).ptb = s.ptb ∧
      (s.computeShares t).ses = s.ses ∧ (s.computeShares t).lastClaim = s.lastClaim ∧
      (s.computeShares t).alt = s.alt ∧ (s.computeShares t).snap = s.snap ∧ (s.computeShares t).prk = s.prk ∧
      (s.computeShares t).log = s.log ∧ (s.computeShares t).cfg = s.cfg ∧ (s.computeShares t).pending = s.pending ∧
      (s.computeShares t).choices = s.choices := by
  simp only [State.computeShares]
  (repeat' split) <;> simp

@[simp] theorem State.takeEvent_frame (s : State) (o q d r : Nat) :
    (s.takeEvent o q d r).clk = s.clk ∧ (s.takeEvent o q d r).lnk = s.lnk ∧ (s.takeEvent o q d r).ptb = s.ptb ∧
      (s.takeEvent o q d r).ses = s.ses ∧ (s.takeEvent o q d r).lastClaim = s.lastClaim ∧
      (s.takeEvent o q d r).snap = s.snap ∧ (s.takeEvent o q d r).prk = s.prk ∧ (s.takeEvent o q d r).cfg = s.cfg ∧
      (s.takeEvent o q d r).pending = s.pending ∧ (s.takeEvent o q d r).choices = s.choices := by
  simp [State.takeEvent]

@[simp] theorem State.changeDemand_frame (s : State) (o d : Nat) :
    (s.changeDemand o d).clk = s.clk ∧ (s.changeDemand o d).lnk = s.lnk ∧ (s.changeDemand o d).ptb = s.ptb ∧
      (s.changeDemand o d).ses = s.ses ∧ (s.changeDemand o d).lastClaim = s.lastClaim ∧
      (s.changeDemand o d).alt = s.alt ∧ (s.changeDemand o d).snap = s.snap ∧ (s.changeDemand o d).prk = s.prk ∧
      (s.changeDemand o d).cfg = s.cfg ∧ (s.changeDemand o d).pending = s.pending ∧
      (s.changeDemand o d).choices = s.choices := by
  simp [State.changeDemand]

@[simp] theorem State.holderUpdate_frame (s : State) (o q d r : Nat) :
    (s.holderUpdate o q d r).clk = s.clk ∧ (s.holderUpdate o q d r).lnk = s.lnk ∧
      (s.holderUpdate o q d r).ptb = s.ptb ∧ (s.holderUpdate o q d r).ses = s.ses ∧
      (s.holderUpdate o q d r).lastClaim = s.lastClaim ∧ (s.holderUpdate o q d r).alt = s.alt ∧
      (s.holderUpdate o q d r).snap = s.snap ∧ (s.holderUpdate o q d r).prk = s.prk ∧
      (s.holderUpdate o q d r).cfg = s.cfg ∧ (s.holderUpdate o q d r).pending = s.pending ∧
      (s.holderUpdate o q d r).choices = s.choices := by
  simp only [State.holderUpdate]
  (repeat' split) <;> simp

@[simp] theorem State.takeOver_frame (s : State) (o q d r : Nat) :
    (s.takeOver o q d r).clk = s.clk ∧ (s.takeOver o q d r).lnk = s.lnk ∧ (s.takeOver o q d r).ptb = s.ptb ∧
      (s.takeOver o q d r).ses = s.ses ∧ (s.takeOver o q d r).lastClaim = s.lastClaim ∧
      (s.takeOver o q d r).alt = s.alt ∧ (s.takeOver o q d r).snap = s.snap ∧ (s.takeOver o q d r).prk = s.prk ∧
      (s.takeOver o q d r).cfg = s.cfg ∧ (s.takeOver o q d r).pending = s.pending ∧
      (s.takeOver o q d r).choices = s.choices := by
  simp [State.takeOver]

@[simp] theorem State.endEvent_frame (s : State) :
    (s.endEvent).clk = s.clk ∧ (s.endEvent).lnk = s.lnk ∧ (s.endEvent).ptb = s.ptb ∧ (s.endEvent).ses = s.ses ∧
      (s.endEvent).lastClaim = s.lastClaim ∧ (s.endEvent).alt = s.alt ∧ (s.endEvent).snap = s.snap ∧
      (s.endEvent).prk = s.prk ∧ (s.endEvent).cfg = s.cfg ∧ (s.endEvent).pending = s.pending ∧
      (s.endEvent).choices = s.choices := by
  simp [State.endEvent]

@[simp] theorem State.judgeEvent_frame (s : State) (o q d r : Nat) :
    (s.judgeEvent o q d r).clk = s.clk ∧ (s.judgeEvent o q d r).lnk = s.lnk ∧ (s.judgeEvent o q d r).ptb = s.ptb ∧
      (s.judgeEvent o q d r).ses = s.ses ∧ (s.judgeEvent o q d r).lastClaim = s.lastClaim ∧
      (s.judgeEvent o q d r).snap = s.snap ∧ (s.judgeEvent o q d r).prk = s.prk ∧
      (s.judgeEvent o q d r).cfg = s.cfg ∧ (s.judgeEvent o q d r).pending = s.pending ∧
      (s.judgeEvent o q d r).choices = s.choices := by
  simp only [State.judgeEvent]
  (repeat' split) <;> simp

@[simp] theorem State.sendEvent_frame (s : State) (d r : Nat) :
    (s.sendEvent d r).clk = s.clk ∧ (s.sendEvent d r).ptb = s.ptb ∧ (s.sendEvent d r).ses = s.ses ∧
      (s.sendEvent d r).lastClaim = s.lastClaim ∧ (s.sendEvent d r).snap = s.snap ∧ (s.sendEvent d r).prk = s.prk ∧
      (s.sendEvent d r).cfg = s.cfg ∧ (s.sendEvent d r).pending = s.pending ∧ (s.sendEvent d r).choices = s.choices := by
  simp [State.sendEvent]

@[simp] theorem State.sendDemand_frame (s : State) :
    (s.sendDemand).clk = s.clk ∧ (s.sendDemand).ptb = s.ptb ∧ (s.sendDemand).ses = s.ses ∧
      (s.sendDemand).lastClaim = s.lastClaim ∧ (s.sendDemand).snap = s.snap ∧ (s.sendDemand).prk = s.prk ∧
      (s.sendDemand).cfg = s.cfg ∧ (s.sendDemand).pending = s.pending ∧ (s.sendDemand).choices = s.choices := by
  simp [State.sendDemand]

@[simp] theorem State.beginSenseFault_frame (s : State) :
    (s.beginSenseFault).clk = s.clk ∧ (s.beginSenseFault).lnk = s.lnk ∧ (s.beginSenseFault).ptb = s.ptb ∧
      (s.beginSenseFault).ses = s.ses ∧ (s.beginSenseFault).lastClaim = s.lastClaim ∧
      (s.beginSenseFault).alt = s.alt ∧ (s.beginSenseFault).stg = s.stg ∧ (s.beginSenseFault).snap = s.snap ∧
      (s.beginSenseFault).prk = s.prk ∧ (s.beginSenseFault).cfg = s.cfg ∧ (s.beginSenseFault).pending = s.pending ∧
      (s.beginSenseFault).choices = s.choices := by
  simp only [State.beginSenseFault]
  (repeat' split) <;> simp

@[simp] theorem State.gridEdge_frame (s : State) (n : Nat) :
    (s.gridEdge n).clk = s.clk ∧ (s.gridEdge n).lnk = s.lnk ∧ (s.gridEdge n).ptb = s.ptb ∧
      (s.gridEdge n).ses = s.ses ∧ (s.gridEdge n).lastClaim = s.lastClaim ∧ (s.gridEdge n).alt = s.alt ∧
      (s.gridEdge n).stg = s.stg ∧ (s.gridEdge n).snap = s.snap ∧ (s.gridEdge n).prk = s.prk ∧
      (s.gridEdge n).cfg = s.cfg ∧ (s.gridEdge n).pending = s.pending ∧ (s.gridEdge n).choices = s.choices := by
  simp only [State.gridEdge]
  (repeat' split) <;> simp

@[simp] theorem State.watchEdges_frame (s : State) :
    (s.watchEdges).clk = s.clk ∧ (s.watchEdges).lnk = s.lnk ∧ (s.watchEdges).ptb = s.ptb ∧
      (s.watchEdges).ses = s.ses ∧ (s.watchEdges).lastClaim = s.lastClaim ∧ (s.watchEdges).alt = s.alt ∧
      (s.watchEdges).stg = s.stg ∧ (s.watchEdges).snap = s.snap ∧ (s.watchEdges).prk = s.prk ∧
      (s.watchEdges).cfg = s.cfg ∧ (s.watchEdges).pending = s.pending ∧ (s.watchEdges).choices = s.choices := by
  simp only [State.watchEdges]
  (repeat' split) <;> simp

@[simp] theorem State.rsvTick_frame (s : State) :
    (s.rsvTick).clk = s.clk ∧ (s.rsvTick).ptb = s.ptb ∧ (s.rsvTick).ses = s.ses ∧
      (s.rsvTick).lastClaim = s.lastClaim ∧ (s.rsvTick).snap = s.snap ∧ (s.rsvTick).prk = s.prk ∧
      (s.rsvTick).cfg = s.cfg ∧ (s.rsvTick).pending = s.pending ∧ (s.rsvTick).choices = s.choices := by
  simp only [State.rsvTick]
  (repeat' split) <;> simp

@[simp] theorem State.refreshBoundary_frame (s : State) :
    (s.refreshBoundary).clk = s.clk ∧ (s.refreshBoundary).ptb = s.ptb ∧ (s.refreshBoundary).ses = s.ses ∧
      (s.refreshBoundary).lastClaim = s.lastClaim ∧ (s.refreshBoundary).snap = s.snap ∧
      (s.refreshBoundary).prk = s.prk ∧ (s.refreshBoundary).cfg = s.cfg ∧ (s.refreshBoundary).pending = s.pending ∧
      (s.refreshBoundary).choices = s.choices := by
  simp only [State.refreshBoundary]
  (repeat' split) <;> simp

@[simp] theorem State.rsvCountdown_frame (s : State) :
    (s.rsvCountdown).clk = s.clk ∧ (s.rsvCountdown).ptb = s.ptb ∧ (s.rsvCountdown).ses = s.ses ∧
      (s.rsvCountdown).lastClaim = s.lastClaim ∧ (s.rsvCountdown).snap = s.snap ∧ (s.rsvCountdown).prk = s.prk ∧
      (s.rsvCountdown).cfg = s.cfg ∧ (s.rsvCountdown).pending = s.pending ∧ (s.rsvCountdown).choices = s.choices := by
  simp only [State.rsvCountdown]
  (repeat' split) <;> simp

@[simp] theorem State.withdraw_frame (s : State) :
    (s.withdraw).clk = s.clk ∧ (s.withdraw).lnk = s.lnk ∧ (s.withdraw).ptb = s.ptb ∧ (s.withdraw).ses = s.ses ∧
      (s.withdraw).lastClaim = s.lastClaim ∧ (s.withdraw).alt = s.alt ∧ (s.withdraw).snap = s.snap ∧
      (s.withdraw).prk = s.prk ∧ (s.withdraw).cfg = s.cfg ∧ (s.withdraw).pending = s.pending ∧
      (s.withdraw).choices = s.choices := by
  simp [State.withdraw]

@[simp] theorem State.withdrawalCheck_frame (s : State) :
    (s.withdrawalCheck).clk = s.clk ∧ (s.withdrawalCheck).lnk = s.lnk ∧ (s.withdrawalCheck).ptb = s.ptb ∧
      (s.withdrawalCheck).ses = s.ses ∧ (s.withdrawalCheck).lastClaim = s.lastClaim ∧
      (s.withdrawalCheck).alt = s.alt ∧ (s.withdrawalCheck).snap = s.snap ∧ (s.withdrawalCheck).prk = s.prk ∧
      (s.withdrawalCheck).cfg = s.cfg ∧ (s.withdrawalCheck).pending = s.pending ∧
      (s.withdrawalCheck).choices = s.choices := by
  simp only [State.withdrawalCheck]
  (repeat' split) <;> simp

@[simp] theorem State.rsvSessionEnd_frame (s : State) :
    (s.rsvSessionEnd).clk = s.clk ∧ (s.rsvSessionEnd).lnk = s.lnk ∧ (s.rsvSessionEnd).ptb = s.ptb ∧
      (s.rsvSessionEnd).ses = s.ses ∧ (s.rsvSessionEnd).lastClaim = s.lastClaim ∧ (s.rsvSessionEnd).alt = s.alt ∧
      (s.rsvSessionEnd).snap = s.snap ∧ (s.rsvSessionEnd).prk = s.prk ∧ (s.rsvSessionEnd).cfg = s.cfg ∧
      (s.rsvSessionEnd).pending = s.pending ∧ (s.rsvSessionEnd).choices = s.choices := by
  simp only [State.rsvSessionEnd]
  (repeat' split) <;> simp

@[simp] theorem State.rsvSessionBegin_frame (s : State) :
    (s.rsvSessionBegin).clk = s.clk ∧ (s.rsvSessionBegin).lnk = s.lnk ∧ (s.rsvSessionBegin).ptb = s.ptb ∧
      (s.rsvSessionBegin).ses = s.ses ∧ (s.rsvSessionBegin).lastClaim = s.lastClaim ∧
      (s.rsvSessionBegin).alt = s.alt ∧ (s.rsvSessionBegin).snap = s.snap ∧ (s.rsvSessionBegin).prk = s.prk ∧
      (s.rsvSessionBegin).log = s.log ∧ (s.rsvSessionBegin).prt = s.prt ∧ (s.rsvSessionBegin).cfg = s.cfg ∧
      (s.rsvSessionBegin).pending = s.pending ∧ (s.rsvSessionBegin).choices = s.choices := by
  simp only [State.rsvSessionBegin]
  (repeat' split) <;> simp

@[simp] theorem State.missLeg_frame (s : State) (v : Session) :
    (s.missLeg v).clk = s.clk ∧ (s.missLeg v).lnk = s.lnk ∧ (s.missLeg v).ptb = s.ptb ∧
      (s.missLeg v).lastClaim = s.lastClaim ∧ (s.missLeg v).alt = s.alt ∧ (s.missLeg v).stg = s.stg ∧
      (s.missLeg v).snap = s.snap ∧ (s.missLeg v).rsv = s.rsv ∧ (s.missLeg v).prk = s.prk ∧
      (s.missLeg v).cfg = s.cfg ∧ (s.missLeg v).pending = s.pending ∧ (s.missLeg v).choices = s.choices := by
  simp [State.missLeg]

@[simp] theorem State.readySession_frame (s : State) (c : ConfigRecord) :
    (s.readySession c).clk = s.clk ∧ (s.readySession c).lnk = s.lnk ∧ (s.readySession c).ptb = s.ptb ∧
      (s.readySession c).lastClaim = s.lastClaim ∧ (s.readySession c).alt = s.alt ∧ (s.readySession c).stg = s.stg ∧
      (s.readySession c).snap = s.snap ∧ (s.readySession c).rsv = s.rsv ∧ (s.readySession c).prk = s.prk ∧
      (s.readySession c).cfg = s.cfg ∧ (s.readySession c).pending = s.pending ∧ (s.readySession c).choices = s.choices := by
  simp only [State.readySession]
  (repeat' split) <;> simp

@[simp] theorem State.missLegs_frame (s : State) (w fuel : Nat) :
    (State.missLegs w fuel s).clk = s.clk ∧ (State.missLegs w fuel s).lnk = s.lnk ∧
      (State.missLegs w fuel s).ptb = s.ptb ∧ (State.missLegs w fuel s).lastClaim = s.lastClaim ∧
      (State.missLegs w fuel s).alt = s.alt ∧ (State.missLegs w fuel s).stg = s.stg ∧
      (State.missLegs w fuel s).snap = s.snap ∧ (State.missLegs w fuel s).rsv = s.rsv ∧
      (State.missLegs w fuel s).prk = s.prk ∧ (State.missLegs w fuel s).cfg = s.cfg ∧
      (State.missLegs w fuel s).pending = s.pending ∧ (State.missLegs w fuel s).choices = s.choices := by
  induction fuel generalizing s with
  | zero => simp [State.missLegs]
  | succ n ih =>
    simp only [State.missLegs]
    (repeat' split) <;> simp [ih]

@[simp] theorem State.sessionBoundary_frame (s : State) :
    (s.sessionBoundary).clk = s.clk ∧ (s.sessionBoundary).lnk = s.lnk ∧ (s.sessionBoundary).ptb = s.ptb ∧
      (s.sessionBoundary).lastClaim = s.lastClaim ∧ (s.sessionBoundary).alt = s.alt ∧
      (s.sessionBoundary).stg = s.stg ∧ (s.sessionBoundary).snap = s.snap ∧ (s.sessionBoundary).rsv = s.rsv ∧
      (s.sessionBoundary).prk = s.prk ∧ (s.sessionBoundary).cfg = s.cfg ∧ (s.sessionBoundary).pending = s.pending ∧
      (s.sessionBoundary).choices = s.choices := by
  simp only [State.sessionBoundary]
  (repeat' split) <;> simp

@[simp] theorem State.claimAndLatch_frame (s : State) :
    (s.claimAndLatch).clk = s.clk ∧ (s.claimAndLatch).ptb = s.ptb ∧ (s.claimAndLatch).ses = s.ses ∧
      (s.claimAndLatch).stg = s.stg ∧ (s.claimAndLatch).snap = s.snap ∧ (s.claimAndLatch).rsv = s.rsv ∧
      (s.claimAndLatch).prk = s.prk ∧ (s.claimAndLatch).log = s.log ∧ (s.claimAndLatch).prt = s.prt ∧
      (s.claimAndLatch).cfg = s.cfg ∧ (s.claimAndLatch).pending = s.pending ∧ (s.claimAndLatch).choices = s.choices := by
  simp only [State.claimAndLatch]
  (repeat' split) <;> simp

@[simp] theorem State.sesBoundary_frame (s : State) :
    (s.sesBoundary).clk = s.clk ∧ (s.sesBoundary).ptb = s.ptb ∧ (s.sesBoundary).stg = s.stg ∧
      (s.sesBoundary).snap = s.snap ∧ (s.sesBoundary).rsv = s.rsv ∧ (s.sesBoundary).prk = s.prk ∧
      (s.sesBoundary).cfg = s.cfg ∧ (s.sesBoundary).pending = s.pending ∧ (s.sesBoundary).choices = s.choices := by
  simp [State.sesBoundary]

@[simp] theorem State.dropSession_frame (s : State) :
    (s.dropSession).clk = s.clk ∧ (s.dropSession).lnk = s.lnk ∧ (s.dropSession).lastClaim = s.lastClaim ∧
      (s.dropSession).snap = s.snap ∧ (s.dropSession).prk = s.prk ∧ (s.dropSession).cfg = s.cfg ∧
      (s.dropSession).pending = s.pending ∧ (s.dropSession).choices = s.choices := by
  simp [State.dropSession]

@[simp] theorem State.captureUnplug_frame (s : State) (v : Session) :
    (s.captureUnplug v).clk = s.clk ∧ (s.captureUnplug v).lnk = s.lnk ∧ (s.captureUnplug v).ptb = s.ptb ∧
      (s.captureUnplug v).ses = s.ses ∧ (s.captureUnplug v).lastClaim = s.lastClaim ∧
      (s.captureUnplug v).alt = s.alt ∧ (s.captureUnplug v).stg = s.stg ∧ (s.captureUnplug v).snap = s.snap ∧
      (s.captureUnplug v).rsv = s.rsv ∧ (s.captureUnplug v).prk = s.prk ∧ (s.captureUnplug v).cfg = s.cfg ∧
      (s.captureUnplug v).pending = s.pending ∧ (s.captureUnplug v).choices = s.choices := by
  simp [State.captureUnplug]

@[simp] theorem State.dropOffer_frame (s : State) (e : ParkEntry) :
    (s.dropOffer e).clk = s.clk ∧ (s.dropOffer e).ptb = s.ptb ∧ (s.dropOffer e).ses = s.ses ∧
      (s.dropOffer e).lastClaim = s.lastClaim ∧ (s.dropOffer e).alt = s.alt ∧ (s.dropOffer e).stg = s.stg ∧
      (s.dropOffer e).snap = s.snap ∧ (s.dropOffer e).rsv = s.rsv ∧ (s.dropOffer e).prk = s.prk ∧
      (s.dropOffer e).log = s.log ∧ (s.dropOffer e).prt = s.prt ∧ (s.dropOffer e).cfg = s.cfg ∧
      (s.dropOffer e).pending = s.pending ∧ (s.dropOffer e).choices = s.choices := by
  simp only [State.dropOffer]
  (repeat' split) <;> simp

@[simp] theorem State.removePark_frame (s : State) (b : Nat) :
    (s.removePark b).clk = s.clk ∧ (s.removePark b).ptb = s.ptb ∧ (s.removePark b).ses = s.ses ∧
      (s.removePark b).lastClaim = s.lastClaim ∧ (s.removePark b).alt = s.alt ∧ (s.removePark b).stg = s.stg ∧
      (s.removePark b).snap = s.snap ∧ (s.removePark b).rsv = s.rsv ∧ (s.removePark b).log = s.log ∧
      (s.removePark b).prt = s.prt ∧ (s.removePark b).cfg = s.cfg ∧ (s.removePark b).pending = s.pending ∧
      (s.removePark b).choices = s.choices := by
  simp only [State.removePark]
  (repeat' split) <;> simp

@[simp] theorem State.evictOldest_frame (s : State) :
    (s.evictOldest).clk = s.clk ∧ (s.evictOldest).ptb = s.ptb ∧ (s.evictOldest).ses = s.ses ∧
      (s.evictOldest).lastClaim = s.lastClaim ∧ (s.evictOldest).alt = s.alt ∧ (s.evictOldest).stg = s.stg ∧
      (s.evictOldest).snap = s.snap ∧ (s.evictOldest).rsv = s.rsv ∧ (s.evictOldest).cfg = s.cfg ∧
      (s.evictOldest).pending = s.pending ∧ (s.evictOldest).choices = s.choices := by
  simp only [State.evictOldest]
  (repeat' split) <;> simp

@[simp] theorem State.park_frame (s : State) (b h : Nat) (x : Context) :
    (s.park b h x).clk = s.clk ∧ (s.park b h x).ptb = s.ptb ∧ (s.park b h x).ses = s.ses ∧
      (s.park b h x).lastClaim = s.lastClaim ∧ (s.park b h x).alt = s.alt ∧ (s.park b h x).stg = s.stg ∧
      (s.park b h x).snap = s.snap ∧ (s.park b h x).rsv = s.rsv ∧ (s.park b h x).cfg = s.cfg ∧
      (s.park b h x).pending = s.pending ∧ (s.park b h x).choices = s.choices := by
  simp [State.park]

@[simp] theorem State.openWindow_frame (s : State) (b : Nat) :
    (s.openWindow b).clk = s.clk ∧ (s.openWindow b).ptb = s.ptb ∧ (s.openWindow b).ses = s.ses ∧
      (s.openWindow b).lastClaim = s.lastClaim ∧ (s.openWindow b).alt = s.alt ∧ (s.openWindow b).stg = s.stg ∧
      (s.openWindow b).snap = s.snap ∧ (s.openWindow b).rsv = s.rsv ∧ (s.openWindow b).log = s.log ∧
      (s.openWindow b).prt = s.prt ∧ (s.openWindow b).cfg = s.cfg ∧ (s.openWindow b).pending = s.pending ∧
      (s.openWindow b).choices = s.choices := by
  simp [State.openWindow]

@[simp] theorem State.endWindow_frame (s : State) (w : WindowFigures) :
    (s.endWindow w).clk = s.clk ∧ (s.endWindow w).ptb = s.ptb ∧ (s.endWindow w).ses = s.ses ∧
      (s.endWindow w).lastClaim = s.lastClaim ∧ (s.endWindow w).alt = s.alt ∧ (s.endWindow w).stg = s.stg ∧
      (s.endWindow w).snap = s.snap ∧ (s.endWindow w).rsv = s.rsv ∧ (s.endWindow w).log = s.log ∧
      (s.endWindow w).prt = s.prt ∧ (s.endWindow w).cfg = s.cfg ∧ (s.endWindow w).pending = s.pending ∧
      (s.endWindow w).choices = s.choices := by
  simp [State.endWindow]

@[simp] theorem State.cancelWindow_frame (s : State) :
    (s.cancelWindow).clk = s.clk ∧ (s.cancelWindow).ptb = s.ptb ∧ (s.cancelWindow).ses = s.ses ∧
      (s.cancelWindow).lastClaim = s.lastClaim ∧ (s.cancelWindow).alt = s.alt ∧ (s.cancelWindow).stg = s.stg ∧
      (s.cancelWindow).snap = s.snap ∧ (s.cancelWindow).rsv = s.rsv ∧ (s.cancelWindow).log = s.log ∧
      (s.cancelWindow).prt = s.prt ∧ (s.cancelWindow).cfg = s.cfg ∧ (s.cancelWindow).pending = s.pending ∧
      (s.cancelWindow).choices = s.choices := by
  simp only [State.cancelWindow]
  (repeat' split) <;> simp

@[simp] theorem State.recordHandover_frame (s : State) (h : Handover) :
    (s.recordHandover h).clk = s.clk ∧ (s.recordHandover h).lnk = s.lnk ∧ (s.recordHandover h).ptb = s.ptb ∧
      (s.recordHandover h).ses = s.ses ∧ (s.recordHandover h).lastClaim = s.lastClaim ∧
      (s.recordHandover h).alt = s.alt ∧ (s.recordHandover h).stg = s.stg ∧ (s.recordHandover h).snap = s.snap ∧
      (s.recordHandover h).rsv = s.rsv ∧ (s.recordHandover h).log = s.log ∧ (s.recordHandover h).prt = s.prt ∧
      (s.recordHandover h).cfg = s.cfg ∧ (s.recordHandover h).pending = s.pending ∧
      (s.recordHandover h).choices = s.choices := by
  simp [State.recordHandover]

@[simp] theorem State.closeRestored_frame (s : State) (q : Query) (c : Candidate) :
    (s.closeRestored q c).clk = s.clk ∧ (s.closeRestored q c).ptb = s.ptb ∧
      (s.closeRestored q c).lastClaim = s.lastClaim ∧ (s.closeRestored q c).alt = s.alt ∧
      (s.closeRestored q c).snap = s.snap ∧ (s.closeRestored q c).rsv = s.rsv ∧ (s.closeRestored q c).cfg = s.cfg ∧
      (s.closeRestored q c).pending = s.pending ∧ (s.closeRestored q c).choices = s.choices := by
  simp [State.closeRestored]

@[simp] theorem State.closeCold_frame (s : State) (q : Query) :
    (s.closeCold q).clk = s.clk ∧ (s.closeCold q).lastClaim = s.lastClaim ∧ (s.closeCold q).snap = s.snap ∧
      (s.closeCold q).cfg = s.cfg ∧ (s.closeCold q).pending = s.pending ∧ (s.closeCold q).choices = s.choices := by
  simp only [State.closeCold]
  (repeat' split) <;> simp

@[simp] theorem State.windowBoundary_frame (s : State) :
    (s.windowBoundary).clk = s.clk ∧ (s.windowBoundary).lastClaim = s.lastClaim ∧ (s.windowBoundary).snap = s.snap ∧
      (s.windowBoundary).cfg = s.cfg ∧ (s.windowBoundary).pending = s.pending ∧ (s.windowBoundary).choices = s.choices := by
  simp only [State.windowBoundary]
  (repeat' split) <;> simp

@[simp] theorem foldl_dequeue_frame (es : List ParkEntry) (s : State) :
    (es.foldl (fun t e => t.dequeue (.offer e.busId)) s).clk = s.clk ∧
      (es.foldl (fun t e => t.dequeue (.offer e.busId)) s).ptb = s.ptb ∧
      (es.foldl (fun t e => t.dequeue (.offer e.busId)) s).ses = s.ses ∧
      (es.foldl (fun t e => t.dequeue (.offer e.busId)) s).lastClaim = s.lastClaim ∧
      (es.foldl (fun t e => t.dequeue (.offer e.busId)) s).alt = s.alt ∧
      (es.foldl (fun t e => t.dequeue (.offer e.busId)) s).stg = s.stg ∧
      (es.foldl (fun t e => t.dequeue (.offer e.busId)) s).snap = s.snap ∧
      (es.foldl (fun t e => t.dequeue (.offer e.busId)) s).rsv = s.rsv ∧
      (es.foldl (fun t e => t.dequeue (.offer e.busId)) s).prk = s.prk ∧
      (es.foldl (fun t e => t.dequeue (.offer e.busId)) s).log = s.log ∧
      (es.foldl (fun t e => t.dequeue (.offer e.busId)) s).prt = s.prt ∧
      (es.foldl (fun t e => t.dequeue (.offer e.busId)) s).cfg = s.cfg ∧
      (es.foldl (fun t e => t.dequeue (.offer e.busId)) s).pending = s.pending ∧
      (es.foldl (fun t e => t.dequeue (.offer e.busId)) s).choices = s.choices := by
  induction es generalizing s with
  | nil => simp
  | cons e es ih => simp [ih]

@[simp] theorem State.waitsBoundary_frame (s : State) :
    (s.waitsBoundary).clk = s.clk ∧ (s.waitsBoundary).ptb = s.ptb ∧ (s.waitsBoundary).ses = s.ses ∧
      (s.waitsBoundary).lastClaim = s.lastClaim ∧ (s.waitsBoundary).alt = s.alt ∧ (s.waitsBoundary).stg = s.stg ∧
      (s.waitsBoundary).snap = s.snap ∧ (s.waitsBoundary).rsv = s.rsv ∧ (s.waitsBoundary).log = s.log ∧
      (s.waitsBoundary).prt = s.prt ∧ (s.waitsBoundary).cfg = s.cfg ∧ (s.waitsBoundary).pending = s.pending ∧
      (s.waitsBoundary).choices = s.choices := by
  simp [State.waitsBoundary]

@[simp] theorem State.expireContext_frame (s : State) (e : ParkEntry) :
    (s.expireContext e).clk = s.clk ∧ (s.expireContext e).ptb = s.ptb ∧ (s.expireContext e).ses = s.ses ∧
      (s.expireContext e).lastClaim = s.lastClaim ∧ (s.expireContext e).alt = s.alt ∧
      (s.expireContext e).stg = s.stg ∧ (s.expireContext e).snap = s.snap ∧ (s.expireContext e).rsv = s.rsv ∧
      (s.expireContext e).prk = s.prk ∧ (s.expireContext e).cfg = s.cfg ∧ (s.expireContext e).pending = s.pending ∧
      (s.expireContext e).choices = s.choices := by
  simp [State.expireContext]

@[simp] theorem foldl_expire_frame (es : List ParkEntry) (s : State) :
    (es.foldl State.expireContext s).clk = s.clk ∧ (es.foldl State.expireContext s).ptb = s.ptb ∧
      (es.foldl State.expireContext s).ses = s.ses ∧ (es.foldl State.expireContext s).lastClaim = s.lastClaim ∧
      (es.foldl State.expireContext s).alt = s.alt ∧ (es.foldl State.expireContext s).stg = s.stg ∧
      (es.foldl State.expireContext s).snap = s.snap ∧ (es.foldl State.expireContext s).rsv = s.rsv ∧
      (es.foldl State.expireContext s).prk = s.prk ∧ (es.foldl State.expireContext s).cfg = s.cfg ∧
      (es.foldl State.expireContext s).pending = s.pending ∧ (es.foldl State.expireContext s).choices = s.choices := by
  induction es generalizing s with
  | nil => simp
  | cons e es ih => simp [ih]

@[simp] theorem State.holdsBoundary_frame (s : State) :
    (s.holdsBoundary).clk = s.clk ∧ (s.holdsBoundary).ptb = s.ptb ∧ (s.holdsBoundary).ses = s.ses ∧
      (s.holdsBoundary).lastClaim = s.lastClaim ∧ (s.holdsBoundary).alt = s.alt ∧ (s.holdsBoundary).stg = s.stg ∧
      (s.holdsBoundary).snap = s.snap ∧ (s.holdsBoundary).rsv = s.rsv ∧ (s.holdsBoundary).cfg = s.cfg ∧
      (s.holdsBoundary).pending = s.pending ∧ (s.holdsBoundary).choices = s.choices := by
  simp [State.holdsBoundary]

@[simp] theorem State.prkBoundary_frame (s : State) :
    (s.prkBoundary).clk = s.clk ∧ (s.prkBoundary).lastClaim = s.lastClaim ∧ (s.prkBoundary).snap = s.snap ∧
      (s.prkBoundary).cfg = s.cfg ∧ (s.prkBoundary).pending = s.pending ∧ (s.prkBoundary).choices = s.choices := by
  simp [State.prkBoundary]

@[simp] theorem State.prkRollover_frame (s : State) :
    (s.prkRollover).clk = s.clk ∧ (s.prkRollover).lnk = s.lnk ∧ (s.prkRollover).ptb = s.ptb ∧
      (s.prkRollover).ses = s.ses ∧ (s.prkRollover).lastClaim = s.lastClaim ∧ (s.prkRollover).alt = s.alt ∧
      (s.prkRollover).stg = s.stg ∧ (s.prkRollover).snap = s.snap ∧ (s.prkRollover).rsv = s.rsv ∧
      (s.prkRollover).log = s.log ∧ (s.prkRollover).prt = s.prt ∧ (s.prkRollover).cfg = s.cfg ∧
      (s.prkRollover).pending = s.pending ∧ (s.prkRollover).choices = s.choices := by
  simp [State.prkRollover]

@[simp] theorem State.takeOffer_frame (s : State) (b : Nat) (o : Offer) :
    (s.takeOffer b o).clk = s.clk ∧ (s.takeOffer b o).lnk = s.lnk ∧ (s.takeOffer b o).ptb = s.ptb ∧
      (s.takeOffer b o).ses = s.ses ∧ (s.takeOffer b o).lastClaim = s.lastClaim ∧ (s.takeOffer b o).alt = s.alt ∧
      (s.takeOffer b o).stg = s.stg ∧ (s.takeOffer b o).snap = s.snap ∧ (s.takeOffer b o).rsv = s.rsv ∧
      (s.takeOffer b o).log = s.log ∧ (s.takeOffer b o).prt = s.prt ∧ (s.takeOffer b o).cfg = s.cfg ∧
      (s.takeOffer b o).pending = s.pending ∧ (s.takeOffer b o).choices = s.choices := by
  simp [State.takeOffer]

@[simp] theorem State.takeQuery_frame (s : State) (b : Nat) :
    (s.takeQuery b).clk = s.clk ∧ (s.takeQuery b).ptb = s.ptb ∧ (s.takeQuery b).ses = s.ses ∧
      (s.takeQuery b).lastClaim = s.lastClaim ∧ (s.takeQuery b).alt = s.alt ∧ (s.takeQuery b).stg = s.stg ∧
      (s.takeQuery b).snap = s.snap ∧ (s.takeQuery b).rsv = s.rsv ∧ (s.takeQuery b).log = s.log ∧
      (s.takeQuery b).prt = s.prt ∧ (s.takeQuery b).cfg = s.cfg ∧ (s.takeQuery b).pending = s.pending ∧
      (s.takeQuery b).choices = s.choices := by
  simp only [State.takeQuery]
  (repeat' split) <;> simp

@[simp] theorem State.takeTaken_frame (s : State) (x b c : Nat) :
    (s.takeTaken x b c).clk = s.clk ∧ (s.takeTaken x b c).ptb = s.ptb ∧ (s.takeTaken x b c).ses = s.ses ∧
      (s.takeTaken x b c).lastClaim = s.lastClaim ∧ (s.takeTaken x b c).alt = s.alt ∧
      (s.takeTaken x b c).stg = s.stg ∧ (s.takeTaken x b c).snap = s.snap ∧ (s.takeTaken x b c).rsv = s.rsv ∧
      (s.takeTaken x b c).cfg = s.cfg ∧ (s.takeTaken x b c).pending = s.pending ∧
      (s.takeTaken x b c).choices = s.choices := by
  simp only [State.takeTaken]
  (repeat' split) <;> simp

@[simp] theorem State.withdrawOffers_frame (s : State) :
    (s.withdrawOffers).clk = s.clk ∧ (s.withdrawOffers).lnk = s.lnk ∧ (s.withdrawOffers).ptb = s.ptb ∧
      (s.withdrawOffers).ses = s.ses ∧ (s.withdrawOffers).lastClaim = s.lastClaim ∧ (s.withdrawOffers).alt = s.alt ∧
      (s.withdrawOffers).stg = s.stg ∧ (s.withdrawOffers).snap = s.snap ∧ (s.withdrawOffers).rsv = s.rsv ∧
      (s.withdrawOffers).log = s.log ∧ (s.withdrawOffers).prt = s.prt ∧ (s.withdrawOffers).cfg = s.cfg ∧
      (s.withdrawOffers).pending = s.pending ∧ (s.withdrawOffers).choices = s.choices := by
  simp [State.withdrawOffers]

@[simp] theorem State.dayRollover_frame (s : State) :
    (s.dayRollover).clk = s.clk ∧ (s.dayRollover).lnk = s.lnk ∧ (s.dayRollover).lastClaim = s.lastClaim ∧
      (s.dayRollover).alt = s.alt ∧ (s.dayRollover).stg = s.stg ∧ (s.dayRollover).snap = s.snap ∧
      (s.dayRollover).rsv = s.rsv ∧ (s.dayRollover).log = s.log ∧ (s.dayRollover).prt = s.prt ∧
      (s.dayRollover).cfg = s.cfg ∧ (s.dayRollover).pending = s.pending ∧ (s.dayRollover).choices = s.choices := by
  simp [State.dayRollover]

@[simp] theorem State.reserveAndClaim_frame (s : State) :
    (s.reserveAndClaim).clk = s.clk ∧ (s.reserveAndClaim).ptb = s.ptb ∧ (s.reserveAndClaim).snap = s.snap ∧
      (s.reserveAndClaim).prk = s.prk ∧ (s.reserveAndClaim).cfg = s.cfg ∧ (s.reserveAndClaim).pending = s.pending ∧
      (s.reserveAndClaim).choices = s.choices := by
  simp only [State.reserveAndClaim]
  (repeat' split) <;> simp

@[simp] theorem State.reserveAndSession_frame (s : State) :
    (s.reserveAndSession).clk = s.clk ∧ (s.reserveAndSession).ptb = s.ptb ∧ (s.reserveAndSession).snap = s.snap ∧
      (s.reserveAndSession).prk = s.prk ∧ (s.reserveAndSession).cfg = s.cfg ∧
      (s.reserveAndSession).pending = s.pending ∧ (s.reserveAndSession).choices = s.choices := by
  simp [State.reserveAndSession]

@[simp] theorem State.sessionAndPark_frame (s : State) :
    (s.sessionAndPark).clk = s.clk ∧ (s.sessionAndPark).snap = s.snap ∧ (s.sessionAndPark).cfg = s.cfg ∧
      (s.sessionAndPark).pending = s.pending ∧ (s.sessionAndPark).choices = s.choices := by
  simp only [State.sessionAndPark]
  (repeat' split) <;> simp

@[simp] theorem State.boundary_frame (s : State) (a b : Bool) :
    (s.boundary a b).snap = s.snap ∧ (s.boundary a b).cfg = s.cfg ∧ (s.boundary a b).pending = s.pending := by
  simp only [State.boundary]
  (repeat' split) <;> simp

@[simp] theorem State.restartAt_frame (s : State) (e : Nat) :
    (s.restartAt e).lnk = s.lnk ∧ (s.restartAt e).ptb = s.ptb ∧ (s.restartAt e).ses = s.ses ∧
      (s.restartAt e).lastClaim = s.lastClaim ∧ (s.restartAt e).alt = s.alt ∧ (s.restartAt e).stg = s.stg ∧
      (s.restartAt e).snap = s.snap ∧ (s.restartAt e).rsv = s.rsv ∧ (s.restartAt e).prk = s.prk ∧
      (s.restartAt e).log = s.log ∧ (s.restartAt e).prt = s.prt ∧ (s.restartAt e).cfg = s.cfg ∧
      (s.restartAt e).pending = s.pending ∧ (s.restartAt e).choices = s.choices := by
  simp [State.restartAt]

@[simp] theorem State.advanced_frame (s : State) :
    (s.advanced).lnk = s.lnk ∧ (s.advanced).ptb = s.ptb ∧ (s.advanced).ses = s.ses ∧
      (s.advanced).lastClaim = s.lastClaim ∧ (s.advanced).alt = s.alt ∧ (s.advanced).stg = s.stg ∧
      (s.advanced).snap = s.snap ∧ (s.advanced).rsv = s.rsv ∧ (s.advanced).prk = s.prk ∧ (s.advanced).log = s.log ∧
      (s.advanced).prt = s.prt ∧ (s.advanced).cfg = s.cfg ∧ (s.advanced).pending = s.pending ∧
      (s.advanced).choices = s.choices := by
  simp [State.advanced]

@[simp] theorem State.tickWork_frame (s : State) :
    (s.tickWork).clk = s.clk ∧ (s.tickWork).ptb = s.ptb ∧ (s.tickWork).lastClaim = s.lastClaim ∧
      (s.tickWork).snap = s.snap ∧ (s.tickWork).prk = s.prk ∧ (s.tickWork).cfg = s.cfg ∧
      (s.tickWork).pending = s.pending := by
  simp only [State.tickWork]
  (repeat' split) <;> simp

@[simp] theorem State.tickWithin_frame (s : State) :
    (s.tickWithin).ptb = s.ptb ∧ (s.tickWithin).lastClaim = s.lastClaim ∧ (s.tickWithin).snap = s.snap ∧
      (s.tickWithin).prk = s.prk ∧ (s.tickWithin).cfg = s.cfg ∧ (s.tickWithin).pending = s.pending := by
  simp [State.tickWithin]

@[simp] theorem State.tickOwing_frame (s : State) :
    (s.tickOwing).ptb = s.ptb ∧ (s.tickOwing).lastClaim = s.lastClaim ∧ (s.tickOwing).snap = s.snap ∧
      (s.tickOwing).prk = s.prk ∧ (s.tickOwing).cfg = s.cfg ∧ (s.tickOwing).pending = s.pending := by
  simp [State.tickOwing]

@[simp] theorem State.tickEvent_frame (s : State) :
    (s.tickEvent).snap = s.snap ∧ (s.tickEvent).cfg = s.cfg ∧ (s.tickEvent).pending = s.pending := by
  simp only [State.tickEvent]
  (repeat' split) <;> simp

@[simp] theorem State.epochBoundary_frame (s : State) :
    (s.epochBoundary).snap = s.snap ∧ (s.epochBoundary).cfg = s.cfg ∧ (s.epochBoundary).pending = s.pending := by
  simp only [State.epochBoundary]
  (repeat' split) <;> simp

@[simp] theorem State.boundaryWhere_frame (s : State) (x : Bool) :
    (s.boundaryWhere x).snap = s.snap ∧ (s.boundaryWhere x).cfg = s.cfg ∧ (s.boundaryWhere x).pending = s.pending := by
  simp only [State.boundaryWhere]
  (repeat' split) <;> simp

@[simp] theorem State.tickWhere_frame (s : State) (x : Bool) :
    (s.tickWhere x).snap = s.snap ∧ (s.tickWhere x).cfg = s.cfg ∧ (s.tickWhere x).pending = s.pending := by
  simp only [State.tickWhere]
  (repeat' split) <;> simp

@[simp] theorem State.adopt_frame (s : State) (e : Nat) :
    (s.adopt e).snap = s.snap ∧ (s.adopt e).cfg = s.cfg ∧ (s.adopt e).pending = s.pending := by
  simp [State.adopt]

@[simp] theorem State.disagreeWith_frame (s : State) (b : Nat) :
    (s.disagreeWith b).lnk = s.lnk ∧ (s.disagreeWith b).ptb = s.ptb ∧ (s.disagreeWith b).ses = s.ses ∧
      (s.disagreeWith b).lastClaim = s.lastClaim ∧ (s.disagreeWith b).alt = s.alt ∧ (s.disagreeWith b).stg = s.stg ∧
      (s.disagreeWith b).snap = s.snap ∧ (s.disagreeWith b).rsv = s.rsv ∧ (s.disagreeWith b).prk = s.prk ∧
      (s.disagreeWith b).cfg = s.cfg ∧ (s.disagreeWith b).pending = s.pending ∧ (s.disagreeWith b).choices = s.choices := by
  simp only [State.disagreeWith]
  (repeat' split) <;> simp

@[simp] theorem State.maxSync_frame (s : State) (b e : Nat) :
    (s.maxSync b e).snap = s.snap ∧ (s.maxSync b e).cfg = s.cfg ∧ (s.maxSync b e).pending = s.pending := by
  simp only [State.maxSync]
  (repeat' split) <;> simp

@[simp] theorem State.deliverClaim_frame (s : State) (b e : Nat) (c : Claim) :
    (s.deliverClaim b e c).snap = s.snap ∧ (s.deliverClaim b e c).cfg = s.cfg ∧
      (s.deliverClaim b e c).pending = s.pending := by
  simp [State.deliverClaim]

@[simp] theorem State.counted_frame (s : State) :
    (s.counted).clk = s.clk ∧ (s.counted).lnk = s.lnk ∧ (s.counted).ptb = s.ptb ∧ (s.counted).ses = s.ses ∧
      (s.counted).lastClaim = s.lastClaim ∧ (s.counted).alt = s.alt ∧ (s.counted).stg = s.stg ∧
      (s.counted).snap = s.snap ∧ (s.counted).rsv = s.rsv ∧ (s.counted).prk = s.prk ∧ (s.counted).log = s.log ∧
      (s.counted).cfg = s.cfg ∧ (s.counted).pending = s.pending ∧ (s.counted).choices = s.choices := by
  simp [State.counted]

@[simp] theorem State.answerWith_frame (s : State) (k : Nat) (st : Status) (p : List Byte) :
    (s.answerWith k st p).clk = s.clk ∧ (s.answerWith k st p).lnk = s.lnk ∧ (s.answerWith k st p).ptb = s.ptb ∧
      (s.answerWith k st p).ses = s.ses ∧ (s.answerWith k st p).lastClaim = s.lastClaim ∧
      (s.answerWith k st p).alt = s.alt ∧ (s.answerWith k st p).stg = s.stg ∧ (s.answerWith k st p).snap = s.snap ∧
      (s.answerWith k st p).rsv = s.rsv ∧ (s.answerWith k st p).prk = s.prk ∧ (s.answerWith k st p).log = s.log ∧
      (s.answerWith k st p).cfg = s.cfg ∧ (s.answerWith k st p).pending = s.pending ∧
      (s.answerWith k st p).choices = s.choices := by
  simp [State.answerWith]

@[simp] theorem State.refuseFormat_frame (s : State) (bs : List Byte) :
    (s.refuseFormat bs).clk = s.clk ∧ (s.refuseFormat bs).lnk = s.lnk ∧ (s.refuseFormat bs).ptb = s.ptb ∧
      (s.refuseFormat bs).ses = s.ses ∧ (s.refuseFormat bs).lastClaim = s.lastClaim ∧
      (s.refuseFormat bs).alt = s.alt ∧ (s.refuseFormat bs).stg = s.stg ∧ (s.refuseFormat bs).snap = s.snap ∧
      (s.refuseFormat bs).rsv = s.rsv ∧ (s.refuseFormat bs).prk = s.prk ∧ (s.refuseFormat bs).log = s.log ∧
      (s.refuseFormat bs).cfg = s.cfg ∧ (s.refuseFormat bs).pending = s.pending ∧
      (s.refuseFormat bs).choices = s.choices := by
  simp [State.refuseFormat]

@[simp] theorem State.configureWith_frame (s : State) (r : ConfigRecord) :
    (s.configureWith r).clk = s.clk ∧ (s.configureWith r).ptb = s.ptb ∧ (s.configureWith r).ses = s.ses ∧
      (s.configureWith r).lastClaim = s.lastClaim ∧ (s.configureWith r).alt = s.alt ∧
      (s.configureWith r).snap = s.snap ∧ (s.configureWith r).rsv = s.rsv ∧ (s.configureWith r).prk = s.prk ∧
      (s.configureWith r).prt = s.prt ∧ (s.configureWith r).pending = s.pending ∧
      (s.configureWith r).choices = s.choices := by
  simp [State.configureWith]

@[simp] theorem State.setTimeTo_frame (s : State) (e : Nat) :
    (s.setTimeTo e).snap = s.snap ∧ (s.setTimeTo e).cfg = s.cfg ∧ (s.setTimeTo e).pending = s.pending := by
  simp [State.setTimeTo]

@[simp] theorem State.restoreLocal_frame (s : State) (e : ParkEntry) :
    (s.restoreLocal e).clk = s.clk ∧ (s.restoreLocal e).ptb = s.ptb ∧ (s.restoreLocal e).lastClaim = s.lastClaim ∧
      (s.restoreLocal e).alt = s.alt ∧ (s.restoreLocal e).snap = s.snap ∧ (s.restoreLocal e).rsv = s.rsv ∧
      (s.restoreLocal e).cfg = s.cfg ∧ (s.restoreLocal e).pending = s.pending ∧ (s.restoreLocal e).choices = s.choices := by
  simp [State.restoreLocal]

@[simp] theorem State.plugIn_frame (s : State) (p : PlugFields) :
    (s.plugIn p).clk = s.clk ∧ (s.plugIn p).lastClaim = s.lastClaim ∧ (s.plugIn p).alt = s.alt ∧
      (s.plugIn p).snap = s.snap ∧ (s.plugIn p).cfg = s.cfg ∧ (s.plugIn p).pending = s.pending ∧
      (s.plugIn p).choices = s.choices := by
  simp only [State.plugIn]
  (repeat' split) <;> simp

@[simp] theorem State.updateVehicle_frame (s : State) (a b c : Nat) :
    (s.updateVehicle a b c).clk = s.clk ∧ (s.updateVehicle a b c).lnk = s.lnk ∧ (s.updateVehicle a b c).ptb = s.ptb ∧
      (s.updateVehicle a b c).lastClaim = s.lastClaim ∧ (s.updateVehicle a b c).alt = s.alt ∧
      (s.updateVehicle a b c).snap = s.snap ∧ (s.updateVehicle a b c).rsv = s.rsv ∧
      (s.updateVehicle a b c).prk = s.prk ∧ (s.updateVehicle a b c).log = s.log ∧
      (s.updateVehicle a b c).prt = s.prt ∧ (s.updateVehicle a b c).cfg = s.cfg ∧
      (s.updateVehicle a b c).pending = s.pending ∧ (s.updateVehicle a b c).choices = s.choices := by
  simp [State.updateVehicle]

@[simp] theorem State.loadChain_frame (s : State) (ls : List NewLeg) :
    (s.loadChain ls).clk = s.clk ∧ (s.loadChain ls).lnk = s.lnk ∧ (s.loadChain ls).ptb = s.ptb ∧
      (s.loadChain ls).lastClaim = s.lastClaim ∧ (s.loadChain ls).alt = s.alt ∧ (s.loadChain ls).stg = s.stg ∧
      (s.loadChain ls).snap = s.snap ∧ (s.loadChain ls).rsv = s.rsv ∧ (s.loadChain ls).prk = s.prk ∧
      (s.loadChain ls).log = s.log ∧ (s.loadChain ls).prt = s.prt ∧ (s.loadChain ls).cfg = s.cfg ∧
      (s.loadChain ls).pending = s.pending ∧ (s.loadChain ls).choices = s.choices := by
  simp [State.loadChain]

@[simp] theorem State.unplugSettled_frame (s : State) (v : Session) :
    (s.unplugSettled v).clk = s.clk ∧ (s.unplugSettled v).lastClaim = s.lastClaim ∧
      (s.unplugSettled v).snap = s.snap ∧ (s.unplugSettled v).cfg = s.cfg ∧ (s.unplugSettled v).pending = s.pending ∧
      (s.unplugSettled v).choices = s.choices := by
  simp [State.unplugSettled]

@[simp] theorem State.unplugPending_frame (s : State) (v : Session) :
    (s.unplugPending v).clk = s.clk ∧ (s.unplugPending v).lastClaim = s.lastClaim ∧
      (s.unplugPending v).snap = s.snap ∧ (s.unplugPending v).cfg = s.cfg ∧ (s.unplugPending v).pending = s.pending ∧
      (s.unplugPending v).choices = s.choices := by
  simp only [State.unplugPending]
  (repeat' split) <;> simp

@[simp] theorem State.unplugNow_frame (s : State) :
    (s.unplugNow).clk = s.clk ∧ (s.unplugNow).lastClaim = s.lastClaim ∧ (s.unplugNow).snap = s.snap ∧
      (s.unplugNow).cfg = s.cfg ∧ (s.unplugNow).pending = s.pending ∧ (s.unplugNow).choices = s.choices := by
  simp only [State.unplugNow]
  (repeat' split) <;> simp

@[simp] theorem State.setHostDemand_frame (s : State) (d m : Nat) :
    (s.setHostDemand d m).clk = s.clk ∧ (s.setHostDemand d m).lnk = s.lnk ∧ (s.setHostDemand d m).ptb = s.ptb ∧
      (s.setHostDemand d m).ses = s.ses ∧ (s.setHostDemand d m).lastClaim = s.lastClaim ∧
      (s.setHostDemand d m).alt = s.alt ∧ (s.setHostDemand d m).stg = s.stg ∧ (s.setHostDemand d m).snap = s.snap ∧
      (s.setHostDemand d m).prk = s.prk ∧ (s.setHostDemand d m).log = s.log ∧ (s.setHostDemand d m).prt = s.prt ∧
      (s.setHostDemand d m).cfg = s.cfg ∧ (s.setHostDemand d m).pending = s.pending ∧
      (s.setHostDemand d m).choices = s.choices := by
  simp only [State.setHostDemand]
  (repeat' split) <;> simp

@[simp] theorem State.dispatchDemand_frame (s : State) (d m : Nat) :
    (s.dispatchDemand d m).clk = s.clk ∧ (s.dispatchDemand d m).ptb = s.ptb ∧ (s.dispatchDemand d m).ses = s.ses ∧
      (s.dispatchDemand d m).lastClaim = s.lastClaim ∧ (s.dispatchDemand d m).snap = s.snap ∧
      (s.dispatchDemand d m).prk = s.prk ∧ (s.dispatchDemand d m).cfg = s.cfg ∧
      (s.dispatchDemand d m).pending = s.pending ∧ (s.dispatchDemand d m).choices = s.choices := by
  simp only [State.dispatchDemand]
  (repeat' split) <;> simp

@[simp] theorem State.zeroCounters_frame (s : State) :
    (s.zeroCounters).clk = s.clk ∧ (s.zeroCounters).lnk = s.lnk ∧ (s.zeroCounters).ptb = s.ptb ∧
      (s.zeroCounters).ses = s.ses ∧ (s.zeroCounters).lastClaim = s.lastClaim ∧ (s.zeroCounters).alt = s.alt ∧
      (s.zeroCounters).stg = s.stg ∧ (s.zeroCounters).snap = s.snap ∧ (s.zeroCounters).rsv = s.rsv ∧
      (s.zeroCounters).prk = s.prk ∧ (s.zeroCounters).prt = s.prt ∧ (s.zeroCounters).cfg = s.cfg ∧
      (s.zeroCounters).pending = s.pending ∧ (s.zeroCounters).choices = s.choices := by
  simp [State.zeroCounters]

@[simp] theorem State.setMask_frame (s : State) (x : BitVec 24) :
    (s.setMask x).clk = s.clk ∧ (s.setMask x).lnk = s.lnk ∧ (s.setMask x).ptb = s.ptb ∧ (s.setMask x).ses = s.ses ∧
      (s.setMask x).lastClaim = s.lastClaim ∧ (s.setMask x).alt = s.alt ∧ (s.setMask x).stg = s.stg ∧
      (s.setMask x).snap = s.snap ∧ (s.setMask x).rsv = s.rsv ∧ (s.setMask x).prk = s.prk ∧
      (s.setMask x).log = s.log ∧ (s.setMask x).cfg = s.cfg ∧ (s.setMask x).pending = s.pending ∧
      (s.setMask x).choices = s.choices := by
  simp [State.setMask]

@[simp] theorem State.takeSnapshot_frame (s : State) :
    (s.takeSnapshot).clk = s.clk ∧ (s.takeSnapshot).lnk = s.lnk ∧ (s.takeSnapshot).ptb = s.ptb ∧
      (s.takeSnapshot).ses = s.ses ∧ (s.takeSnapshot).lastClaim = s.lastClaim ∧ (s.takeSnapshot).alt = s.alt ∧
      (s.takeSnapshot).stg = s.stg ∧ (s.takeSnapshot).rsv = s.rsv ∧ (s.takeSnapshot).prk = s.prk ∧
      (s.takeSnapshot).log = s.log ∧ (s.takeSnapshot).prt = s.prt ∧ (s.takeSnapshot).cfg = s.cfg ∧
      (s.takeSnapshot).pending = s.pending ∧ (s.takeSnapshot).choices = s.choices := by
  simp [State.takeSnapshot]

@[simp] theorem State.resetBlocks_frame (s : State) :
    (s.resetBlocks).ses = s.ses ∧ (s.resetBlocks).snap = s.snap ∧ (s.resetBlocks).prk = s.prk ∧
      (s.resetBlocks).prt = s.prt ∧ (s.resetBlocks).pending = s.pending ∧ (s.resetBlocks).choices = s.choices := by
  simp [State.resetBlocks]

@[simp] theorem State.parkAtReset_frame (s : State) (h : Nat) :
    (s.parkAtReset h).clk = s.clk ∧ (s.parkAtReset h).ptb = s.ptb ∧ (s.parkAtReset h).lastClaim = s.lastClaim ∧
      (s.parkAtReset h).alt = s.alt ∧ (s.parkAtReset h).snap = s.snap ∧ (s.parkAtReset h).rsv = s.rsv ∧
      (s.parkAtReset h).cfg = s.cfg ∧ (s.parkAtReset h).pending = s.pending ∧ (s.parkAtReset h).choices = s.choices := by
  simp only [State.parkAtReset]
  (repeat' split) <;> simp

@[simp] theorem State.answerReady_frame (s : State) :
    (s.answerReady).clk = s.clk ∧ (s.answerReady).lnk = s.lnk ∧ (s.answerReady).ptb = s.ptb ∧
      (s.answerReady).ses = s.ses ∧ (s.answerReady).lastClaim = s.lastClaim ∧ (s.answerReady).alt = s.alt ∧
      (s.answerReady).stg = s.stg ∧ (s.answerReady).snap = s.snap ∧ (s.answerReady).rsv = s.rsv ∧
      (s.answerReady).prk = s.prk ∧ (s.answerReady).log = s.log ∧ (s.answerReady).cfg = s.cfg ∧
      (s.answerReady).pending = s.pending ∧ (s.answerReady).choices = s.choices := by
  simp [State.answerReady]

@[simp] theorem State.resetBay_frame (s : State) :
    (s.resetBay).snap = s.snap ∧ (s.resetBay).pending = s.pending ∧ (s.resetBay).choices = s.choices := by
  simp [State.resetBay]

end Sys2Proof.Machine
end

