-- ==== Sys2Proof/Laws/SubFrames.lean ====
section
/-!
SUPPORT. The finer frames of the shared operations: of a block that an operation changes, the registers that it leaves as they
were; one lemma for each operation.
-/

namespace Sys2Proof.Machine

@[simp] theorem Clk.aged_epoch (c : Clk) : c.aged.epoch = c.epoch := rfl
@[simp] theorem Clk.aged_tick (c : Clk) : c.aged.tick = c.tick := rfl
@[simp] theorem Clk.aged_set (c : Clk) : c.aged.set = c.set := rfl
@[simp] theorem Clk.aged_tickOwed (c : Clk) : c.aged.tickOwed = c.tickOwed := rfl

@[simp] theorem State.raise_keeps (s : State) (n : Notice) :
    (s.raise n).prt.answer = s.prt.answer ∧ (s.raise n).prt.response = s.prt.response ∧ (s.raise n).prt.mask = s.prt.mask := by
  simp only [State.raise]
  (repeat' split) <;> simp

@[simp] theorem State.store_keeps (s : State) (r : LogRecord) :
    (s.store r).log.mask = s.log.mask ∧ (s.store r).log.counters.length = s.log.counters.length ∧
      (s.store r).prt.answer = s.prt.answer ∧ (s.store r).prt.response = s.prt.response ∧ (s.store r).prt.mask = s.prt.mask := by
  simp only [State.store]
  (repeat' split) <;> simp

@[simp] theorem State.capture_keeps (s : State) (c : Cause) (d : BitVec 32) (b : Option Nat) :
    (s.capture c d b).log.mask = s.log.mask ∧ (s.capture c d b).log.counters.length = s.log.counters.length ∧
      (s.capture c d b).prt.answer = s.prt.answer ∧ (s.capture c d b).prt.response = s.prt.response ∧
      (s.capture c d b).prt.mask = s.prt.mask := by
  simp only [State.capture]
  (repeat' split) <;> simp [Log.count]

@[simp] theorem State.captureNat_keeps (s : State) (c : Cause) (d : Nat) :
    (s.captureNat c d).log.mask = s.log.mask ∧ (s.captureNat c d).log.counters.length = s.log.counters.length ∧
      (s.captureNat c d).prt.answer = s.prt.answer ∧ (s.captureNat c d).prt.response = s.prt.response ∧
      (s.captureNat c d).prt.mask = s.prt.mask := by
  simp only [State.captureNat]
  (repeat' split) <;> simp

@[simp] theorem State.clearNotices_keeps (s : State) (x : BitVec 20) :
    (s.clearNotices x).prt.answer = s.prt.answer ∧ (s.clearNotices x).prt.response = s.prt.response ∧
      (s.clearNotices x).prt.mask = s.prt.mask := by
  simp only [State.clearNotices]
  (repeat' split) <;> simp

@[simp] theorem State.closeFilling_keeps (s : State) :
    s.closeFilling.log.mask = s.log.mask ∧ s.closeFilling.log.counters.length = s.log.counters.length ∧
      s.closeFilling.prt.answer = s.prt.answer ∧ s.closeFilling.prt.response = s.prt.response ∧
      s.closeFilling.prt.mask = s.prt.mask := by
  simp only [State.closeFilling]
  (repeat' split) <;> simp

@[simp] theorem State.releaseFull_keeps (s : State) (b : Nat) :
    (s.releaseFull b).log.mask = s.log.mask ∧ (s.releaseFull b).log.counters.length = s.log.counters.length := by
  simp only [State.releaseFull]
  (repeat' split) <;> simp

@[simp] theorem State.follow_keeps (s : State) :
    s.follow.stg.seq = s.stg.seq ∧ s.follow.stg.answer = s.stg.answer ∧ s.follow.stg.gap = s.stg.gap ∧
      s.follow.stg.measured = s.stg.measured ∧ s.follow.stg.volts = s.stg.volts ∧ s.follow.stg.isOpen = s.stg.isOpen ∧
      s.follow.stg.meterLost = s.stg.meterLost ∧ s.follow.stg.stageFault = s.stg.stageFault ∧ s.follow.stg.sent = s.stg.sent := by
  simp only [State.follow]
  (repeat' split) <;> simp

@[simp] theorem State.setGrant_keeps (s : State) (g : Nat) :
    (s.setGrant g).alt.result = s.alt.result ∧ (s.setGrant g).alt.flight = s.alt.flight ∧
      (s.setGrant g).rsv.freq = s.rsv.freq ∧ (s.setGrant g).rsv.edgeSeen = s.rsv.edgeSeen ∧
      (s.setGrant g).rsv.edgeWatch = s.rsv.edgeWatch ∧ (s.setGrant g).rsv.senseFault = s.rsv.senseFault ∧
      (s.setGrant g).rsv.hostDemand = s.rsv.hostDemand ∧ (s.setGrant g).rsv.hostDuration = s.rsv.hostDuration ∧
      (s.setGrant g).rsv.ownSeq = s.rsv.ownSeq ∧ (s.setGrant g).rsv.lastSeq = s.rsv.lastSeq ∧
      (s.setGrant g).rsv.holder = s.rsv.holder ∧ (s.setGrant g).rsv.active = s.rsv.active ∧
      (s.setGrant g).rsv.dActive = s.rsv.dActive ∧ (s.setGrant g).rsv.remaining = s.rsv.remaining ∧
      (s.setGrant g).rsv.refresh = s.rsv.refresh ∧ (s.setGrant g).rsv.members = s.rsv.members ∧
      (s.setGrant g).rsv.origin = s.rsv.origin ∧ (s.setGrant g).rsv.ownPledge = s.rsv.ownPledge ∧
      (s.setGrant g).rsv.standing = s.rsv.standing ∧ (s.setGrant g).rsv.share = s.rsv.share ∧
      (s.setGrant g).rsv.shareSum = s.rsv.shareSum ∧ (s.setGrant g).rsv.shortfall = s.rsv.shortfall ∧
      (s.setGrant g).stg.seq = s.stg.seq ∧ (s.setGrant g).stg.answer = s.stg.answer ∧ (s.setGrant g).stg.gap = s.stg.gap ∧
      (s.setGrant g).stg.measured = s.stg.measured ∧ (s.setGrant g).stg.volts = s.stg.volts ∧
      (s.setGrant g).stg.isOpen = s.stg.isOpen ∧ (s.setGrant g).stg.meterLost = s.stg.meterLost ∧
      (s.setGrant g).stg.stageFault = s.stg.stageFault ∧ (s.setGrant g).stg.sent = s.stg.sent := by
  simp only [State.setGrant]
  (repeat' split) <;> simp

@[simp] theorem State.capIsolated_keeps (s : State) :
    s.capIsolated.alt.result = s.alt.result ∧ s.capIsolated.alt.flight = s.alt.flight ∧ s.capIsolated.rsv.freq = s.rsv.freq ∧
      s.capIsolated.rsv.edgeSeen = s.rsv.edgeSeen ∧ s.capIsolated.rsv.edgeWatch = s.rsv.edgeWatch ∧
      s.capIsolated.rsv.senseFault = s.rsv.senseFault ∧ s.capIsolated.rsv.hostDemand = s.rsv.hostDemand ∧
      s.capIsolated.rsv.hostDuration = s.rsv.hostDuration ∧ s.capIsolated.rsv.ownSeq = s.rsv.ownSeq ∧
      s.capIsolated.rsv.lastSeq = s.rsv.lastSeq ∧ s.capIsolated.rsv.holder = s.rsv.holder ∧
      s.capIsolated.rsv.active = s.rsv.active ∧ s.capIsolated.rsv.dActive = s.rsv.dActive ∧
      s.capIsolated.rsv.remaining = s.rsv.remaining ∧ s.capIsolated.rsv.refresh = s.rsv.refresh ∧
      s.capIsolated.rsv.members = s.rsv.members ∧ s.capIsolated.rsv.origin = s.rsv.origin ∧
      s.capIsolated.rsv.ownPledge = s.rsv.ownPledge ∧ s.capIsolated.rsv.standing = s.rsv.standing ∧
      s.capIsolated.rsv.share = s.rsv.share ∧ s.capIsolated.rsv.shareSum = s.rsv.shareSum ∧
      s.capIsolated.rsv.shortfall = s.rsv.shortfall ∧ s.capIsolated.stg.seq = s.stg.seq ∧
      s.capIsolated.stg.answer = s.stg.answer ∧ s.capIsolated.stg.gap = s.stg.gap ∧
      s.capIsolated.stg.measured = s.stg.measured ∧ s.capIsolated.stg.volts = s.stg.volts ∧
      s.capIsolated.stg.isOpen = s.stg.isOpen ∧ s.capIsolated.stg.meterLost = s.stg.meterLost ∧
      s.capIsolated.stg.stageFault = s.stg.stageFault ∧ s.capIsolated.stg.sent = s.stg.sent := by
  simp only [State.capIsolated]
  (repeat' split) <;> simp

@[simp] theorem State.rechoose_keeps (s : State) :
    s.rechoose.lnk.station = s.lnk.station ∧ s.rechoose.lnk.listening = s.lnk.listening ∧
      s.rechoose.lnk.streak = s.lnk.streak ∧ s.rechoose.lnk.dupBay = s.lnk.dupBay ∧ s.rechoose.lnk.lineIdle = s.lnk.lineIdle ∧
      s.rechoose.lnk.armed = s.lnk.armed ∧ s.rechoose.lnk.queue = s.lnk.queue := by
  simp only [State.rechoose]
  (repeat' split) <;> simp

@[simp] theorem State.queueChanged_keeps (s : State) (k : FrameKey) :
    (s.queueChanged k).lnk.station = s.lnk.station ∧ (s.queueChanged k).lnk.listening = s.lnk.listening ∧
      (s.queueChanged k).lnk.streak = s.lnk.streak ∧ (s.queueChanged k).lnk.dupBay = s.lnk.dupBay ∧
      (s.queueChanged k).lnk.lineIdle = s.lnk.lineIdle ∧ (s.queueChanged k).lnk.armed = s.lnk.armed ∧
      (s.queueChanged k).lnk.queue = s.lnk.queue := by
  simp only [State.queueChanged]
  (repeat' split) <;> simp

@[simp] theorem State.enqueue_keeps (s : State) (f : Frame) :
    (s.enqueue f).lnk.station = s.lnk.station ∧ (s.enqueue f).lnk.listening = s.lnk.listening ∧
      (s.enqueue f).lnk.streak = s.lnk.streak ∧ (s.enqueue f).lnk.dupBay = s.lnk.dupBay ∧
      (s.enqueue f).lnk.lineIdle = s.lnk.lineIdle ∧ (s.enqueue f).lnk.armed = s.lnk.armed := by
  simp only [State.enqueue]
  (repeat' split) <;> simp

@[simp] theorem State.dequeue_keeps (s : State) (k : FrameKey) :
    (s.dequeue k).lnk.station = s.lnk.station ∧ (s.dequeue k).lnk.listening = s.lnk.listening ∧
      (s.dequeue k).lnk.streak = s.lnk.streak ∧ (s.dequeue k).lnk.dupBay = s.lnk.dupBay ∧
      (s.dequeue k).lnk.lineIdle = s.lnk.lineIdle ∧ (s.dequeue k).lnk.armed = s.lnk.armed := by
  simp only [State.dequeue]
  (repeat' split) <;> simp

@[simp] theorem State.expireTaken_keeps (s : State) :
    s.expireTaken.lnk.station = s.lnk.station ∧ s.expireTaken.lnk.listening = s.lnk.listening ∧
      s.expireTaken.lnk.streak = s.lnk.streak ∧ s.expireTaken.lnk.dupBay = s.lnk.dupBay ∧
      s.expireTaken.lnk.lineIdle = s.lnk.lineIdle ∧ s.expireTaken.lnk.armed = s.lnk.armed := by
  simp only [State.expireTaken]
  (repeat' split) <;> simp

@[simp] theorem State.enterIsolated_keeps (s : State) :
    s.enterIsolated.lnk.listening = s.lnk.listening ∧ s.enterIsolated.lnk.streak = s.lnk.streak ∧
      s.enterIsolated.lnk.dupBay = s.lnk.dupBay ∧ s.enterIsolated.lnk.lineIdle = s.lnk.lineIdle ∧
      s.enterIsolated.lnk.armed = s.lnk.armed ∧ s.enterIsolated.lnk.queue = s.lnk.queue ∧
      s.enterIsolated.alt.result = s.alt.result ∧ s.enterIsolated.alt.flight = s.alt.flight ∧
      s.enterIsolated.rsv.freq = s.rsv.freq ∧ s.enterIsolated.rsv.edgeSeen = s.rsv.edgeSeen ∧
      s.enterIsolated.rsv.edgeWatch = s.rsv.edgeWatch ∧ s.enterIsolated.rsv.senseFault = s.rsv.senseFault ∧
      s.enterIsolated.rsv.hostDemand = s.rsv.hostDemand ∧ s.enterIsolated.rsv.hostDuration = s.rsv.hostDuration ∧
      s.enterIsolated.rsv.ownSeq = s.rsv.ownSeq ∧ s.enterIsolated.rsv.lastSeq = s.rsv.lastSeq ∧
      s.enterIsolated.rsv.holder = s.rsv.holder ∧ s.enterIsolated.rsv.active = s.rsv.active ∧
      s.enterIsolated.rsv.dActive = s.rsv.dActive ∧ s.enterIsolated.rsv.remaining = s.rsv.remaining ∧
      s.enterIsolated.rsv.refresh = s.rsv.refresh ∧ s.enterIsolated.rsv.members = s.rsv.members ∧
      s.enterIsolated.rsv.origin = s.rsv.origin ∧ s.enterIsolated.rsv.ownPledge = s.rsv.ownPledge ∧
      s.enterIsolated.rsv.standing = s.rsv.standing ∧ s.enterIsolated.rsv.share = s.rsv.share ∧
      s.enterIsolated.rsv.shareSum = s.rsv.shareSum ∧ s.enterIsolated.rsv.shortfall = s.rsv.shortfall ∧
      s.enterIsolated.stg.seq = s.stg.seq ∧ s.enterIsolated.stg.answer = s.stg.answer ∧ s.enterIsolated.stg.gap = s.stg.gap ∧
      s.enterIsolated.stg.measured = s.stg.measured ∧ s.enterIsolated.stg.volts = s.stg.volts ∧
      s.enterIsolated.stg.isOpen = s.stg.isOpen ∧ s.enterIsolated.stg.meterLost = s.stg.meterLost ∧
      s.enterIsolated.stg.stageFault = s.stg.stageFault ∧ s.enterIsolated.stg.sent = s.stg.sent ∧
      s.enterIsolated.log.mask = s.log.mask ∧ s.enterIsolated.log.counters.length = s.log.counters.length ∧
      s.enterIsolated.prt.answer = s.prt.answer ∧ s.enterIsolated.prt.response = s.prt.response ∧
      s.enterIsolated.prt.mask = s.prt.mask := by
  simp only [State.enterIsolated]
  (repeat' split) <;> simp

@[simp] theorem State.missEpoch_keeps (s : State) :
    s.missEpoch.lnk.listening = s.lnk.listening ∧ s.missEpoch.lnk.dupBay = s.lnk.dupBay ∧
      s.missEpoch.lnk.lineIdle = s.lnk.lineIdle ∧ s.missEpoch.lnk.armed = s.lnk.armed ∧ s.missEpoch.lnk.queue = s.lnk.queue ∧
      s.missEpoch.alt.result = s.alt.result ∧ s.missEpoch.alt.flight = s.alt.flight ∧ s.missEpoch.rsv.freq = s.rsv.freq ∧
      s.missEpoch.rsv.edgeSeen = s.rsv.edgeSeen ∧ s.missEpoch.rsv.edgeWatch = s.rsv.edgeWatch ∧
      s.missEpoch.rsv.senseFault = s.rsv.senseFault ∧ s.missEpoch.rsv.hostDemand = s.rsv.hostDemand ∧
      s.missEpoch.rsv.hostDuration = s.rsv.hostDuration ∧ s.missEpoch.rsv.ownSeq = s.rsv.ownSeq ∧
      s.missEpoch.rsv.lastSeq = s.rsv.lastSeq ∧ s.missEpoch.rsv.holder = s.rsv.holder ∧
      s.missEpoch.rsv.active = s.rsv.active ∧ s.missEpoch.rsv.dActive = s.rsv.dActive ∧
      s.missEpoch.rsv.remaining = s.rsv.remaining ∧ s.missEpoch.rsv.refresh = s.rsv.refresh ∧
      s.missEpoch.rsv.members = s.rsv.members ∧ s.missEpoch.rsv.origin = s.rsv.origin ∧
      s.missEpoch.rsv.ownPledge = s.rsv.ownPledge ∧ s.missEpoch.rsv.standing = s.rsv.standing ∧
      s.missEpoch.rsv.share = s.rsv.share ∧ s.missEpoch.rsv.shareSum = s.rsv.shareSum ∧
      s.missEpoch.rsv.shortfall = s.rsv.shortfall ∧ s.missEpoch.stg.seq = s.stg.seq ∧ s.missEpoch.stg.answer = s.stg.answer ∧
      s.missEpoch.stg.gap = s.stg.gap ∧ s.missEpoch.stg.measured = s.stg.measured ∧ s.missEpoch.stg.volts = s.stg.volts ∧
      s.missEpoch.stg.isOpen = s.stg.isOpen ∧ s.missEpoch.stg.meterLost = s.stg.meterLost ∧
      s.missEpoch.stg.stageFault = s.stg.stageFault ∧ s.missEpoch.stg.sent = s.stg.sent ∧ s.missEpoch.log.mask = s.log.mask ∧
      s.missEpoch.log.counters.length = s.log.counters.length ∧ s.missEpoch.prt.answer = s.prt.answer ∧
      s.missEpoch.prt.response = s.prt.response ∧ s.missEpoch.prt.mask = s.prt.mask := by
  simp only [State.missEpoch]
  (repeat' split) <;> simp

@[simp] theorem State.listeningBoundary_keeps (s : State) :
    s.listeningBoundary.lnk.streak = s.lnk.streak ∧ s.listeningBoundary.lnk.dupBay = s.lnk.dupBay ∧
      s.listeningBoundary.lnk.lineIdle = s.lnk.lineIdle ∧ s.listeningBoundary.lnk.armed = s.lnk.armed ∧
      s.listeningBoundary.lnk.queue = s.lnk.queue ∧ s.listeningBoundary.alt.result = s.alt.result ∧
      s.listeningBoundary.alt.flight = s.alt.flight ∧ s.listeningBoundary.rsv.freq = s.rsv.freq ∧
      s.listeningBoundary.rsv.edgeSeen = s.rsv.edgeSeen ∧ s.listeningBoundary.rsv.edgeWatch = s.rsv.edgeWatch ∧
      s.listeningBoundary.rsv.senseFault = s.rsv.senseFault ∧ s.listeningBoundary.rsv.hostDemand = s.rsv.hostDemand ∧
      s.listeningBoundary.rsv.hostDuration = s.rsv.hostDuration ∧ s.listeningBoundary.rsv.ownSeq = s.rsv.ownSeq ∧
      s.listeningBoundary.rsv.lastSeq = s.rsv.lastSeq ∧ s.listeningBoundary.rsv.holder = s.rsv.holder ∧
      s.listeningBoundary.rsv.active = s.rsv.active ∧ s.listeningBoundary.rsv.dActive = s.rsv.dActive ∧
      s.listeningBoundary.rsv.remaining = s.rsv.remaining ∧ s.listeningBoundary.rsv.refresh = s.rsv.refresh ∧
      s.listeningBoundary.rsv.members = s.rsv.members ∧ s.listeningBoundary.rsv.origin = s.rsv.origin ∧
      s.listeningBoundary.rsv.ownPledge = s.rsv.ownPledge ∧ s.listeningBoundary.rsv.standing = s.rsv.standing ∧
      s.listeningBoundary.rsv.share = s.rsv.share ∧ s.listeningBoundary.rsv.shareSum = s.rsv.shareSum ∧
      s.listeningBoundary.rsv.shortfall = s.rsv.shortfall ∧ s.listeningBoundary.stg.seq = s.stg.seq ∧
      s.listeningBoundary.stg.answer = s.stg.answer ∧ s.listeningBoundary.stg.gap = s.stg.gap ∧
      s.listeningBoundary.stg.measured = s.stg.measured ∧ s.listeningBoundary.stg.volts = s.stg.volts ∧
      s.listeningBoundary.stg.isOpen = s.stg.isOpen ∧ s.listeningBoundary.stg.meterLost = s.stg.meterLost ∧
      s.listeningBoundary.stg.stageFault = s.stg.stageFault ∧ s.listeningBoundary.stg.sent = s.stg.sent ∧
      s.listeningBoundary.log.mask = s.log.mask ∧ s.listeningBoundary.log.counters.length = s.log.counters.length ∧
      s.listeningBoundary.prt.answer = s.prt.answer ∧ s.listeningBoundary.prt.response = s.prt.response ∧
      s.listeningBoundary.prt.mask = s.prt.mask := by
  simp only [State.listeningBoundary]
  (repeat' split) <;> simp

@[simp] theorem State.claimBoundary_keeps (s : State) :
    s.claimBoundary.lnk.listening = s.lnk.listening ∧ s.claimBoundary.lnk.dupBay = s.lnk.dupBay ∧
      s.claimBoundary.lnk.lineIdle = s.lnk.lineIdle ∧ s.claimBoundary.lnk.armed = s.lnk.armed ∧
      s.claimBoundary.alt.result = s.alt.result ∧ s.claimBoundary.alt.flight = s.alt.flight ∧
      s.claimBoundary.rsv.freq = s.rsv.freq ∧ s.claimBoundary.rsv.edgeSeen = s.rsv.edgeSeen ∧
      s.claimBoundary.rsv.edgeWatch = s.rsv.edgeWatch ∧ s.claimBoundary.rsv.senseFault = s.rsv.senseFault ∧
      s.claimBoundary.rsv.hostDemand = s.rsv.hostDemand ∧ s.claimBoundary.rsv.hostDuration = s.rsv.hostDuration ∧
      s.claimBoundary.rsv.ownSeq = s.rsv.ownSeq ∧ s.claimBoundary.rsv.lastSeq = s.rsv.lastSeq ∧
      s.claimBoundary.rsv.holder = s.rsv.holder ∧ s.claimBoundary.rsv.active = s.rsv.active ∧
      s.claimBoundary.rsv.dActive = s.rsv.dActive ∧ s.claimBoundary.rsv.remaining = s.rsv.remaining ∧
      s.claimBoundary.rsv.refresh = s.rsv.refresh ∧ s.claimBoundary.rsv.members = s.rsv.members ∧
      s.claimBoundary.rsv.origin = s.rsv.origin ∧ s.claimBoundary.rsv.ownPledge = s.rsv.ownPledge ∧
      s.claimBoundary.rsv.standing = s.rsv.standing ∧ s.claimBoundary.rsv.share = s.rsv.share ∧
      s.claimBoundary.rsv.shareSum = s.rsv.shareSum ∧ s.claimBoundary.rsv.shortfall = s.rsv.shortfall ∧
      s.claimBoundary.stg.seq = s.stg.seq ∧ s.claimBoundary.stg.answer = s.stg.answer ∧ s.claimBoundary.stg.gap = s.stg.gap ∧
      s.claimBoundary.stg.measured = s.stg.measured ∧ s.claimBoundary.stg.volts = s.stg.volts ∧
      s.claimBoundary.stg.isOpen = s.stg.isOpen ∧ s.claimBoundary.stg.meterLost = s.stg.meterLost ∧
      s.claimBoundary.stg.stageFault = s.stg.stageFault ∧ s.claimBoundary.stg.sent = s.stg.sent ∧
      s.claimBoundary.log.mask = s.log.mask ∧ s.claimBoundary.log.counters.length = s.log.counters.length ∧
      s.claimBoundary.prt.answer = s.prt.answer ∧ s.claimBoundary.prt.response = s.prt.response ∧
      s.claimBoundary.prt.mask = s.prt.mask := by
  simp only [State.claimBoundary]
  (repeat' split) <;> simp

@[simp] theorem State.lnkBoundary_keeps (s : State) :
    s.lnkBoundary.lnk.dupBay = s.lnk.dupBay ∧ s.lnkBoundary.lnk.lineIdle = s.lnk.lineIdle ∧
      s.lnkBoundary.lnk.armed = s.lnk.armed ∧ s.lnkBoundary.alt.result = s.alt.result ∧
      s.lnkBoundary.alt.flight = s.alt.flight ∧ s.lnkBoundary.rsv.freq = s.rsv.freq ∧
      s.lnkBoundary.rsv.edgeSeen = s.rsv.edgeSeen ∧ s.lnkBoundary.rsv.edgeWatch = s.rsv.edgeWatch ∧
      s.lnkBoundary.rsv.senseFault = s.rsv.senseFault ∧ s.lnkBoundary.rsv.hostDemand = s.rsv.hostDemand ∧
      s.lnkBoundary.rsv.hostDuration = s.rsv.hostDuration ∧ s.lnkBoundary.rsv.ownSeq = s.rsv.ownSeq ∧
      s.lnkBoundary.rsv.lastSeq = s.rsv.lastSeq ∧ s.lnkBoundary.rsv.holder = s.rsv.holder ∧
      s.lnkBoundary.rsv.active = s.rsv.active ∧ s.lnkBoundary.rsv.dActive = s.rsv.dActive ∧
      s.lnkBoundary.rsv.remaining = s.rsv.remaining ∧ s.lnkBoundary.rsv.refresh = s.rsv.refresh ∧
      s.lnkBoundary.rsv.members = s.rsv.members ∧ s.lnkBoundary.rsv.origin = s.rsv.origin ∧
      s.lnkBoundary.rsv.ownPledge = s.rsv.ownPledge ∧ s.lnkBoundary.rsv.standing = s.rsv.standing ∧
      s.lnkBoundary.rsv.share = s.rsv.share ∧ s.lnkBoundary.rsv.shareSum = s.rsv.shareSum ∧
      s.lnkBoundary.rsv.shortfall = s.rsv.shortfall ∧ s.lnkBoundary.stg.seq = s.stg.seq ∧
      s.lnkBoundary.stg.answer = s.stg.answer ∧ s.lnkBoundary.stg.gap = s.stg.gap ∧
      s.lnkBoundary.stg.measured = s.stg.measured ∧ s.lnkBoundary.stg.volts = s.stg.volts ∧
      s.lnkBoundary.stg.isOpen = s.stg.isOpen ∧ s.lnkBoundary.stg.meterLost = s.stg.meterLost ∧
      s.lnkBoundary.stg.stageFault = s.stg.stageFault ∧ s.lnkBoundary.stg.sent = s.stg.sent ∧
      s.lnkBoundary.log.mask = s.log.mask ∧ s.lnkBoundary.log.counters.length = s.log.counters.length ∧
      s.lnkBoundary.prt.answer = s.prt.answer ∧ s.lnkBoundary.prt.response = s.prt.response ∧
      s.lnkBoundary.prt.mask = s.prt.mask := by
  simp only [State.lnkBoundary]
  (repeat' split) <;> simp

@[simp] theorem State.beginDriving_keeps (s : State) :
    s.beginDriving.lnk.station = s.lnk.station ∧ s.beginDriving.lnk.listening = s.lnk.listening ∧
      s.beginDriving.lnk.streak = s.lnk.streak ∧ s.beginDriving.lnk.dupBay = s.lnk.dupBay ∧
      s.beginDriving.lnk.queue = s.lnk.queue ∧ s.beginDriving.lnk.lineIdle = s.lnk.lineIdle := by
  simp only [State.beginDriving]
  (repeat' split) <;> simp

@[simp] theorem State.stopDriving_keeps (s : State) (q : List QEntry) :
    (s.stopDriving q).lnk.station = s.lnk.station ∧ (s.stopDriving q).lnk.listening = s.lnk.listening ∧
      (s.stopDriving q).lnk.streak = s.lnk.streak ∧ (s.stopDriving q).lnk.dupBay = s.lnk.dupBay ∧
      (s.stopDriving q).lnk.lineIdle = s.lnk.lineIdle ∧ (s.stopDriving q).lnk.armed = s.lnk.armed := by
  simp only [State.stopDriving]
  (repeat' split) <;> simp

@[simp] theorem State.claimSent_keeps (s : State) :
    s.claimSent.lnk.listening = s.lnk.listening ∧ s.claimSent.lnk.dupBay = s.lnk.dupBay ∧
      s.claimSent.lnk.lineIdle = s.lnk.lineIdle ∧ s.claimSent.lnk.armed = s.lnk.armed ∧ s.claimSent.lnk.queue = s.lnk.queue := by
  simp only [State.claimSent]
  (repeat' split) <;> simp

@[simp] theorem State.sentWhole_keeps (s : State) :
    s.sentWhole.lnk.listening = s.lnk.listening ∧ s.sentWhole.lnk.dupBay = s.lnk.dupBay ∧
      s.sentWhole.lnk.armed = s.lnk.armed := by
  simp only [State.sentWhole]
  (repeat' split) <;> simp

/-- A frame sent whole leaves the line busy (R14, R191). -/
theorem State.sentWhole_lineIdle (s : State) (h : s.lnk.access.isSending = true) : s.sentWhole.lnk.lineIdle = false := by
  simp only [State.sentWhole]
  split
  · split <;> simp
  · simp_all [Access.isSending]

@[simp] theorem State.collided_keeps (s : State) :
    s.collided.lnk.listening = s.lnk.listening ∧ s.collided.lnk.dupBay = s.lnk.dupBay ∧
      s.collided.lnk.lineIdle = s.lnk.lineIdle ∧ s.collided.lnk.armed = s.lnk.armed ∧ s.collided.alt.result = s.alt.result ∧
      s.collided.alt.flight = s.alt.flight ∧ s.collided.rsv.freq = s.rsv.freq ∧ s.collided.rsv.edgeSeen = s.rsv.edgeSeen ∧
      s.collided.rsv.edgeWatch = s.rsv.edgeWatch ∧ s.collided.rsv.senseFault = s.rsv.senseFault ∧
      s.collided.rsv.hostDemand = s.rsv.hostDemand ∧ s.collided.rsv.hostDuration = s.rsv.hostDuration ∧
      s.collided.rsv.ownSeq = s.rsv.ownSeq ∧ s.collided.rsv.lastSeq = s.rsv.lastSeq ∧ s.collided.rsv.holder = s.rsv.holder ∧
      s.collided.rsv.active = s.rsv.active ∧ s.collided.rsv.dActive = s.rsv.dActive ∧
      s.collided.rsv.remaining = s.rsv.remaining ∧ s.collided.rsv.refresh = s.rsv.refresh ∧
      s.collided.rsv.members = s.rsv.members ∧ s.collided.rsv.origin = s.rsv.origin ∧
      s.collided.rsv.ownPledge = s.rsv.ownPledge ∧ s.collided.rsv.standing = s.rsv.standing ∧
      s.collided.rsv.share = s.rsv.share ∧ s.collided.rsv.shareSum = s.rsv.shareSum ∧
      s.collided.rsv.shortfall = s.rsv.shortfall ∧ s.collided.stg.seq = s.stg.seq ∧ s.collided.stg.answer = s.stg.answer ∧
      s.collided.stg.gap = s.stg.gap ∧ s.collided.stg.measured = s.stg.measured ∧ s.collided.stg.volts = s.stg.volts ∧
      s.collided.stg.isOpen = s.stg.isOpen ∧ s.collided.stg.meterLost = s.stg.meterLost ∧
      s.collided.stg.stageFault = s.stg.stageFault ∧ s.collided.stg.sent = s.stg.sent ∧ s.collided.log.mask = s.log.mask ∧
      s.collided.log.counters.length = s.log.counters.length ∧ s.collided.prt.answer = s.prt.answer ∧
      s.collided.prt.response = s.prt.response ∧ s.collided.prt.mask = s.prt.mask := by
  simp only [State.collided]
  (repeat' split) <;> simp

@[simp] theorem State.lineFallsIdle_keeps (s : State) :
    s.lineFallsIdle.lnk.station = s.lnk.station ∧ s.lineFallsIdle.lnk.listening = s.lnk.listening ∧
      s.lineFallsIdle.lnk.streak = s.lnk.streak ∧ s.lineFallsIdle.lnk.dupBay = s.lnk.dupBay ∧
      s.lineFallsIdle.lnk.queue = s.lnk.queue := by
  simp only [State.lineFallsIdle]
  (repeat' split) <;> simp

@[simp] theorem State.lineGetsBusy_keeps (s : State) :
    s.lineGetsBusy.lnk.station = s.lnk.station ∧ s.lineGetsBusy.lnk.listening = s.lnk.listening ∧
      s.lineGetsBusy.lnk.streak = s.lnk.streak ∧ s.lineGetsBusy.lnk.dupBay = s.lnk.dupBay ∧
      s.lineGetsBusy.lnk.lineIdle = false ∧ s.lineGetsBusy.lnk.queue = s.lnk.queue := by
  simp only [State.lineGetsBusy]
  (repeat' split) <;> simp

@[simp] theorem State.dropFrame_keeps (s : State) :
    s.dropFrame.log.mask = s.log.mask ∧ s.dropFrame.log.counters.length = s.log.counters.length ∧
      s.dropFrame.prt.answer = s.prt.answer ∧ s.dropFrame.prt.response = s.prt.response ∧ s.dropFrame.prt.mask = s.prt.mask := by
  simp only [State.dropFrame]
  (repeat' split) <;> simp

@[simp] theorem State.hearOwnBay_keeps (s : State) :
    s.hearOwnBay.lnk.listening = s.lnk.listening ∧ s.hearOwnBay.lnk.streak = s.lnk.streak ∧
      s.hearOwnBay.lnk.lineIdle = s.lnk.lineIdle ∧ s.hearOwnBay.lnk.armed = s.lnk.armed ∧
      s.hearOwnBay.lnk.queue = s.lnk.queue ∧ s.hearOwnBay.alt.result = s.alt.result ∧ s.hearOwnBay.alt.flight = s.alt.flight ∧
      s.hearOwnBay.rsv.freq = s.rsv.freq ∧ s.hearOwnBay.rsv.edgeSeen = s.rsv.edgeSeen ∧
      s.hearOwnBay.rsv.edgeWatch = s.rsv.edgeWatch ∧ s.hearOwnBay.rsv.senseFault = s.rsv.senseFault ∧
      s.hearOwnBay.rsv.hostDemand = s.rsv.hostDemand ∧ s.hearOwnBay.rsv.hostDuration = s.rsv.hostDuration ∧
      s.hearOwnBay.rsv.ownSeq = s.rsv.ownSeq ∧ s.hearOwnBay.rsv.lastSeq = s.rsv.lastSeq ∧
      s.hearOwnBay.rsv.holder = s.rsv.holder ∧ s.hearOwnBay.rsv.active = s.rsv.active ∧
      s.hearOwnBay.rsv.dActive = s.rsv.dActive ∧ s.hearOwnBay.rsv.remaining = s.rsv.remaining ∧
      s.hearOwnBay.rsv.refresh = s.rsv.refresh ∧ s.hearOwnBay.rsv.members = s.rsv.members ∧
      s.hearOwnBay.rsv.origin = s.rsv.origin ∧ s.hearOwnBay.rsv.ownPledge = s.rsv.ownPledge ∧
      s.hearOwnBay.rsv.standing = s.rsv.standing ∧ s.hearOwnBay.rsv.share = s.rsv.share ∧
      s.hearOwnBay.rsv.shareSum = s.rsv.shareSum ∧ s.hearOwnBay.rsv.shortfall = s.rsv.shortfall ∧
      s.hearOwnBay.stg.seq = s.stg.seq ∧ s.hearOwnBay.stg.answer = s.stg.answer ∧ s.hearOwnBay.stg.gap = s.stg.gap ∧
      s.hearOwnBay.stg.measured = s.stg.measured ∧ s.hearOwnBay.stg.volts = s.stg.volts ∧
      s.hearOwnBay.stg.isOpen = s.stg.isOpen ∧ s.hearOwnBay.stg.meterLost = s.stg.meterLost ∧
      s.hearOwnBay.stg.stageFault = s.stg.stageFault ∧ s.hearOwnBay.stg.sent = s.stg.sent ∧
      s.hearOwnBay.log.mask = s.log.mask ∧ s.hearOwnBay.log.counters.length = s.log.counters.length ∧
      s.hearOwnBay.prt.answer = s.prt.answer ∧ s.hearOwnBay.prt.response = s.prt.response ∧ s.hearOwnBay.prt.mask = s.prt.mask := by
  simp only [State.hearOwnBay]
  (repeat' split) <;> simp

@[simp] theorem State.evalLimits_keeps (s : State) :
    s.evalLimits.ptb.entries = s.ptb.entries ∧ s.evalLimits.prt.answer = s.prt.answer ∧
      s.evalLimits.prt.response = s.prt.response ∧ s.evalLimits.prt.mask = s.prt.mask := by
  simp only [State.evalLimits]
  (repeat' split) <;> simp

@[simp] theorem State.evalDupBus_keeps (s : State) :
    s.evalDupBus.ptb.entries = s.ptb.entries ∧ s.evalDupBus.log.mask = s.log.mask ∧
      s.evalDupBus.log.counters.length = s.log.counters.length ∧ s.evalDupBus.prt.answer = s.prt.answer ∧
      s.evalDupBus.prt.response = s.prt.response ∧ s.evalDupBus.prt.mask = s.prt.mask := by
  simp only [State.evalDupBus]
  (repeat' split) <;> simp

@[simp] theorem State.reevaluate_keeps (s : State) :
    s.reevaluate.ptb.entries = s.ptb.entries ∧ s.reevaluate.alt.result = s.alt.result ∧
      s.reevaluate.alt.flight = s.alt.flight ∧ s.reevaluate.rsv.freq = s.rsv.freq ∧
      s.reevaluate.rsv.edgeSeen = s.rsv.edgeSeen ∧ s.reevaluate.rsv.edgeWatch = s.rsv.edgeWatch ∧
      s.reevaluate.rsv.senseFault = s.rsv.senseFault ∧ s.reevaluate.rsv.hostDemand = s.rsv.hostDemand ∧
      s.reevaluate.rsv.hostDuration = s.rsv.hostDuration ∧ s.reevaluate.rsv.ownSeq = s.rsv.ownSeq ∧
      s.reevaluate.rsv.lastSeq = s.rsv.lastSeq ∧ s.reevaluate.rsv.holder = s.rsv.holder ∧
      s.reevaluate.rsv.active = s.rsv.active ∧ s.reevaluate.rsv.dActive = s.rsv.dActive ∧
      s.reevaluate.rsv.remaining = s.rsv.remaining ∧ s.reevaluate.rsv.refresh = s.rsv.refresh ∧
      s.reevaluate.rsv.members = s.rsv.members ∧ s.reevaluate.rsv.origin = s.rsv.origin ∧
      s.reevaluate.rsv.ownPledge = s.rsv.ownPledge ∧ s.reevaluate.rsv.standing = s.rsv.standing ∧
      s.reevaluate.rsv.share = s.rsv.share ∧ s.reevaluate.rsv.shareSum = s.rsv.shareSum ∧
      s.reevaluate.rsv.shortfall = s.rsv.shortfall ∧ s.reevaluate.stg.seq = s.stg.seq ∧
      s.reevaluate.stg.answer = s.stg.answer ∧ s.reevaluate.stg.gap = s.stg.gap ∧ s.reevaluate.stg.measured = s.stg.measured ∧
      s.reevaluate.stg.volts = s.stg.volts ∧ s.reevaluate.stg.isOpen = s.stg.isOpen ∧
      s.reevaluate.stg.meterLost = s.stg.meterLost ∧ s.reevaluate.stg.stageFault = s.stg.stageFault ∧
      s.reevaluate.stg.sent = s.stg.sent ∧ s.reevaluate.log.mask = s.log.mask ∧
      s.reevaluate.log.counters.length = s.log.counters.length ∧ s.reevaluate.prt.answer = s.prt.answer ∧
      s.reevaluate.prt.response = s.prt.response ∧ s.reevaluate.prt.mask = s.prt.mask := by
  simp only [State.reevaluate]
  (repeat' split) <;> simp

@[simp] theorem State.takeClaim_keeps (s : State) (own b e : Nat) (c : Claim) :
    (s.takeClaim own b e c).alt.result = s.alt.result ∧ (s.takeClaim own b e c).alt.flight = s.alt.flight ∧
      (s.takeClaim own b e c).rsv.freq = s.rsv.freq ∧ (s.takeClaim own b e c).rsv.edgeSeen = s.rsv.edgeSeen ∧
      (s.takeClaim own b e c).rsv.edgeWatch = s.rsv.edgeWatch ∧ (s.takeClaim own b e c).rsv.senseFault = s.rsv.senseFault ∧
      (s.takeClaim own b e c).rsv.hostDemand = s.rsv.hostDemand ∧
      (s.takeClaim own b e c).rsv.hostDuration = s.rsv.hostDuration ∧ (s.takeClaim own b e c).rsv.ownSeq = s.rsv.ownSeq ∧
      (s.takeClaim own b e c).rsv.lastSeq = s.rsv.lastSeq ∧ (s.takeClaim own b e c).rsv.holder = s.rsv.holder ∧
      (s.takeClaim own b e c).rsv.active = s.rsv.active ∧ (s.takeClaim own b e c).rsv.dActive = s.rsv.dActive ∧
      (s.takeClaim own b e c).rsv.remaining = s.rsv.remaining ∧ (s.takeClaim own b e c).rsv.refresh = s.rsv.refresh ∧
      (s.takeClaim own b e c).rsv.members = s.rsv.members ∧ (s.takeClaim own b e c).rsv.origin = s.rsv.origin ∧
      (s.takeClaim own b e c).rsv.ownPledge = s.rsv.ownPledge ∧ (s.takeClaim own b e c).rsv.standing = s.rsv.standing ∧
      (s.takeClaim own b e c).rsv.share = s.rsv.share ∧ (s.takeClaim own b e c).rsv.shareSum = s.rsv.shareSum ∧
      (s.takeClaim own b e c).rsv.shortfall = s.rsv.shortfall ∧ (s.takeClaim own b e c).stg.seq = s.stg.seq ∧
      (s.takeClaim own b e c).stg.answer = s.stg.answer ∧ (s.takeClaim own b e c).stg.gap = s.stg.gap ∧
      (s.takeClaim own b e c).stg.measured = s.stg.measured ∧ (s.takeClaim own b e c).stg.volts = s.stg.volts ∧
      (s.takeClaim own b e c).stg.isOpen = s.stg.isOpen ∧ (s.takeClaim own b e c).stg.meterLost = s.stg.meterLost ∧
      (s.takeClaim own b e c).stg.stageFault = s.stg.stageFault ∧ (s.takeClaim own b e c).stg.sent = s.stg.sent ∧
      (s.takeClaim own b e c).log.mask = s.log.mask ∧ (s.takeClaim own b e c).log.counters.length = s.log.counters.length ∧
      (s.takeClaim own b e c).prt.answer = s.prt.answer ∧ (s.takeClaim own b e c).prt.response = s.prt.response ∧
      (s.takeClaim own b e c).prt.mask = s.prt.mask := by
  simp only [State.takeClaim]
  (repeat' split) <;> simp

@[simp] theorem State.ptbBoundary_keeps (s : State) :
    s.ptbBoundary.alt.result = s.alt.result ∧ s.ptbBoundary.alt.flight = s.alt.flight ∧ s.ptbBoundary.rsv.freq = s.rsv.freq ∧
      s.ptbBoundary.rsv.edgeSeen = s.rsv.edgeSeen ∧ s.ptbBoundary.rsv.edgeWatch = s.rsv.edgeWatch ∧
      s.ptbBoundary.rsv.senseFault = s.rsv.senseFault ∧ s.ptbBoundary.rsv.hostDemand = s.rsv.hostDemand ∧
      s.ptbBoundary.rsv.hostDuration = s.rsv.hostDuration ∧ s.ptbBoundary.rsv.ownSeq = s.rsv.ownSeq ∧
      s.ptbBoundary.rsv.lastSeq = s.rsv.lastSeq ∧ s.ptbBoundary.rsv.holder = s.rsv.holder ∧
      s.ptbBoundary.rsv.active = s.rsv.active ∧ s.ptbBoundary.rsv.dActive = s.rsv.dActive ∧
      s.ptbBoundary.rsv.remaining = s.rsv.remaining ∧ s.ptbBoundary.rsv.refresh = s.rsv.refresh ∧
      s.ptbBoundary.rsv.members = s.rsv.members ∧ s.ptbBoundary.rsv.origin = s.rsv.origin ∧
      s.ptbBoundary.rsv.ownPledge = s.rsv.ownPledge ∧ s.ptbBoundary.rsv.standing = s.rsv.standing ∧
      s.ptbBoundary.rsv.share = s.rsv.share ∧ s.ptbBoundary.rsv.shareSum = s.rsv.shareSum ∧
      s.ptbBoundary.rsv.shortfall = s.rsv.shortfall ∧ s.ptbBoundary.stg.seq = s.stg.seq ∧
      s.ptbBoundary.stg.answer = s.stg.answer ∧ s.ptbBoundary.stg.gap = s.stg.gap ∧
      s.ptbBoundary.stg.measured = s.stg.measured ∧ s.ptbBoundary.stg.volts = s.stg.volts ∧
      s.ptbBoundary.stg.isOpen = s.stg.isOpen ∧ s.ptbBoundary.stg.meterLost = s.stg.meterLost ∧
      s.ptbBoundary.stg.stageFault = s.stg.stageFault ∧ s.ptbBoundary.stg.sent = s.stg.sent ∧
      s.ptbBoundary.log.mask = s.log.mask ∧ s.ptbBoundary.log.counters.length = s.log.counters.length ∧
      s.ptbBoundary.prt.answer = s.prt.answer ∧ s.ptbBoundary.prt.response = s.prt.response ∧
      s.ptbBoundary.prt.mask = s.prt.mask := by
  simp only [State.ptbBoundary]
  (repeat' split) <;> simp

@[simp] theorem State.altStart_keeps (s : State) (c : Claim) :
    (s.altStart c).alt.result = s.alt.result ∧ (s.altStart c).alt.grant = s.alt.grant := by
  simp only [State.altStart]
  (repeat' split) <;> simp

@[simp] theorem State.altDiscard_keeps (s : State) :
    s.altDiscard.alt.result = s.alt.result ∧ s.altDiscard.alt.grant = s.alt.grant := by
  simp only [State.altDiscard]
  (repeat' split) <;> simp

@[simp] theorem State.altAbandon_keeps (s : State) :
    s.altAbandon.alt.result = s.alt.result ∧ s.altAbandon.alt.grant = s.alt.grant := by
  simp only [State.altAbandon]
  (repeat' split) <;> simp

@[simp] theorem State.altComplete_keeps (s : State) :
    s.altComplete.rsv.freq = s.rsv.freq ∧ s.altComplete.rsv.edgeSeen = s.rsv.edgeSeen ∧
      s.altComplete.rsv.edgeWatch = s.rsv.edgeWatch ∧ s.altComplete.rsv.senseFault = s.rsv.senseFault ∧
      s.altComplete.rsv.hostDemand = s.rsv.hostDemand ∧ s.altComplete.rsv.hostDuration = s.rsv.hostDuration ∧
      s.altComplete.rsv.ownSeq = s.rsv.ownSeq ∧ s.altComplete.rsv.lastSeq = s.rsv.lastSeq ∧
      s.altComplete.rsv.holder = s.rsv.holder ∧ s.altComplete.rsv.active = s.rsv.active ∧
      s.altComplete.rsv.dActive = s.rsv.dActive ∧ s.altComplete.rsv.remaining = s.rsv.remaining ∧
      s.altComplete.rsv.refresh = s.rsv.refresh ∧ s.altComplete.rsv.members = s.rsv.members ∧
      s.altComplete.rsv.origin = s.rsv.origin ∧ s.altComplete.rsv.ownPledge = s.rsv.ownPledge ∧
      s.altComplete.rsv.standing = s.rsv.standing ∧ s.altComplete.rsv.share = s.rsv.share ∧
      s.altComplete.rsv.shareSum = s.rsv.shareSum ∧ s.altComplete.rsv.shortfall = s.rsv.shortfall ∧
      s.altComplete.stg.seq = s.stg.seq ∧ s.altComplete.stg.answer = s.stg.answer ∧ s.altComplete.stg.gap = s.stg.gap ∧
      s.altComplete.stg.measured = s.stg.measured ∧ s.altComplete.stg.volts = s.stg.volts ∧
      s.altComplete.stg.isOpen = s.stg.isOpen ∧ s.altComplete.stg.meterLost = s.stg.meterLost ∧
      s.altComplete.stg.stageFault = s.stg.stageFault ∧ s.altComplete.stg.sent = s.stg.sent := by
  simp only [State.altComplete]
  (repeat' split) <;> simp

@[simp] theorem State.altTick_keeps (s : State) :
    s.altTick.rsv.freq = s.rsv.freq ∧ s.altTick.rsv.edgeSeen = s.rsv.edgeSeen ∧ s.altTick.rsv.edgeWatch = s.rsv.edgeWatch ∧
      s.altTick.rsv.senseFault = s.rsv.senseFault ∧ s.altTick.rsv.hostDemand = s.rsv.hostDemand ∧
      s.altTick.rsv.hostDuration = s.rsv.hostDuration ∧ s.altTick.rsv.ownSeq = s.rsv.ownSeq ∧
      s.altTick.rsv.lastSeq = s.rsv.lastSeq ∧ s.altTick.rsv.holder = s.rsv.holder ∧ s.altTick.rsv.active = s.rsv.active ∧
      s.altTick.rsv.dActive = s.rsv.dActive ∧ s.altTick.rsv.remaining = s.rsv.remaining ∧
      s.altTick.rsv.refresh = s.rsv.refresh ∧ s.altTick.rsv.members = s.rsv.members ∧ s.altTick.rsv.origin = s.rsv.origin ∧
      s.altTick.rsv.ownPledge = s.rsv.ownPledge ∧ s.altTick.rsv.standing = s.rsv.standing ∧
      s.altTick.rsv.share = s.rsv.share ∧ s.altTick.rsv.shareSum = s.rsv.shareSum ∧
      s.altTick.rsv.shortfall = s.rsv.shortfall ∧ s.altTick.stg.seq = s.stg.seq ∧ s.altTick.stg.answer = s.stg.answer ∧
      s.altTick.stg.gap = s.stg.gap ∧ s.altTick.stg.measured = s.stg.measured ∧ s.altTick.stg.volts = s.stg.volts ∧
      s.altTick.stg.isOpen = s.stg.isOpen ∧ s.altTick.stg.meterLost = s.stg.meterLost ∧
      s.altTick.stg.stageFault = s.stg.stageFault ∧ s.altTick.stg.sent = s.stg.sent := by
  simp only [State.altTick]
  (repeat' split) <;> simp

@[simp] theorem State.loseMeter_keeps (s : State) :
    s.loseMeter.stg.seq = s.stg.seq ∧ s.loseMeter.stg.answer = s.stg.answer ∧ s.loseMeter.stg.gap = s.stg.gap ∧
      s.loseMeter.stg.volts = s.stg.volts ∧ s.loseMeter.stg.isOpen = s.stg.isOpen ∧
      s.loseMeter.stg.stageFault = s.stg.stageFault ∧ s.loseMeter.stg.sent = s.stg.sent ∧ s.loseMeter.log.mask = s.log.mask ∧
      s.loseMeter.log.counters.length = s.log.counters.length ∧ s.loseMeter.prt.answer = s.prt.answer ∧
      s.loseMeter.prt.response = s.prt.response ∧ s.loseMeter.prt.mask = s.prt.mask := by
  simp only [State.loseMeter]
  (repeat' split) <;> simp

@[simp] theorem State.closeExchange_keeps (s : State) :
    s.closeExchange.stg.seq = s.stg.seq ∧ s.closeExchange.stg.answer = s.stg.answer ∧
      s.closeExchange.stg.volts = s.stg.volts ∧ s.closeExchange.stg.isOpen = s.stg.isOpen ∧
      s.closeExchange.stg.stageFault = s.stg.stageFault ∧ s.closeExchange.stg.sent = s.stg.sent ∧
      s.closeExchange.log.mask = s.log.mask ∧ s.closeExchange.log.counters.length = s.log.counters.length ∧
      s.closeExchange.prt.answer = s.prt.answer ∧ s.closeExchange.prt.response = s.prt.response ∧
      s.closeExchange.prt.mask = s.prt.mask := by
  simp only [State.closeExchange]
  (repeat' split) <;> simp

@[simp] theorem State.openExchange_keeps (s : State) :
    s.openExchange.stg.gap = s.stg.gap ∧ s.openExchange.stg.measured = s.stg.measured ∧
      s.openExchange.stg.volts = s.stg.volts ∧ s.openExchange.stg.isOpen = s.stg.isOpen ∧
      s.openExchange.stg.meterLost = s.stg.meterLost ∧ s.openExchange.stg.stageFault = s.stg.stageFault := by
  simp only [State.openExchange]
  (repeat' split) <;> simp

@[simp] theorem State.stageTick_keeps (s : State) :
    s.stageTick.stg.volts = s.stg.volts ∧ s.stageTick.stg.isOpen = s.stg.isOpen ∧
      s.stageTick.stg.stageFault = s.stg.stageFault ∧ s.stageTick.log.mask = s.log.mask ∧
      s.stageTick.log.counters.length = s.log.counters.length ∧ s.stageTick.prt.answer = s.prt.answer ∧
      s.stageTick.prt.response = s.prt.response ∧ s.stageTick.prt.mask = s.prt.mask := by
  simp only [State.stageTick]
  (repeat' split) <;> simp

@[simp] theorem State.takeStageFlags_keeps (s : State) (m : Measure) :
    (s.takeStageFlags m).stg.seq = s.stg.seq ∧ (s.takeStageFlags m).stg.answer = s.stg.answer ∧
      (s.takeStageFlags m).stg.gap = s.stg.gap ∧ (s.takeStageFlags m).stg.measured = s.stg.measured ∧
      (s.takeStageFlags m).stg.volts = s.stg.volts ∧ (s.takeStageFlags m).stg.meterLost = s.stg.meterLost ∧
      (s.takeStageFlags m).stg.sent = s.stg.sent ∧ (s.takeStageFlags m).log.mask = s.log.mask ∧
      (s.takeStageFlags m).log.counters.length = s.log.counters.length ∧ (s.takeStageFlags m).prt.answer = s.prt.answer ∧
      (s.takeStageFlags m).prt.response = s.prt.response ∧ (s.takeStageFlags m).prt.mask = s.prt.mask := by
  simp only [State.takeStageFlags]
  (repeat' split) <;> simp

@[simp] theorem State.takeMeasure_keeps (s : State) (m : Measure) :
    (s.takeMeasure m).stg.seq = s.stg.seq ∧ (s.takeMeasure m).stg.sent = s.stg.sent ∧
      (s.takeMeasure m).log.mask = s.log.mask ∧ (s.takeMeasure m).log.counters.length = s.log.counters.length ∧
      (s.takeMeasure m).prt.answer = s.prt.answer ∧ (s.takeMeasure m).prt.response = s.prt.response ∧
      (s.takeMeasure m).prt.mask = s.prt.mask := by
  simp only [State.takeMeasure]
  (repeat' split) <;> simp

@[simp] theorem State.judgeMeasure_keeps (s : State) (m : Measure) :
    (s.judgeMeasure m).stg.seq = s.stg.seq ∧ (s.judgeMeasure m).stg.sent = s.stg.sent ∧
      (s.judgeMeasure m).log.mask = s.log.mask ∧ (s.judgeMeasure m).log.counters.length = s.log.counters.length ∧
      (s.judgeMeasure m).prt.answer = s.prt.answer ∧ (s.judgeMeasure m).prt.response = s.prt.response ∧
      (s.judgeMeasure m).prt.mask = s.prt.mask := by
  simp only [State.judgeMeasure]
  (repeat' split) <;> simp

@[simp] theorem State.computeShares_keeps (s : State) (t : Bool) :
    (s.computeShares t).rsv.freq = s.rsv.freq ∧ (s.computeShares t).rsv.edgeSeen = s.rsv.edgeSeen ∧
      (s.computeShares t).rsv.edgeWatch = s.rsv.edgeWatch ∧ (s.computeShares t).rsv.senseFault = s.rsv.senseFault ∧
      (s.computeShares t).rsv.hostDemand = s.rsv.hostDemand ∧ (s.computeShares t).rsv.hostDuration = s.rsv.hostDuration ∧
      (s.computeShares t).rsv.ownSeq = s.rsv.ownSeq ∧ (s.computeShares t).rsv.lastSeq = s.rsv.lastSeq ∧
      (s.computeShares t).rsv.holder = s.rsv.holder ∧ (s.computeShares t).rsv.active = s.rsv.active ∧
      (s.computeShares t).rsv.dActive = s.rsv.dActive ∧ (s.computeShares t).rsv.remaining = s.rsv.remaining ∧
      (s.computeShares t).rsv.refresh = s.rsv.refresh ∧ (s.computeShares t).rsv.baseline = s.rsv.baseline ∧
      (s.computeShares t).rsv.members = s.rsv.members ∧ (s.computeShares t).rsv.origin = s.rsv.origin ∧
      (s.computeShares t).rsv.ownPledge = s.rsv.ownPledge ∧ (s.computeShares t).rsv.standing = s.rsv.standing ∧
      (s.computeShares t).stg.seq = s.stg.seq ∧ (s.computeShares t).stg.answer = s.stg.answer ∧
      (s.computeShares t).stg.gap = s.stg.gap ∧ (s.computeShares t).stg.measured = s.stg.measured ∧
      (s.computeShares t).stg.volts = s.stg.volts ∧ (s.computeShares t).stg.isOpen = s.stg.isOpen ∧
      (s.computeShares t).stg.meterLost = s.stg.meterLost ∧ (s.computeShares t).stg.stageFault = s.stg.stageFault ∧
      (s.computeShares t).stg.sent = s.stg.sent ∧ (s.computeShares t).prt.answer = s.prt.answer ∧
      (s.computeShares t).prt.response = s.prt.response ∧ (s.computeShares t).prt.mask = s.prt.mask := by
  simp only [State.computeShares]
  (repeat' split) <;> simp

@[simp] theorem State.takeEvent_keeps (s : State) (o q d r : Nat) :
    (s.takeEvent o q d r).rsv.freq = s.rsv.freq ∧ (s.takeEvent o q d r).rsv.edgeSeen = s.rsv.edgeSeen ∧
      (s.takeEvent o q d r).rsv.edgeWatch = s.rsv.edgeWatch ∧ (s.takeEvent o q d r).rsv.senseFault = s.rsv.senseFault ∧
      (s.takeEvent o q d r).rsv.hostDemand = s.rsv.hostDemand ∧ (s.takeEvent o q d r).rsv.hostDuration = s.rsv.hostDuration ∧
      (s.takeEvent o q d r).rsv.ownSeq = s.rsv.ownSeq ∧ (s.takeEvent o q d r).stg.seq = s.stg.seq ∧
      (s.takeEvent o q d r).stg.answer = s.stg.answer ∧ (s.takeEvent o q d r).stg.gap = s.stg.gap ∧
      (s.takeEvent o q d r).stg.measured = s.stg.measured ∧ (s.takeEvent o q d r).stg.volts = s.stg.volts ∧
      (s.takeEvent o q d r).stg.isOpen = s.stg.isOpen ∧ (s.takeEvent o q d r).stg.meterLost = s.stg.meterLost ∧
      (s.takeEvent o q d r).stg.stageFault = s.stg.stageFault ∧ (s.takeEvent o q d r).stg.sent = s.stg.sent ∧
      (s.takeEvent o q d r).alt.result = s.alt.result ∧ (s.takeEvent o q d r).alt.grant = s.alt.grant ∧
      (s.takeEvent o q d r).log.mask = s.log.mask ∧ (s.takeEvent o q d r).log.counters.length = s.log.counters.length ∧
      (s.takeEvent o q d r).prt.answer = s.prt.answer ∧ (s.takeEvent o q d r).prt.response = s.prt.response ∧
      (s.takeEvent o q d r).prt.mask = s.prt.mask := by
  simp only [State.takeEvent]
  (repeat' split) <;> simp

@[simp] theorem State.changeDemand_keeps (s : State) (o d : Nat) :
    (s.changeDemand o d).rsv.freq = s.rsv.freq ∧ (s.changeDemand o d).rsv.edgeSeen = s.rsv.edgeSeen ∧
      (s.changeDemand o d).rsv.edgeWatch = s.rsv.edgeWatch ∧ (s.changeDemand o d).rsv.senseFault = s.rsv.senseFault ∧
      (s.changeDemand o d).rsv.hostDemand = s.rsv.hostDemand ∧ (s.changeDemand o d).rsv.hostDuration = s.rsv.hostDuration ∧
      (s.changeDemand o d).rsv.ownSeq = s.rsv.ownSeq ∧ (s.changeDemand o d).rsv.lastSeq = s.rsv.lastSeq ∧
      (s.changeDemand o d).rsv.holder = s.rsv.holder ∧ (s.changeDemand o d).rsv.active = s.rsv.active ∧
      (s.changeDemand o d).rsv.remaining = s.rsv.remaining ∧ (s.changeDemand o d).rsv.refresh = s.rsv.refresh ∧
      (s.changeDemand o d).rsv.baseline = s.rsv.baseline ∧ (s.changeDemand o d).rsv.members = s.rsv.members ∧
      (s.changeDemand o d).rsv.origin = s.rsv.origin ∧ (s.changeDemand o d).rsv.ownPledge = s.rsv.ownPledge ∧
      (s.changeDemand o d).rsv.standing = s.rsv.standing ∧ (s.changeDemand o d).stg.seq = s.stg.seq ∧
      (s.changeDemand o d).stg.answer = s.stg.answer ∧ (s.changeDemand o d).stg.gap = s.stg.gap ∧
      (s.changeDemand o d).stg.measured = s.stg.measured ∧ (s.changeDemand o d).stg.volts = s.stg.volts ∧
      (s.changeDemand o d).stg.isOpen = s.stg.isOpen ∧ (s.changeDemand o d).stg.meterLost = s.stg.meterLost ∧
      (s.changeDemand o d).stg.stageFault = s.stg.stageFault ∧ (s.changeDemand o d).stg.sent = s.stg.sent ∧
      (s.changeDemand o d).log.mask = s.log.mask ∧ (s.changeDemand o d).log.counters.length = s.log.counters.length ∧
      (s.changeDemand o d).prt.answer = s.prt.answer ∧ (s.changeDemand o d).prt.response = s.prt.response ∧
      (s.changeDemand o d).prt.mask = s.prt.mask := by
  simp only [State.changeDemand]
  (repeat' split) <;> simp

@[simp] theorem State.holderUpdate_keeps (s : State) (o q d r : Nat) :
    (s.holderUpdate o q d r).rsv.freq = s.rsv.freq ∧ (s.holderUpdate o q d r).rsv.edgeSeen = s.rsv.edgeSeen ∧
      (s.holderUpdate o q d r).rsv.edgeWatch = s.rsv.edgeWatch ∧ (s.holderUpdate o q d r).rsv.senseFault = s.rsv.senseFault ∧
      (s.holderUpdate o q d r).rsv.hostDemand = s.rsv.hostDemand ∧
      (s.holderUpdate o q d r).rsv.hostDuration = s.rsv.hostDuration ∧ (s.holderUpdate o q d r).rsv.ownSeq = s.rsv.ownSeq ∧
      (s.holderUpdate o q d r).rsv.holder = s.rsv.holder ∧ (s.holderUpdate o q d r).rsv.active = s.rsv.active ∧
      (s.holderUpdate o q d r).rsv.refresh = s.rsv.refresh ∧ (s.holderUpdate o q d r).rsv.baseline = s.rsv.baseline ∧
      (s.holderUpdate o q d r).rsv.members = s.rsv.members ∧ (s.holderUpdate o q d r).rsv.origin = s.rsv.origin ∧
      (s.holderUpdate o q d r).rsv.ownPledge = s.rsv.ownPledge ∧ (s.holderUpdate o q d r).rsv.standing = s.rsv.standing ∧
      (s.holderUpdate o q d r).stg.seq = s.stg.seq ∧ (s.holderUpdate o q d r).stg.answer = s.stg.answer ∧
      (s.holderUpdate o q d r).stg.gap = s.stg.gap ∧ (s.holderUpdate o q d r).stg.measured = s.stg.measured ∧
      (s.holderUpdate o q d r).stg.volts = s.stg.volts ∧ (s.holderUpdate o q d r).stg.isOpen = s.stg.isOpen ∧
      (s.holderUpdate o q d r).stg.meterLost = s.stg.meterLost ∧ (s.holderUpdate o q d r).stg.stageFault = s.stg.stageFault ∧
      (s.holderUpdate o q d r).stg.sent = s.stg.sent ∧ (s.holderUpdate o q d r).log.mask = s.log.mask ∧
      (s.holderUpdate o q d r).log.counters.length = s.log.counters.length ∧
      (s.holderUpdate o q d r).prt.answer = s.prt.answer ∧ (s.holderUpdate o q d r).prt.response = s.prt.response ∧
      (s.holderUpdate o q d r).prt.mask = s.prt.mask := by
  simp only [State.holderUpdate]
  (repeat' split) <;> simp

@[simp] theorem State.takeOver_keeps (s : State) (o q d r : Nat) :
    (s.takeOver o q d r).rsv.freq = s.rsv.freq ∧ (s.takeOver o q d r).rsv.edgeSeen = s.rsv.edgeSeen ∧
      (s.takeOver o q d r).rsv.edgeWatch = s.rsv.edgeWatch ∧ (s.takeOver o q d r).rsv.senseFault = s.rsv.senseFault ∧
      (s.takeOver o q d r).rsv.hostDemand = s.rsv.hostDemand ∧ (s.takeOver o q d r).rsv.hostDuration = s.rsv.hostDuration ∧
      (s.takeOver o q d r).rsv.ownSeq = s.rsv.ownSeq ∧ (s.takeOver o q d r).rsv.active = s.rsv.active ∧
      (s.takeOver o q d r).rsv.refresh = s.rsv.refresh ∧ (s.takeOver o q d r).rsv.baseline = s.rsv.baseline ∧
      (s.takeOver o q d r).rsv.members = s.rsv.members ∧ (s.takeOver o q d r).rsv.origin = s.rsv.origin ∧
      (s.takeOver o q d r).rsv.ownPledge = s.rsv.ownPledge ∧ (s.takeOver o q d r).rsv.standing = s.rsv.standing ∧
      (s.takeOver o q d r).stg.seq = s.stg.seq ∧ (s.takeOver o q d r).stg.answer = s.stg.answer ∧
      (s.takeOver o q d r).stg.gap = s.stg.gap ∧ (s.takeOver o q d r).stg.measured = s.stg.measured ∧
      (s.takeOver o q d r).stg.volts = s.stg.volts ∧ (s.takeOver o q d r).stg.isOpen = s.stg.isOpen ∧
      (s.takeOver o q d r).stg.meterLost = s.stg.meterLost ∧ (s.takeOver o q d r).stg.stageFault = s.stg.stageFault ∧
      (s.takeOver o q d r).stg.sent = s.stg.sent ∧ (s.takeOver o q d r).log.mask = s.log.mask ∧
      (s.takeOver o q d r).log.counters.length = s.log.counters.length ∧ (s.takeOver o q d r).prt.answer = s.prt.answer ∧
      (s.takeOver o q d r).prt.response = s.prt.response ∧ (s.takeOver o q d r).prt.mask = s.prt.mask := by
  simp only [State.takeOver]
  (repeat' split) <;> simp

@[simp] theorem State.endEvent_keeps (s : State) :
    s.endEvent.rsv.freq = s.rsv.freq ∧ s.endEvent.rsv.edgeSeen = s.rsv.edgeSeen ∧ s.endEvent.rsv.edgeWatch = s.rsv.edgeWatch ∧
      s.endEvent.rsv.senseFault = s.rsv.senseFault ∧ s.endEvent.rsv.hostDuration = s.rsv.hostDuration ∧
      s.endEvent.rsv.ownSeq = s.rsv.ownSeq ∧ s.endEvent.rsv.lastSeq = s.rsv.lastSeq ∧ s.endEvent.stg.seq = s.stg.seq ∧
      s.endEvent.stg.answer = s.stg.answer ∧ s.endEvent.stg.gap = s.stg.gap ∧ s.endEvent.stg.measured = s.stg.measured ∧
      s.endEvent.stg.volts = s.stg.volts ∧ s.endEvent.stg.isOpen = s.stg.isOpen ∧ s.endEvent.stg.meterLost = s.stg.meterLost ∧
      s.endEvent.stg.stageFault = s.stg.stageFault ∧ s.endEvent.stg.sent = s.stg.sent ∧ s.endEvent.log.mask = s.log.mask ∧
      s.endEvent.log.counters.length = s.log.counters.length ∧ s.endEvent.prt.answer = s.prt.answer ∧
      s.endEvent.prt.response = s.prt.response ∧ s.endEvent.prt.mask = s.prt.mask := by
  simp only [State.endEvent]
  (repeat' split) <;> simp

@[simp] theorem State.judgeEvent_keeps (s : State) (o q d r : Nat) :
    (s.judgeEvent o q d r).rsv.freq = s.rsv.freq ∧ (s.judgeEvent o q d r).rsv.edgeSeen = s.rsv.edgeSeen ∧
      (s.judgeEvent o q d r).rsv.edgeWatch = s.rsv.edgeWatch ∧ (s.judgeEvent o q d r).rsv.senseFault = s.rsv.senseFault ∧
      (s.judgeEvent o q d r).rsv.hostDuration = s.rsv.hostDuration ∧ (s.judgeEvent o q d r).rsv.ownSeq = s.rsv.ownSeq ∧
      (s.judgeEvent o q d r).stg.seq = s.stg.seq ∧ (s.judgeEvent o q d r).stg.answer = s.stg.answer ∧
      (s.judgeEvent o q d r).stg.gap = s.stg.gap ∧ (s.judgeEvent o q d r).stg.measured = s.stg.measured ∧
      (s.judgeEvent o q d r).stg.volts = s.stg.volts ∧ (s.judgeEvent o q d r).stg.isOpen = s.stg.isOpen ∧
      (s.judgeEvent o q d r).stg.meterLost = s.stg.meterLost ∧ (s.judgeEvent o q d r).stg.stageFault = s.stg.stageFault ∧
      (s.judgeEvent o q d r).stg.sent = s.stg.sent ∧ (s.judgeEvent o q d r).alt.result = s.alt.result ∧
      (s.judgeEvent o q d r).alt.grant = s.alt.grant ∧ (s.judgeEvent o q d r).log.mask = s.log.mask ∧
      (s.judgeEvent o q d r).log.counters.length = s.log.counters.length ∧ (s.judgeEvent o q d r).prt.answer = s.prt.answer ∧
      (s.judgeEvent o q d r).prt.response = s.prt.response ∧ (s.judgeEvent o q d r).prt.mask = s.prt.mask := by
  simp only [State.judgeEvent]
  (repeat' split) <;> simp

@[simp] theorem State.sendEvent_keeps (s : State) (d r : Nat) :
    (s.sendEvent d r).rsv.freq = s.rsv.freq ∧ (s.sendEvent d r).rsv.edgeSeen = s.rsv.edgeSeen ∧
      (s.sendEvent d r).rsv.edgeWatch = s.rsv.edgeWatch ∧ (s.sendEvent d r).rsv.senseFault = s.rsv.senseFault ∧
      (s.sendEvent d r).rsv.hostDuration = s.rsv.hostDuration ∧ (s.sendEvent d r).stg.seq = s.stg.seq ∧
      (s.sendEvent d r).stg.answer = s.stg.answer ∧ (s.sendEvent d r).stg.gap = s.stg.gap ∧
      (s.sendEvent d r).stg.measured = s.stg.measured ∧ (s.sendEvent d r).stg.volts = s.stg.volts ∧
      (s.sendEvent d r).stg.isOpen = s.stg.isOpen ∧ (s.sendEvent d r).stg.meterLost = s.stg.meterLost ∧
      (s.sendEvent d r).stg.stageFault = s.stg.stageFault ∧ (s.sendEvent d r).stg.sent = s.stg.sent ∧
      (s.sendEvent d r).alt.result = s.alt.result ∧ (s.sendEvent d r).alt.grant = s.alt.grant ∧
      (s.sendEvent d r).lnk.station = s.lnk.station ∧ (s.sendEvent d r).lnk.listening = s.lnk.listening ∧
      (s.sendEvent d r).lnk.streak = s.lnk.streak ∧ (s.sendEvent d r).lnk.dupBay = s.lnk.dupBay ∧
      (s.sendEvent d r).lnk.lineIdle = s.lnk.lineIdle ∧ (s.sendEvent d r).lnk.armed = s.lnk.armed ∧
      (s.sendEvent d r).log.mask = s.log.mask ∧ (s.sendEvent d r).log.counters.length = s.log.counters.length ∧
      (s.sendEvent d r).prt.answer = s.prt.answer ∧ (s.sendEvent d r).prt.response = s.prt.response ∧
      (s.sendEvent d r).prt.mask = s.prt.mask := by
  simp only [State.sendEvent]
  (repeat' split) <;> simp

@[simp] theorem State.sendDemand_keeps (s : State) :
    s.sendDemand.rsv.freq = s.rsv.freq ∧ s.sendDemand.rsv.edgeSeen = s.rsv.edgeSeen ∧
      s.sendDemand.rsv.edgeWatch = s.rsv.edgeWatch ∧ s.sendDemand.rsv.senseFault = s.rsv.senseFault ∧
      s.sendDemand.rsv.hostDuration = s.rsv.hostDuration ∧ s.sendDemand.stg.seq = s.stg.seq ∧
      s.sendDemand.stg.answer = s.stg.answer ∧ s.sendDemand.stg.gap = s.stg.gap ∧ s.sendDemand.stg.measured = s.stg.measured ∧
      s.sendDemand.stg.volts = s.stg.volts ∧ s.sendDemand.stg.isOpen = s.stg.isOpen ∧
      s.sendDemand.stg.meterLost = s.stg.meterLost ∧ s.sendDemand.stg.stageFault = s.stg.stageFault ∧
      s.sendDemand.stg.sent = s.stg.sent ∧ s.sendDemand.alt.result = s.alt.result ∧ s.sendDemand.alt.grant = s.alt.grant ∧
      s.sendDemand.lnk.station = s.lnk.station ∧ s.sendDemand.lnk.listening = s.lnk.listening ∧
      s.sendDemand.lnk.streak = s.lnk.streak ∧ s.sendDemand.lnk.dupBay = s.lnk.dupBay ∧
      s.sendDemand.lnk.lineIdle = s.lnk.lineIdle ∧ s.sendDemand.lnk.armed = s.lnk.armed ∧ s.sendDemand.log.mask = s.log.mask ∧
      s.sendDemand.log.counters.length = s.log.counters.length ∧ s.sendDemand.prt.answer = s.prt.answer ∧
      s.sendDemand.prt.response = s.prt.response ∧ s.sendDemand.prt.mask = s.prt.mask := by
  simp only [State.sendDemand]
  (repeat' split) <;> simp

@[simp] theorem State.beginSenseFault_keeps (s : State) :
    s.beginSenseFault.rsv.freq = s.rsv.freq ∧ s.beginSenseFault.rsv.edgeSeen = s.rsv.edgeSeen ∧
      s.beginSenseFault.rsv.edgeWatch = s.rsv.edgeWatch ∧ s.beginSenseFault.rsv.hostDemand = s.rsv.hostDemand ∧
      s.beginSenseFault.rsv.hostDuration = s.rsv.hostDuration ∧ s.beginSenseFault.rsv.ownSeq = s.rsv.ownSeq ∧
      s.beginSenseFault.rsv.lastSeq = s.rsv.lastSeq ∧ s.beginSenseFault.rsv.holder = s.rsv.holder ∧
      s.beginSenseFault.rsv.active = s.rsv.active ∧ s.beginSenseFault.rsv.dActive = s.rsv.dActive ∧
      s.beginSenseFault.rsv.remaining = s.rsv.remaining ∧ s.beginSenseFault.rsv.refresh = s.rsv.refresh ∧
      s.beginSenseFault.rsv.baseline = s.rsv.baseline ∧ s.beginSenseFault.rsv.members = s.rsv.members ∧
      s.beginSenseFault.rsv.origin = s.rsv.origin ∧ s.beginSenseFault.rsv.ownPledge = s.rsv.ownPledge ∧
      s.beginSenseFault.rsv.standing = s.rsv.standing ∧ s.beginSenseFault.rsv.share = s.rsv.share ∧
      s.beginSenseFault.rsv.shareSum = s.rsv.shareSum ∧ s.beginSenseFault.rsv.shortfall = s.rsv.shortfall ∧
      s.beginSenseFault.log.mask = s.log.mask ∧ s.beginSenseFault.log.counters.length = s.log.counters.length ∧
      s.beginSenseFault.prt.answer = s.prt.answer ∧ s.beginSenseFault.prt.response = s.prt.response ∧
      s.beginSenseFault.prt.mask = s.prt.mask := by
  simp only [State.beginSenseFault]
  (repeat' split) <;> simp

@[simp] theorem State.gridEdge_keeps (s : State) (n : Nat) :
    (s.gridEdge n).rsv.hostDemand = s.rsv.hostDemand ∧ (s.gridEdge n).rsv.hostDuration = s.rsv.hostDuration ∧
      (s.gridEdge n).rsv.ownSeq = s.rsv.ownSeq ∧ (s.gridEdge n).rsv.lastSeq = s.rsv.lastSeq ∧
      (s.gridEdge n).rsv.holder = s.rsv.holder ∧ (s.gridEdge n).rsv.active = s.rsv.active ∧
      (s.gridEdge n).rsv.dActive = s.rsv.dActive ∧ (s.gridEdge n).rsv.remaining = s.rsv.remaining ∧
      (s.gridEdge n).rsv.refresh = s.rsv.refresh ∧ (s.gridEdge n).rsv.baseline = s.rsv.baseline ∧
      (s.gridEdge n).rsv.members = s.rsv.members ∧ (s.gridEdge n).rsv.origin = s.rsv.origin ∧
      (s.gridEdge n).rsv.ownPledge = s.rsv.ownPledge ∧ (s.gridEdge n).rsv.standing = s.rsv.standing ∧
      (s.gridEdge n).rsv.share = s.rsv.share ∧ (s.gridEdge n).rsv.shareSum = s.rsv.shareSum ∧
      (s.gridEdge n).rsv.shortfall = s.rsv.shortfall ∧ (s.gridEdge n).log.mask = s.log.mask ∧
      (s.gridEdge n).log.counters.length = s.log.counters.length ∧ (s.gridEdge n).prt.answer = s.prt.answer ∧
      (s.gridEdge n).prt.response = s.prt.response ∧ (s.gridEdge n).prt.mask = s.prt.mask := by
  simp only [State.gridEdge]
  (repeat' split) <;> simp

@[simp] theorem State.watchEdges_keeps (s : State) :
    s.watchEdges.rsv.freq = s.rsv.freq ∧ s.watchEdges.rsv.edgeSeen = s.rsv.edgeSeen ∧
      s.watchEdges.rsv.hostDemand = s.rsv.hostDemand ∧ s.watchEdges.rsv.hostDuration = s.rsv.hostDuration ∧
      s.watchEdges.rsv.ownSeq = s.rsv.ownSeq ∧ s.watchEdges.rsv.lastSeq = s.rsv.lastSeq ∧
      s.watchEdges.rsv.holder = s.rsv.holder ∧ s.watchEdges.rsv.active = s.rsv.active ∧
      s.watchEdges.rsv.dActive = s.rsv.dActive ∧ s.watchEdges.rsv.remaining = s.rsv.remaining ∧
      s.watchEdges.rsv.refresh = s.rsv.refresh ∧ s.watchEdges.rsv.baseline = s.rsv.baseline ∧
      s.watchEdges.rsv.members = s.rsv.members ∧ s.watchEdges.rsv.origin = s.rsv.origin ∧
      s.watchEdges.rsv.ownPledge = s.rsv.ownPledge ∧ s.watchEdges.rsv.standing = s.rsv.standing ∧
      s.watchEdges.rsv.share = s.rsv.share ∧ s.watchEdges.rsv.shareSum = s.rsv.shareSum ∧
      s.watchEdges.rsv.shortfall = s.rsv.shortfall ∧ s.watchEdges.log.mask = s.log.mask ∧
      s.watchEdges.log.counters.length = s.log.counters.length ∧ s.watchEdges.prt.answer = s.prt.answer ∧
      s.watchEdges.prt.response = s.prt.response ∧ s.watchEdges.prt.mask = s.prt.mask := by
  simp only [State.watchEdges]
  (repeat' split) <;> simp

@[simp] theorem State.rsvTick_keeps (s : State) :
    s.rsvTick.rsv.freq = s.rsv.freq ∧ s.rsvTick.rsv.edgeSeen = s.rsv.edgeSeen ∧
      s.rsvTick.rsv.hostDuration = s.rsv.hostDuration ∧ s.rsvTick.stg.seq = s.stg.seq ∧ s.rsvTick.stg.answer = s.stg.answer ∧
      s.rsvTick.stg.gap = s.stg.gap ∧ s.rsvTick.stg.measured = s.stg.measured ∧ s.rsvTick.stg.volts = s.stg.volts ∧
      s.rsvTick.stg.isOpen = s.stg.isOpen ∧ s.rsvTick.stg.meterLost = s.stg.meterLost ∧
      s.rsvTick.stg.stageFault = s.stg.stageFault ∧ s.rsvTick.stg.sent = s.stg.sent ∧ s.rsvTick.alt.result = s.alt.result ∧
      s.rsvTick.alt.grant = s.alt.grant ∧ s.rsvTick.lnk.station = s.lnk.station ∧ s.rsvTick.lnk.listening = s.lnk.listening ∧
      s.rsvTick.lnk.streak = s.lnk.streak ∧ s.rsvTick.lnk.dupBay = s.lnk.dupBay ∧ s.rsvTick.lnk.lineIdle = s.lnk.lineIdle ∧
      s.rsvTick.lnk.armed = s.lnk.armed ∧ s.rsvTick.log.mask = s.log.mask ∧
      s.rsvTick.log.counters.length = s.log.counters.length ∧ s.rsvTick.prt.answer = s.prt.answer ∧
      s.rsvTick.prt.response = s.prt.response ∧ s.rsvTick.prt.mask = s.prt.mask := by
  simp only [State.rsvTick]
  (repeat' split) <;> simp

@[simp] theorem State.refreshBoundary_keeps (s : State) :
    s.refreshBoundary.rsv.freq = s.rsv.freq ∧ s.refreshBoundary.rsv.edgeSeen = s.rsv.edgeSeen ∧
      s.refreshBoundary.rsv.edgeWatch = s.rsv.edgeWatch ∧ s.refreshBoundary.rsv.senseFault = s.rsv.senseFault ∧
      s.refreshBoundary.rsv.hostDuration = s.rsv.hostDuration ∧ s.refreshBoundary.stg.seq = s.stg.seq ∧
      s.refreshBoundary.stg.answer = s.stg.answer ∧ s.refreshBoundary.stg.gap = s.stg.gap ∧
      s.refreshBoundary.stg.measured = s.stg.measured ∧ s.refreshBoundary.stg.volts = s.stg.volts ∧
      s.refreshBoundary.stg.isOpen = s.stg.isOpen ∧ s.refreshBoundary.stg.meterLost = s.stg.meterLost ∧
      s.refreshBoundary.stg.stageFault = s.stg.stageFault ∧ s.refreshBoundary.stg.sent = s.stg.sent ∧
      s.refreshBoundary.alt.result = s.alt.result ∧ s.refreshBoundary.alt.grant = s.alt.grant ∧
      s.refreshBoundary.lnk.station = s.lnk.station ∧ s.refreshBoundary.lnk.listening = s.lnk.listening ∧
      s.refreshBoundary.lnk.streak = s.lnk.streak ∧ s.refreshBoundary.lnk.dupBay = s.lnk.dupBay ∧
      s.refreshBoundary.lnk.lineIdle = s.lnk.lineIdle ∧ s.refreshBoundary.lnk.armed = s.lnk.armed ∧
      s.refreshBoundary.log.mask = s.log.mask ∧ s.refreshBoundary.log.counters.length = s.log.counters.length ∧
      s.refreshBoundary.prt.answer = s.prt.answer ∧ s.refreshBoundary.prt.response = s.prt.response ∧
      s.refreshBoundary.prt.mask = s.prt.mask := by
  simp only [State.refreshBoundary]
  (repeat' split) <;> simp

@[simp] theorem State.rsvCountdown_keeps (s : State) :
    s.rsvCountdown.rsv.freq = s.rsv.freq ∧ s.rsvCountdown.rsv.edgeSeen = s.rsv.edgeSeen ∧
      s.rsvCountdown.rsv.edgeWatch = s.rsv.edgeWatch ∧ s.rsvCountdown.rsv.senseFault = s.rsv.senseFault ∧
      s.rsvCountdown.rsv.hostDuration = s.rsv.hostDuration ∧ s.rsvCountdown.stg.seq = s.stg.seq ∧
      s.rsvCountdown.stg.answer = s.stg.answer ∧ s.rsvCountdown.stg.gap = s.stg.gap ∧
      s.rsvCountdown.stg.measured = s.stg.measured ∧ s.rsvCountdown.stg.volts = s.stg.volts ∧
      s.rsvCountdown.stg.isOpen = s.stg.isOpen ∧ s.rsvCountdown.stg.meterLost = s.stg.meterLost ∧
      s.rsvCountdown.stg.stageFault = s.stg.stageFault ∧ s.rsvCountdown.stg.sent = s.stg.sent ∧
      s.rsvCountdown.alt.result = s.alt.result ∧ s.rsvCountdown.alt.grant = s.alt.grant ∧
      s.rsvCountdown.lnk.station = s.lnk.station ∧ s.rsvCountdown.lnk.listening = s.lnk.listening ∧
      s.rsvCountdown.lnk.streak = s.lnk.streak ∧ s.rsvCountdown.lnk.dupBay = s.lnk.dupBay ∧
      s.rsvCountdown.lnk.lineIdle = s.lnk.lineIdle ∧ s.rsvCountdown.lnk.armed = s.lnk.armed ∧
      s.rsvCountdown.log.mask = s.log.mask ∧ s.rsvCountdown.log.counters.length = s.log.counters.length ∧
      s.rsvCountdown.prt.answer = s.prt.answer ∧ s.rsvCountdown.prt.response = s.prt.response ∧
      s.rsvCountdown.prt.mask = s.prt.mask := by
  simp only [State.rsvCountdown]
  (repeat' split) <;> simp

@[simp] theorem State.withdraw_keeps (s : State) :
    s.withdraw.rsv.freq = s.rsv.freq ∧ s.withdraw.rsv.edgeSeen = s.rsv.edgeSeen ∧ s.withdraw.rsv.edgeWatch = s.rsv.edgeWatch ∧
      s.withdraw.rsv.senseFault = s.rsv.senseFault ∧ s.withdraw.rsv.hostDemand = s.rsv.hostDemand ∧
      s.withdraw.rsv.hostDuration = s.rsv.hostDuration ∧ s.withdraw.rsv.ownSeq = s.rsv.ownSeq ∧
      s.withdraw.rsv.lastSeq = s.rsv.lastSeq ∧ s.withdraw.rsv.holder = s.rsv.holder ∧ s.withdraw.rsv.active = s.rsv.active ∧
      s.withdraw.rsv.dActive = s.rsv.dActive ∧ s.withdraw.rsv.remaining = s.rsv.remaining ∧
      s.withdraw.rsv.refresh = s.rsv.refresh ∧ s.withdraw.rsv.baseline = s.rsv.baseline ∧
      s.withdraw.rsv.members = s.rsv.members ∧ s.withdraw.rsv.origin = s.rsv.origin ∧
      s.withdraw.rsv.ownPledge = s.rsv.ownPledge ∧ s.withdraw.rsv.shareSum = s.rsv.shareSum ∧
      s.withdraw.rsv.shortfall = s.rsv.shortfall ∧ s.withdraw.stg.seq = s.stg.seq ∧ s.withdraw.stg.answer = s.stg.answer ∧
      s.withdraw.stg.gap = s.stg.gap ∧ s.withdraw.stg.measured = s.stg.measured ∧ s.withdraw.stg.volts = s.stg.volts ∧
      s.withdraw.stg.isOpen = s.stg.isOpen ∧ s.withdraw.stg.meterLost = s.stg.meterLost ∧
      s.withdraw.stg.stageFault = s.stg.stageFault ∧ s.withdraw.stg.sent = s.stg.sent ∧ s.withdraw.log.mask = s.log.mask ∧
      s.withdraw.log.counters.length = s.log.counters.length ∧ s.withdraw.prt.answer = s.prt.answer ∧
      s.withdraw.prt.response = s.prt.response ∧ s.withdraw.prt.mask = s.prt.mask := by
  simp only [State.withdraw]
  (repeat' split) <;> simp

@[simp] theorem State.withdrawalCheck_keeps (s : State) :
    s.withdrawalCheck.rsv.freq = s.rsv.freq ∧ s.withdrawalCheck.rsv.edgeSeen = s.rsv.edgeSeen ∧
      s.withdrawalCheck.rsv.edgeWatch = s.rsv.edgeWatch ∧ s.withdrawalCheck.rsv.senseFault = s.rsv.senseFault ∧
      s.withdrawalCheck.rsv.hostDemand = s.rsv.hostDemand ∧ s.withdrawalCheck.rsv.hostDuration = s.rsv.hostDuration ∧
      s.withdrawalCheck.rsv.ownSeq = s.rsv.ownSeq ∧ s.withdrawalCheck.rsv.lastSeq = s.rsv.lastSeq ∧
      s.withdrawalCheck.rsv.holder = s.rsv.holder ∧ s.withdrawalCheck.rsv.active = s.rsv.active ∧
      s.withdrawalCheck.rsv.dActive = s.rsv.dActive ∧ s.withdrawalCheck.rsv.remaining = s.rsv.remaining ∧
      s.withdrawalCheck.rsv.refresh = s.rsv.refresh ∧ s.withdrawalCheck.rsv.baseline = s.rsv.baseline ∧
      s.withdrawalCheck.rsv.members = s.rsv.members ∧ s.withdrawalCheck.rsv.origin = s.rsv.origin ∧
      s.withdrawalCheck.rsv.ownPledge = s.rsv.ownPledge ∧ s.withdrawalCheck.rsv.shareSum = s.rsv.shareSum ∧
      s.withdrawalCheck.rsv.shortfall = s.rsv.shortfall ∧ s.withdrawalCheck.stg.seq = s.stg.seq ∧
      s.withdrawalCheck.stg.answer = s.stg.answer ∧ s.withdrawalCheck.stg.gap = s.stg.gap ∧
      s.withdrawalCheck.stg.measured = s.stg.measured ∧ s.withdrawalCheck.stg.volts = s.stg.volts ∧
      s.withdrawalCheck.stg.isOpen = s.stg.isOpen ∧ s.withdrawalCheck.stg.meterLost = s.stg.meterLost ∧
      s.withdrawalCheck.stg.stageFault = s.stg.stageFault ∧ s.withdrawalCheck.stg.sent = s.stg.sent ∧
      s.withdrawalCheck.log.mask = s.log.mask ∧ s.withdrawalCheck.log.counters.length = s.log.counters.length ∧
      s.withdrawalCheck.prt.answer = s.prt.answer ∧ s.withdrawalCheck.prt.response = s.prt.response ∧
      s.withdrawalCheck.prt.mask = s.prt.mask := by
  simp only [State.withdrawalCheck]
  (repeat' split) <;> simp

@[simp] theorem State.rsvSessionEnd_keeps (s : State) :
    s.rsvSessionEnd.rsv.freq = s.rsv.freq ∧ s.rsvSessionEnd.rsv.edgeSeen = s.rsv.edgeSeen ∧
      s.rsvSessionEnd.rsv.edgeWatch = s.rsv.edgeWatch ∧ s.rsvSessionEnd.rsv.senseFault = s.rsv.senseFault ∧
      s.rsvSessionEnd.rsv.hostDemand = s.rsv.hostDemand ∧ s.rsvSessionEnd.rsv.hostDuration = s.rsv.hostDuration ∧
      s.rsvSessionEnd.rsv.ownSeq = s.rsv.ownSeq ∧ s.rsvSessionEnd.rsv.lastSeq = s.rsv.lastSeq ∧
      s.rsvSessionEnd.rsv.holder = s.rsv.holder ∧ s.rsvSessionEnd.rsv.active = s.rsv.active ∧
      s.rsvSessionEnd.rsv.dActive = s.rsv.dActive ∧ s.rsvSessionEnd.rsv.remaining = s.rsv.remaining ∧
      s.rsvSessionEnd.rsv.refresh = s.rsv.refresh ∧ s.rsvSessionEnd.rsv.baseline = s.rsv.baseline ∧
      s.rsvSessionEnd.rsv.members = s.rsv.members ∧ s.rsvSessionEnd.rsv.origin = s.rsv.origin ∧
      s.rsvSessionEnd.rsv.ownPledge = s.rsv.ownPledge ∧ s.rsvSessionEnd.rsv.shareSum = s.rsv.shareSum ∧
      s.rsvSessionEnd.rsv.shortfall = s.rsv.shortfall ∧ s.rsvSessionEnd.stg.seq = s.stg.seq ∧
      s.rsvSessionEnd.stg.answer = s.stg.answer ∧ s.rsvSessionEnd.stg.gap = s.stg.gap ∧
      s.rsvSessionEnd.stg.measured = s.stg.measured ∧ s.rsvSessionEnd.stg.volts = s.stg.volts ∧
      s.rsvSessionEnd.stg.isOpen = s.stg.isOpen ∧ s.rsvSessionEnd.stg.meterLost = s.stg.meterLost ∧
      s.rsvSessionEnd.stg.stageFault = s.stg.stageFault ∧ s.rsvSessionEnd.stg.sent = s.stg.sent ∧
      s.rsvSessionEnd.log.mask = s.log.mask ∧ s.rsvSessionEnd.log.counters.length = s.log.counters.length ∧
      s.rsvSessionEnd.prt.answer = s.prt.answer ∧ s.rsvSessionEnd.prt.response = s.prt.response ∧
      s.rsvSessionEnd.prt.mask = s.prt.mask := by
  simp only [State.rsvSessionEnd]
  (repeat' split) <;> simp

@[simp] theorem State.rsvSessionBegin_keeps (s : State) :
    s.rsvSessionBegin.rsv.freq = s.rsv.freq ∧ s.rsvSessionBegin.rsv.edgeSeen = s.rsv.edgeSeen ∧
      s.rsvSessionBegin.rsv.edgeWatch = s.rsv.edgeWatch ∧ s.rsvSessionBegin.rsv.senseFault = s.rsv.senseFault ∧
      s.rsvSessionBegin.rsv.hostDemand = s.rsv.hostDemand ∧ s.rsvSessionBegin.rsv.hostDuration = s.rsv.hostDuration ∧
      s.rsvSessionBegin.rsv.ownSeq = s.rsv.ownSeq ∧ s.rsvSessionBegin.rsv.lastSeq = s.rsv.lastSeq ∧
      s.rsvSessionBegin.rsv.holder = s.rsv.holder ∧ s.rsvSessionBegin.rsv.active = s.rsv.active ∧
      s.rsvSessionBegin.rsv.dActive = s.rsv.dActive ∧ s.rsvSessionBegin.rsv.remaining = s.rsv.remaining ∧
      s.rsvSessionBegin.rsv.refresh = s.rsv.refresh ∧ s.rsvSessionBegin.rsv.baseline = s.rsv.baseline ∧
      s.rsvSessionBegin.rsv.members = s.rsv.members ∧ s.rsvSessionBegin.rsv.origin = s.rsv.origin ∧
      s.rsvSessionBegin.rsv.ownPledge = s.rsv.ownPledge ∧ s.rsvSessionBegin.rsv.shareSum = s.rsv.shareSum ∧
      s.rsvSessionBegin.rsv.shortfall = s.rsv.shortfall ∧ s.rsvSessionBegin.stg.seq = s.stg.seq ∧
      s.rsvSessionBegin.stg.answer = s.stg.answer ∧ s.rsvSessionBegin.stg.gap = s.stg.gap ∧
      s.rsvSessionBegin.stg.measured = s.stg.measured ∧ s.rsvSessionBegin.stg.volts = s.stg.volts ∧
      s.rsvSessionBegin.stg.isOpen = s.stg.isOpen ∧ s.rsvSessionBegin.stg.meterLost = s.stg.meterLost ∧
      s.rsvSessionBegin.stg.stageFault = s.stg.stageFault ∧ s.rsvSessionBegin.stg.sent = s.stg.sent := by
  simp only [State.rsvSessionBegin]
  (repeat' split) <;> simp

@[simp] theorem State.missLeg_keeps (s : State) (v : Session) :
    (s.missLeg v).log.mask = s.log.mask ∧ (s.missLeg v).log.counters.length = s.log.counters.length ∧
      (s.missLeg v).prt.answer = s.prt.answer ∧ (s.missLeg v).prt.response = s.prt.response ∧
      (s.missLeg v).prt.mask = s.prt.mask := by
  simp only [State.missLeg]
  (repeat' split) <;> simp

@[simp] theorem State.readySession_keeps (s : State) (c : ConfigRecord) :
    (s.readySession c).log.mask = s.log.mask ∧ (s.readySession c).log.counters.length = s.log.counters.length ∧
      (s.readySession c).prt.answer = s.prt.answer ∧ (s.readySession c).prt.response = s.prt.response ∧
      (s.readySession c).prt.mask = s.prt.mask := by
  simp only [State.readySession]
  (repeat' split) <;> simp

@[simp] theorem State.missLegs_keeps (s : State) (w fuel : Nat) :
    (State.missLegs w fuel s).log.mask = s.log.mask ∧ (State.missLegs w fuel s).log.counters.length = s.log.counters.length ∧
      (State.missLegs w fuel s).prt.answer = s.prt.answer ∧ (State.missLegs w fuel s).prt.response = s.prt.response ∧
      (State.missLegs w fuel s).prt.mask = s.prt.mask := by
  induction fuel generalizing s with
  | zero => simp [State.missLegs]
  | succ n ih =>
    simp only [State.missLegs]
    (repeat' split) <;> simp [ih]

@[simp] theorem State.sessionBoundary_keeps (s : State) :
    s.sessionBoundary.log.mask = s.log.mask ∧ s.sessionBoundary.log.counters.length = s.log.counters.length ∧
      s.sessionBoundary.prt.answer = s.prt.answer ∧ s.sessionBoundary.prt.response = s.prt.response ∧
      s.sessionBoundary.prt.mask = s.prt.mask := by
  simp only [State.sessionBoundary]
  (repeat' split) <;> simp

@[simp] theorem State.claimAndLatch_keeps (s : State) :
    s.claimAndLatch.lnk.station = s.lnk.station ∧ s.claimAndLatch.lnk.listening = s.lnk.listening ∧
      s.claimAndLatch.lnk.streak = s.lnk.streak ∧ s.claimAndLatch.lnk.dupBay = s.lnk.dupBay ∧
      s.claimAndLatch.lnk.lineIdle = s.lnk.lineIdle ∧ s.claimAndLatch.lnk.armed = s.lnk.armed ∧
      s.claimAndLatch.alt.result = s.alt.result ∧ s.claimAndLatch.alt.grant = s.alt.grant := by
  simp only [State.claimAndLatch]
  (repeat' split) <;> simp

@[simp] theorem State.sesBoundary_keeps (s : State) :
    s.sesBoundary.lnk.station = s.lnk.station ∧ s.sesBoundary.lnk.listening = s.lnk.listening ∧
      s.sesBoundary.lnk.streak = s.lnk.streak ∧ s.sesBoundary.lnk.dupBay = s.lnk.dupBay ∧
      s.sesBoundary.lnk.lineIdle = s.lnk.lineIdle ∧ s.sesBoundary.lnk.armed = s.lnk.armed ∧
      s.sesBoundary.alt.result = s.alt.result ∧ s.sesBoundary.alt.grant = s.alt.grant ∧ s.sesBoundary.log.mask = s.log.mask ∧
      s.sesBoundary.log.counters.length = s.log.counters.length ∧ s.sesBoundary.prt.answer = s.prt.answer ∧
      s.sesBoundary.prt.response = s.prt.response ∧ s.sesBoundary.prt.mask = s.prt.mask := by
  simp only [State.sesBoundary]
  (repeat' split) <;> simp

@[simp] theorem State.dropSession_keeps (s : State) :
    s.dropSession.alt.result = s.alt.result ∧ s.dropSession.rsv.freq = s.rsv.freq ∧
      s.dropSession.rsv.edgeSeen = s.rsv.edgeSeen ∧ s.dropSession.rsv.edgeWatch = s.rsv.edgeWatch ∧
      s.dropSession.rsv.senseFault = s.rsv.senseFault ∧ s.dropSession.rsv.hostDemand = s.rsv.hostDemand ∧
      s.dropSession.rsv.hostDuration = s.rsv.hostDuration ∧ s.dropSession.rsv.ownSeq = s.rsv.ownSeq ∧
      s.dropSession.rsv.lastSeq = s.rsv.lastSeq ∧ s.dropSession.rsv.holder = s.rsv.holder ∧
      s.dropSession.rsv.active = s.rsv.active ∧ s.dropSession.rsv.dActive = s.rsv.dActive ∧
      s.dropSession.rsv.remaining = s.rsv.remaining ∧ s.dropSession.rsv.refresh = s.rsv.refresh ∧
      s.dropSession.rsv.members = s.rsv.members ∧ s.dropSession.rsv.origin = s.rsv.origin ∧
      s.dropSession.rsv.ownPledge = s.rsv.ownPledge ∧ s.dropSession.rsv.shareSum = s.rsv.shareSum ∧
      s.dropSession.rsv.shortfall = s.rsv.shortfall ∧ s.dropSession.stg.seq = s.stg.seq ∧
      s.dropSession.stg.answer = s.stg.answer ∧ s.dropSession.stg.gap = s.stg.gap ∧
      s.dropSession.stg.measured = s.stg.measured ∧ s.dropSession.stg.volts = s.stg.volts ∧
      s.dropSession.stg.isOpen = s.stg.isOpen ∧ s.dropSession.stg.meterLost = s.stg.meterLost ∧
      s.dropSession.stg.stageFault = s.stg.stageFault ∧ s.dropSession.stg.sent = s.stg.sent ∧
      s.dropSession.ptb.entries = s.ptb.entries ∧ s.dropSession.log.mask = s.log.mask ∧
      s.dropSession.log.counters.length = s.log.counters.length ∧ s.dropSession.prt.answer = s.prt.answer ∧
      s.dropSession.prt.response = s.prt.response ∧ s.dropSession.prt.mask = s.prt.mask := by
  simp only [State.dropSession]
  (repeat' split) <;> simp

@[simp] theorem State.captureUnplug_keeps (s : State) (v : Session) :
    (s.captureUnplug v).log.mask = s.log.mask ∧ (s.captureUnplug v).log.counters.length = s.log.counters.length ∧
      (s.captureUnplug v).prt.answer = s.prt.answer ∧ (s.captureUnplug v).prt.response = s.prt.response ∧
      (s.captureUnplug v).prt.mask = s.prt.mask := by
  simp only [State.captureUnplug]
  (repeat' split) <;> simp

@[simp] theorem State.dropOffer_keeps (s : State) (e : ParkEntry) :
    (s.dropOffer e).lnk.station = s.lnk.station ∧ (s.dropOffer e).lnk.listening = s.lnk.listening ∧
      (s.dropOffer e).lnk.streak = s.lnk.streak ∧ (s.dropOffer e).lnk.dupBay = s.lnk.dupBay ∧
      (s.dropOffer e).lnk.lineIdle = s.lnk.lineIdle ∧ (s.dropOffer e).lnk.armed = s.lnk.armed := by
  simp only [State.dropOffer]
  (repeat' split) <;> simp

@[simp] theorem State.removePark_keeps (s : State) (b : Nat) :
    (s.removePark b).prk.last = s.prk.last ∧ (s.removePark b).prk.query = s.prk.query ∧
      (s.removePark b).lnk.station = s.lnk.station ∧ (s.removePark b).lnk.listening = s.lnk.listening ∧
      (s.removePark b).lnk.streak = s.lnk.streak ∧ (s.removePark b).lnk.dupBay = s.lnk.dupBay ∧
      (s.removePark b).lnk.lineIdle = s.lnk.lineIdle ∧ (s.removePark b).lnk.armed = s.lnk.armed := by
  simp only [State.removePark]
  (repeat' split) <;> simp

@[simp] theorem State.evictOldest_keeps (s : State) :
    s.evictOldest.prk.last = s.prk.last ∧ s.evictOldest.prk.query = s.prk.query ∧ s.evictOldest.lnk.station = s.lnk.station ∧
      s.evictOldest.lnk.listening = s.lnk.listening ∧ s.evictOldest.lnk.streak = s.lnk.streak ∧
      s.evictOldest.lnk.dupBay = s.lnk.dupBay ∧ s.evictOldest.lnk.lineIdle = s.lnk.lineIdle ∧
      s.evictOldest.lnk.armed = s.lnk.armed ∧ s.evictOldest.log.mask = s.log.mask ∧
      s.evictOldest.log.counters.length = s.log.counters.length ∧ s.evictOldest.prt.answer = s.prt.answer ∧
      s.evictOldest.prt.response = s.prt.response ∧ s.evictOldest.prt.mask = s.prt.mask := by
  simp only [State.evictOldest]
  (repeat' split) <;> simp

@[simp] theorem State.park_keeps (s : State) (b h : Nat) (x : Context) :
    (s.park b h x).prk.last = s.prk.last ∧ (s.park b h x).prk.query = s.prk.query ∧
      (s.park b h x).lnk.station = s.lnk.station ∧ (s.park b h x).lnk.listening = s.lnk.listening ∧
      (s.park b h x).lnk.streak = s.lnk.streak ∧ (s.park b h x).lnk.dupBay = s.lnk.dupBay ∧
      (s.park b h x).lnk.lineIdle = s.lnk.lineIdle ∧ (s.park b h x).lnk.armed = s.lnk.armed ∧
      (s.park b h x).log.mask = s.log.mask ∧ (s.park b h x).log.counters.length = s.log.counters.length ∧
      (s.park b h x).prt.answer = s.prt.answer ∧ (s.park b h x).prt.response = s.prt.response ∧
      (s.park b h x).prt.mask = s.prt.mask := by
  simp only [State.park]
  (repeat' split) <;> simp

@[simp] theorem State.openWindow_keeps (s : State) (b : Nat) :
    (s.openWindow b).prk.entries = s.prk.entries ∧ (s.openWindow b).prk.last = s.prk.last ∧
      (s.openWindow b).lnk.station = s.lnk.station ∧ (s.openWindow b).lnk.listening = s.lnk.listening ∧
      (s.openWindow b).lnk.streak = s.lnk.streak ∧ (s.openWindow b).lnk.dupBay = s.lnk.dupBay ∧
      (s.openWindow b).lnk.lineIdle = s.lnk.lineIdle ∧ (s.openWindow b).lnk.armed = s.lnk.armed := by
  simp only [State.openWindow]
  (repeat' split) <;> simp

@[simp] theorem State.endWindow_keeps (s : State) (w : WindowFigures) :
    (s.endWindow w).prk.entries = s.prk.entries ∧ (s.endWindow w).prk.last = s.prk.last ∧ (s.endWindow w).lnk.station = s.lnk.station ∧
      (s.endWindow w).lnk.listening = s.lnk.listening ∧ (s.endWindow w).lnk.streak = s.lnk.streak ∧
      (s.endWindow w).lnk.dupBay = s.lnk.dupBay ∧ (s.endWindow w).lnk.lineIdle = s.lnk.lineIdle ∧ (s.endWindow w).lnk.armed = s.lnk.armed := by
  simp only [State.endWindow]
  (repeat' split) <;> simp

@[simp] theorem State.cancelWindow_keeps (s : State) :
    s.cancelWindow.prk.entries = s.prk.entries ∧ s.cancelWindow.prk.last = s.prk.last ∧ s.cancelWindow.lnk.station = s.lnk.station ∧
      s.cancelWindow.lnk.listening = s.lnk.listening ∧ s.cancelWindow.lnk.streak = s.lnk.streak ∧
      s.cancelWindow.lnk.dupBay = s.lnk.dupBay ∧ s.cancelWindow.lnk.lineIdle = s.lnk.lineIdle ∧ s.cancelWindow.lnk.armed = s.lnk.armed := by
  simp only [State.cancelWindow]
  (repeat' split) <;> simp

@[simp] theorem State.recordHandover_keeps (s : State) (h : Handover) :
    (s.recordHandover h).prk.entries = s.prk.entries ∧ (s.recordHandover h).prk.query = s.prk.query := by
  simp only [State.recordHandover]
  (repeat' split) <;> simp

@[simp] theorem State.closeRestored_keeps (s : State) (q : Query) (c : Candidate) :
    (s.closeRestored q c).prk.entries = s.prk.entries ∧ (s.closeRestored q c).lnk.station = s.lnk.station ∧
      (s.closeRestored q c).lnk.listening = s.lnk.listening ∧ (s.closeRestored q c).lnk.streak = s.lnk.streak ∧
      (s.closeRestored q c).lnk.dupBay = s.lnk.dupBay ∧ (s.closeRestored q c).lnk.lineIdle = s.lnk.lineIdle ∧
      (s.closeRestored q c).lnk.armed = s.lnk.armed ∧ (s.closeRestored q c).stg.seq = s.stg.seq ∧
      (s.closeRestored q c).stg.answer = s.stg.answer ∧ (s.closeRestored q c).stg.gap = s.stg.gap ∧
      (s.closeRestored q c).stg.measured = s.stg.measured ∧ (s.closeRestored q c).stg.volts = s.stg.volts ∧
      (s.closeRestored q c).stg.isOpen = s.stg.isOpen ∧ (s.closeRestored q c).stg.meterLost = s.stg.meterLost ∧
      (s.closeRestored q c).stg.stageFault = s.stg.stageFault ∧ (s.closeRestored q c).stg.sent = s.stg.sent ∧
      (s.closeRestored q c).prt.answer = s.prt.answer ∧ (s.closeRestored q c).prt.response = s.prt.response ∧
      (s.closeRestored q c).prt.mask = s.prt.mask ∧ (s.closeRestored q c).log.mask = s.log.mask ∧
      (s.closeRestored q c).log.counters.length = s.log.counters.length := by
  simp only [State.closeRestored]
  (repeat' split) <;> simp

@[simp] theorem State.closeCold_keeps (s : State) (q : Query) :
    (s.closeCold q).prk.entries = s.prk.entries ∧ (s.closeCold q).lnk.station = s.lnk.station ∧
      (s.closeCold q).lnk.listening = s.lnk.listening ∧ (s.closeCold q).lnk.streak = s.lnk.streak ∧
      (s.closeCold q).lnk.dupBay = s.lnk.dupBay ∧ (s.closeCold q).lnk.lineIdle = s.lnk.lineIdle ∧
      (s.closeCold q).lnk.armed = s.lnk.armed ∧ (s.closeCold q).stg.seq = s.stg.seq ∧
      (s.closeCold q).stg.answer = s.stg.answer ∧ (s.closeCold q).stg.gap = s.stg.gap ∧
      (s.closeCold q).stg.measured = s.stg.measured ∧ (s.closeCold q).stg.volts = s.stg.volts ∧
      (s.closeCold q).stg.isOpen = s.stg.isOpen ∧ (s.closeCold q).stg.meterLost = s.stg.meterLost ∧
      (s.closeCold q).stg.stageFault = s.stg.stageFault ∧ (s.closeCold q).stg.sent = s.stg.sent ∧
      (s.closeCold q).alt.result = s.alt.result ∧ (s.closeCold q).rsv.freq = s.rsv.freq ∧
      (s.closeCold q).rsv.edgeSeen = s.rsv.edgeSeen ∧ (s.closeCold q).rsv.edgeWatch = s.rsv.edgeWatch ∧
      (s.closeCold q).rsv.senseFault = s.rsv.senseFault ∧ (s.closeCold q).rsv.hostDemand = s.rsv.hostDemand ∧
      (s.closeCold q).rsv.hostDuration = s.rsv.hostDuration ∧ (s.closeCold q).rsv.ownSeq = s.rsv.ownSeq ∧
      (s.closeCold q).rsv.lastSeq = s.rsv.lastSeq ∧ (s.closeCold q).rsv.holder = s.rsv.holder ∧
      (s.closeCold q).rsv.active = s.rsv.active ∧ (s.closeCold q).rsv.dActive = s.rsv.dActive ∧
      (s.closeCold q).rsv.remaining = s.rsv.remaining ∧ (s.closeCold q).rsv.refresh = s.rsv.refresh ∧
      (s.closeCold q).rsv.members = s.rsv.members ∧ (s.closeCold q).rsv.origin = s.rsv.origin ∧
      (s.closeCold q).rsv.ownPledge = s.rsv.ownPledge ∧ (s.closeCold q).rsv.shareSum = s.rsv.shareSum ∧
      (s.closeCold q).rsv.shortfall = s.rsv.shortfall ∧ (s.closeCold q).ptb.entries = s.ptb.entries ∧
      (s.closeCold q).prt.answer = s.prt.answer ∧ (s.closeCold q).prt.response = s.prt.response ∧
      (s.closeCold q).prt.mask = s.prt.mask ∧ (s.closeCold q).log.mask = s.log.mask ∧
      (s.closeCold q).log.counters.length = s.log.counters.length := by
  simp only [State.closeCold]
  (repeat' split) <;> simp

@[simp] theorem State.windowBoundary_keeps (s : State) :
    s.windowBoundary.prk.entries = s.prk.entries ∧ s.windowBoundary.lnk.station = s.lnk.station ∧
      s.windowBoundary.lnk.listening = s.lnk.listening ∧ s.windowBoundary.lnk.streak = s.lnk.streak ∧
      s.windowBoundary.lnk.dupBay = s.lnk.dupBay ∧ s.windowBoundary.lnk.lineIdle = s.lnk.lineIdle ∧
      s.windowBoundary.lnk.armed = s.lnk.armed ∧ s.windowBoundary.stg.seq = s.stg.seq ∧
      s.windowBoundary.stg.answer = s.stg.answer ∧ s.windowBoundary.stg.gap = s.stg.gap ∧
      s.windowBoundary.stg.measured = s.stg.measured ∧ s.windowBoundary.stg.volts = s.stg.volts ∧
      s.windowBoundary.stg.isOpen = s.stg.isOpen ∧ s.windowBoundary.stg.meterLost = s.stg.meterLost ∧
      s.windowBoundary.stg.stageFault = s.stg.stageFault ∧ s.windowBoundary.stg.sent = s.stg.sent ∧
      s.windowBoundary.alt.result = s.alt.result ∧ s.windowBoundary.rsv.freq = s.rsv.freq ∧
      s.windowBoundary.rsv.edgeSeen = s.rsv.edgeSeen ∧ s.windowBoundary.rsv.edgeWatch = s.rsv.edgeWatch ∧
      s.windowBoundary.rsv.senseFault = s.rsv.senseFault ∧ s.windowBoundary.rsv.hostDemand = s.rsv.hostDemand ∧
      s.windowBoundary.rsv.hostDuration = s.rsv.hostDuration ∧ s.windowBoundary.rsv.ownSeq = s.rsv.ownSeq ∧
      s.windowBoundary.rsv.lastSeq = s.rsv.lastSeq ∧ s.windowBoundary.rsv.holder = s.rsv.holder ∧
      s.windowBoundary.rsv.active = s.rsv.active ∧ s.windowBoundary.rsv.dActive = s.rsv.dActive ∧
      s.windowBoundary.rsv.remaining = s.rsv.remaining ∧ s.windowBoundary.rsv.refresh = s.rsv.refresh ∧
      s.windowBoundary.rsv.members = s.rsv.members ∧ s.windowBoundary.rsv.origin = s.rsv.origin ∧
      s.windowBoundary.rsv.ownPledge = s.rsv.ownPledge ∧ s.windowBoundary.rsv.shareSum = s.rsv.shareSum ∧
      s.windowBoundary.rsv.shortfall = s.rsv.shortfall ∧ s.windowBoundary.ptb.entries = s.ptb.entries ∧
      s.windowBoundary.prt.answer = s.prt.answer ∧ s.windowBoundary.prt.response = s.prt.response ∧
      s.windowBoundary.prt.mask = s.prt.mask ∧ s.windowBoundary.log.mask = s.log.mask ∧
      s.windowBoundary.log.counters.length = s.log.counters.length := by
  simp only [State.windowBoundary]
  (repeat' split) <;> simp

@[simp] theorem State.foldl_dequeue_keeps (s : State) (es : List ParkEntry) :
    (es.foldl (fun t e => t.dequeue (.offer e.busId)) s).lnk.station = s.lnk.station ∧
      (es.foldl (fun t e => t.dequeue (.offer e.busId)) s).lnk.listening = s.lnk.listening ∧
      (es.foldl (fun t e => t.dequeue (.offer e.busId)) s).lnk.streak = s.lnk.streak ∧
      (es.foldl (fun t e => t.dequeue (.offer e.busId)) s).lnk.dupBay = s.lnk.dupBay ∧
      (es.foldl (fun t e => t.dequeue (.offer e.busId)) s).lnk.lineIdle = s.lnk.lineIdle ∧
      (es.foldl (fun t e => t.dequeue (.offer e.busId)) s).lnk.armed = s.lnk.armed := by
  induction es generalizing s with
  | nil => simp
  | cons e es ih => simp [ih]

@[simp] theorem State.waitsBoundary_keeps (s : State) :
    s.waitsBoundary.prk.last = s.prk.last ∧ s.waitsBoundary.prk.query = s.prk.query ∧
      s.waitsBoundary.lnk.station = s.lnk.station ∧ s.waitsBoundary.lnk.listening = s.lnk.listening ∧
      s.waitsBoundary.lnk.streak = s.lnk.streak ∧ s.waitsBoundary.lnk.dupBay = s.lnk.dupBay ∧
      s.waitsBoundary.lnk.lineIdle = s.lnk.lineIdle ∧ s.waitsBoundary.lnk.armed = s.lnk.armed := by
  simp only [State.waitsBoundary]
  (repeat' split) <;> simp

@[simp] theorem State.expireContext_keeps (s : State) (e : ParkEntry) :
    (s.expireContext e).lnk.station = s.lnk.station ∧ (s.expireContext e).lnk.listening = s.lnk.listening ∧
      (s.expireContext e).lnk.streak = s.lnk.streak ∧ (s.expireContext e).lnk.dupBay = s.lnk.dupBay ∧
      (s.expireContext e).lnk.lineIdle = s.lnk.lineIdle ∧ (s.expireContext e).lnk.armed = s.lnk.armed ∧
      (s.expireContext e).log.mask = s.log.mask ∧ (s.expireContext e).log.counters.length = s.log.counters.length ∧
      (s.expireContext e).prt.answer = s.prt.answer ∧ (s.expireContext e).prt.response = s.prt.response ∧
      (s.expireContext e).prt.mask = s.prt.mask := by
  simp only [State.expireContext]
  (repeat' split) <;> simp

@[simp] theorem State.foldl_expire_keeps (s : State) (es : List ParkEntry) :
    (es.foldl State.expireContext s).lnk.station = s.lnk.station ∧
      (es.foldl State.expireContext s).lnk.listening = s.lnk.listening ∧
      (es.foldl State.expireContext s).lnk.streak = s.lnk.streak ∧
      (es.foldl State.expireContext s).lnk.dupBay = s.lnk.dupBay ∧
      (es.foldl State.expireContext s).lnk.lineIdle = s.lnk.lineIdle ∧
      (es.foldl State.expireContext s).lnk.armed = s.lnk.armed ∧ (es.foldl State.expireContext s).log.mask = s.log.mask ∧
      (es.foldl State.expireContext s).log.counters.length = s.log.counters.length ∧
      (es.foldl State.expireContext s).prt.answer = s.prt.answer ∧
      (es.foldl State.expireContext s).prt.response = s.prt.response ∧ (es.foldl State.expireContext s).prt.mask = s.prt.mask := by
  induction es generalizing s with
  | nil => simp
  | cons e es ih => simp [ih]

@[simp] theorem State.holdsBoundary_keeps (s : State) :
    s.holdsBoundary.prk.last = s.prk.last ∧ s.holdsBoundary.prk.query = s.prk.query ∧
      s.holdsBoundary.lnk.station = s.lnk.station ∧ s.holdsBoundary.lnk.listening = s.lnk.listening ∧
      s.holdsBoundary.lnk.streak = s.lnk.streak ∧ s.holdsBoundary.lnk.dupBay = s.lnk.dupBay ∧
      s.holdsBoundary.lnk.lineIdle = s.lnk.lineIdle ∧ s.holdsBoundary.lnk.armed = s.lnk.armed ∧
      s.holdsBoundary.log.mask = s.log.mask ∧ s.holdsBoundary.log.counters.length = s.log.counters.length ∧
      s.holdsBoundary.prt.answer = s.prt.answer ∧ s.holdsBoundary.prt.response = s.prt.response ∧
      s.holdsBoundary.prt.mask = s.prt.mask := by
  simp only [State.holdsBoundary]
  (repeat' split) <;> simp

@[simp] theorem State.prkBoundary_keeps (s : State) :
    s.prkBoundary.lnk.station = s.lnk.station ∧ s.prkBoundary.lnk.listening = s.lnk.listening ∧
      s.prkBoundary.lnk.streak = s.lnk.streak ∧ s.prkBoundary.lnk.dupBay = s.lnk.dupBay ∧
      s.prkBoundary.lnk.lineIdle = s.lnk.lineIdle ∧ s.prkBoundary.lnk.armed = s.lnk.armed ∧
      s.prkBoundary.stg.seq = s.stg.seq ∧ s.prkBoundary.stg.answer = s.stg.answer ∧ s.prkBoundary.stg.gap = s.stg.gap ∧
      s.prkBoundary.stg.measured = s.stg.measured ∧ s.prkBoundary.stg.volts = s.stg.volts ∧
      s.prkBoundary.stg.isOpen = s.stg.isOpen ∧ s.prkBoundary.stg.meterLost = s.stg.meterLost ∧
      s.prkBoundary.stg.stageFault = s.stg.stageFault ∧ s.prkBoundary.stg.sent = s.stg.sent ∧
      s.prkBoundary.alt.result = s.alt.result ∧ s.prkBoundary.rsv.freq = s.rsv.freq ∧
      s.prkBoundary.rsv.edgeSeen = s.rsv.edgeSeen ∧ s.prkBoundary.rsv.edgeWatch = s.rsv.edgeWatch ∧
      s.prkBoundary.rsv.senseFault = s.rsv.senseFault ∧ s.prkBoundary.rsv.hostDemand = s.rsv.hostDemand ∧
      s.prkBoundary.rsv.hostDuration = s.rsv.hostDuration ∧ s.prkBoundary.rsv.ownSeq = s.rsv.ownSeq ∧
      s.prkBoundary.rsv.lastSeq = s.rsv.lastSeq ∧ s.prkBoundary.rsv.holder = s.rsv.holder ∧
      s.prkBoundary.rsv.active = s.rsv.active ∧ s.prkBoundary.rsv.dActive = s.rsv.dActive ∧
      s.prkBoundary.rsv.remaining = s.rsv.remaining ∧ s.prkBoundary.rsv.refresh = s.rsv.refresh ∧
      s.prkBoundary.rsv.members = s.rsv.members ∧ s.prkBoundary.rsv.origin = s.rsv.origin ∧
      s.prkBoundary.rsv.ownPledge = s.rsv.ownPledge ∧ s.prkBoundary.rsv.shareSum = s.rsv.shareSum ∧
      s.prkBoundary.rsv.shortfall = s.rsv.shortfall ∧ s.prkBoundary.ptb.entries = s.ptb.entries ∧
      s.prkBoundary.prt.answer = s.prt.answer ∧ s.prkBoundary.prt.response = s.prt.response ∧
      s.prkBoundary.prt.mask = s.prt.mask ∧ s.prkBoundary.log.mask = s.log.mask ∧
      s.prkBoundary.log.counters.length = s.log.counters.length := by
  simp only [State.prkBoundary]
  (repeat' split) <;> simp

@[simp] theorem State.prkRollover_keeps (s : State) :
    s.prkRollover.prk.last = s.prk.last := by
  simp only [State.prkRollover]
  (repeat' split) <;> simp

@[simp] theorem State.takeOffer_keeps (s : State) (b : Nat) (o : Offer) :
    (s.takeOffer b o).prk.last = s.prk.last := by
  simp only [State.takeOffer]
  (repeat' split) <;> simp

@[simp] theorem State.takeQuery_keeps (s : State) (b : Nat) :
    (s.takeQuery b).prk.last = s.prk.last ∧ (s.takeQuery b).prk.query = s.prk.query ∧
      (s.takeQuery b).lnk.station = s.lnk.station ∧ (s.takeQuery b).lnk.listening = s.lnk.listening ∧
      (s.takeQuery b).lnk.streak = s.lnk.streak ∧ (s.takeQuery b).lnk.dupBay = s.lnk.dupBay ∧
      (s.takeQuery b).lnk.lineIdle = s.lnk.lineIdle ∧ (s.takeQuery b).lnk.armed = s.lnk.armed := by
  simp only [State.takeQuery]
  (repeat' split) <;> simp

@[simp] theorem State.takeTaken_keeps (s : State) (x b c : Nat) :
    (s.takeTaken x b c).prk.last = s.prk.last ∧ (s.takeTaken x b c).prk.query = s.prk.query ∧
      (s.takeTaken x b c).lnk.station = s.lnk.station ∧ (s.takeTaken x b c).lnk.listening = s.lnk.listening ∧
      (s.takeTaken x b c).lnk.streak = s.lnk.streak ∧ (s.takeTaken x b c).lnk.dupBay = s.lnk.dupBay ∧
      (s.takeTaken x b c).lnk.lineIdle = s.lnk.lineIdle ∧ (s.takeTaken x b c).lnk.armed = s.lnk.armed ∧
      (s.takeTaken x b c).log.mask = s.log.mask ∧ (s.takeTaken x b c).log.counters.length = s.log.counters.length ∧
      (s.takeTaken x b c).prt.answer = s.prt.answer ∧ (s.takeTaken x b c).prt.response = s.prt.response ∧
      (s.takeTaken x b c).prt.mask = s.prt.mask := by
  simp only [State.takeTaken]
  (repeat' split) <;> simp

@[simp] theorem State.withdrawOffers_keeps (s : State) :
    s.withdrawOffers.prk.last = s.prk.last ∧ s.withdrawOffers.prk.query = s.prk.query := by
  simp only [State.withdrawOffers]
  (repeat' split) <;> simp

@[simp] theorem State.dayRollover_keeps (s : State) :
    s.dayRollover.prk.last = s.prk.last := by
  simp only [State.dayRollover]
  (repeat' split) <;> simp

@[simp] theorem State.reserveAndClaim_keeps (s : State) :
    s.reserveAndClaim.rsv.freq = s.rsv.freq ∧ s.reserveAndClaim.rsv.edgeSeen = s.rsv.edgeSeen ∧
      s.reserveAndClaim.rsv.edgeWatch = s.rsv.edgeWatch ∧ s.reserveAndClaim.rsv.senseFault = s.rsv.senseFault ∧
      s.reserveAndClaim.rsv.hostDuration = s.rsv.hostDuration ∧ s.reserveAndClaim.stg.seq = s.stg.seq ∧
      s.reserveAndClaim.stg.answer = s.stg.answer ∧ s.reserveAndClaim.stg.gap = s.stg.gap ∧
      s.reserveAndClaim.stg.measured = s.stg.measured ∧ s.reserveAndClaim.stg.volts = s.stg.volts ∧
      s.reserveAndClaim.stg.isOpen = s.stg.isOpen ∧ s.reserveAndClaim.stg.meterLost = s.stg.meterLost ∧
      s.reserveAndClaim.stg.stageFault = s.stg.stageFault ∧ s.reserveAndClaim.stg.sent = s.stg.sent ∧
      s.reserveAndClaim.alt.result = s.alt.result ∧ s.reserveAndClaim.alt.grant = s.alt.grant ∧
      s.reserveAndClaim.lnk.station = s.lnk.station ∧ s.reserveAndClaim.lnk.listening = s.lnk.listening ∧
      s.reserveAndClaim.lnk.streak = s.lnk.streak ∧ s.reserveAndClaim.lnk.dupBay = s.lnk.dupBay ∧
      s.reserveAndClaim.lnk.lineIdle = s.lnk.lineIdle ∧ s.reserveAndClaim.lnk.armed = s.lnk.armed ∧
      s.reserveAndClaim.log.mask = s.log.mask ∧ s.reserveAndClaim.log.counters.length = s.log.counters.length ∧
      s.reserveAndClaim.prt.answer = s.prt.answer ∧ s.reserveAndClaim.prt.response = s.prt.response ∧
      s.reserveAndClaim.prt.mask = s.prt.mask := by
  simp only [State.reserveAndClaim]
  (repeat' split) <;> simp

@[simp] theorem State.reserveAndSession_keeps (s : State) :
    s.reserveAndSession.rsv.freq = s.rsv.freq ∧ s.reserveAndSession.rsv.edgeSeen = s.rsv.edgeSeen ∧
      s.reserveAndSession.rsv.edgeWatch = s.rsv.edgeWatch ∧ s.reserveAndSession.rsv.senseFault = s.rsv.senseFault ∧
      s.reserveAndSession.rsv.hostDuration = s.rsv.hostDuration ∧ s.reserveAndSession.stg.seq = s.stg.seq ∧
      s.reserveAndSession.stg.answer = s.stg.answer ∧ s.reserveAndSession.stg.gap = s.stg.gap ∧
      s.reserveAndSession.stg.measured = s.stg.measured ∧ s.reserveAndSession.stg.volts = s.stg.volts ∧
      s.reserveAndSession.stg.isOpen = s.stg.isOpen ∧ s.reserveAndSession.stg.meterLost = s.stg.meterLost ∧
      s.reserveAndSession.stg.stageFault = s.stg.stageFault ∧ s.reserveAndSession.stg.sent = s.stg.sent ∧
      s.reserveAndSession.alt.result = s.alt.result ∧ s.reserveAndSession.alt.grant = s.alt.grant ∧
      s.reserveAndSession.lnk.station = s.lnk.station ∧ s.reserveAndSession.lnk.listening = s.lnk.listening ∧
      s.reserveAndSession.lnk.streak = s.lnk.streak ∧ s.reserveAndSession.lnk.dupBay = s.lnk.dupBay ∧
      s.reserveAndSession.lnk.lineIdle = s.lnk.lineIdle ∧ s.reserveAndSession.lnk.armed = s.lnk.armed ∧
      s.reserveAndSession.log.mask = s.log.mask ∧ s.reserveAndSession.log.counters.length = s.log.counters.length ∧
      s.reserveAndSession.prt.answer = s.prt.answer ∧ s.reserveAndSession.prt.response = s.prt.response ∧
      s.reserveAndSession.prt.mask = s.prt.mask := by
  simp only [State.reserveAndSession]
  (repeat' split) <;> simp

@[simp] theorem State.sessionAndPark_keeps (s : State) :
    s.sessionAndPark.rsv.freq = s.rsv.freq ∧ s.sessionAndPark.rsv.edgeSeen = s.rsv.edgeSeen ∧
      s.sessionAndPark.rsv.edgeWatch = s.rsv.edgeWatch ∧ s.sessionAndPark.rsv.senseFault = s.rsv.senseFault ∧
      s.sessionAndPark.rsv.hostDuration = s.rsv.hostDuration ∧ s.sessionAndPark.stg.seq = s.stg.seq ∧
      s.sessionAndPark.stg.answer = s.stg.answer ∧ s.sessionAndPark.stg.gap = s.stg.gap ∧
      s.sessionAndPark.stg.measured = s.stg.measured ∧ s.sessionAndPark.stg.volts = s.stg.volts ∧
      s.sessionAndPark.stg.isOpen = s.stg.isOpen ∧ s.sessionAndPark.stg.meterLost = s.stg.meterLost ∧
      s.sessionAndPark.stg.stageFault = s.stg.stageFault ∧ s.sessionAndPark.stg.sent = s.stg.sent ∧
      s.sessionAndPark.alt.result = s.alt.result ∧ s.sessionAndPark.lnk.station = s.lnk.station ∧
      s.sessionAndPark.lnk.listening = s.lnk.listening ∧ s.sessionAndPark.lnk.streak = s.lnk.streak ∧
      s.sessionAndPark.lnk.dupBay = s.lnk.dupBay ∧ s.sessionAndPark.lnk.lineIdle = s.lnk.lineIdle ∧
      s.sessionAndPark.lnk.armed = s.lnk.armed ∧ s.sessionAndPark.ptb.entries = s.ptb.entries ∧
      s.sessionAndPark.log.mask = s.log.mask ∧ s.sessionAndPark.log.counters.length = s.log.counters.length ∧
      s.sessionAndPark.prt.answer = s.prt.answer ∧ s.sessionAndPark.prt.response = s.prt.response ∧
      s.sessionAndPark.prt.mask = s.prt.mask := by
  simp only [State.sessionAndPark]
  (repeat' split) <;> simp

@[simp] theorem State.boundary_keeps (s : State) (a b : Bool) :
    (s.boundary a b).clk.epoch = s.clk.epoch ∧ (s.boundary a b).clk.tick = s.clk.tick ∧ (s.boundary a b).clk.set = s.clk.set ∧
      (s.boundary a b).clk.tickOwed = s.clk.tickOwed ∧ (s.boundary a b).lnk.dupBay = s.lnk.dupBay ∧
      (s.boundary a b).lnk.lineIdle = s.lnk.lineIdle ∧ (s.boundary a b).lnk.armed = s.lnk.armed ∧
      (s.boundary a b).alt.result = s.alt.result ∧ (s.boundary a b).stg.seq = s.stg.seq ∧
      (s.boundary a b).stg.answer = s.stg.answer ∧ (s.boundary a b).stg.gap = s.stg.gap ∧
      (s.boundary a b).stg.measured = s.stg.measured ∧ (s.boundary a b).stg.volts = s.stg.volts ∧
      (s.boundary a b).stg.isOpen = s.stg.isOpen ∧ (s.boundary a b).stg.meterLost = s.stg.meterLost ∧
      (s.boundary a b).stg.stageFault = s.stg.stageFault ∧ (s.boundary a b).stg.sent = s.stg.sent ∧
      (s.boundary a b).rsv.freq = s.rsv.freq ∧ (s.boundary a b).rsv.edgeSeen = s.rsv.edgeSeen ∧
      (s.boundary a b).rsv.edgeWatch = s.rsv.edgeWatch ∧ (s.boundary a b).rsv.senseFault = s.rsv.senseFault ∧
      (s.boundary a b).rsv.hostDuration = s.rsv.hostDuration ∧ (s.boundary a b).log.mask = s.log.mask ∧
      (s.boundary a b).log.counters.length = s.log.counters.length ∧ (s.boundary a b).prt.answer = s.prt.answer ∧
      (s.boundary a b).prt.response = s.prt.response ∧ (s.boundary a b).prt.mask = s.prt.mask := by
  simp only [State.boundary]
  (repeat' split) <;> simp

@[simp] theorem State.restartAt_keeps (s : State) (e : Nat) :
    (s.restartAt e).clk.set = s.clk.set ∧ (s.restartAt e).clk.tickOwed = false ∧
      (s.restartAt e).clk.disagree = s.clk.disagree := by
  simp only [State.restartAt]
  (repeat' split) <;> simp

@[simp] theorem State.advanced_keeps (s : State) :
    s.advanced.clk.set = s.clk.set ∧ s.advanced.clk.tickOwed = s.clk.tickOwed ∧ s.advanced.clk.disagree = s.clk.disagree := by
  simp only [State.advanced]
  (repeat' split) <;> simp

@[simp] theorem State.tickWork_keeps (s : State) :
    s.tickWork.stg.volts = s.stg.volts ∧ s.tickWork.stg.isOpen = s.stg.isOpen ∧ s.tickWork.stg.stageFault = s.stg.stageFault ∧
      s.tickWork.rsv.freq = s.rsv.freq ∧ s.tickWork.rsv.edgeSeen = s.rsv.edgeSeen ∧
      s.tickWork.rsv.hostDuration = s.rsv.hostDuration ∧ s.tickWork.lnk.station = s.lnk.station ∧
      s.tickWork.lnk.listening = s.lnk.listening ∧ s.tickWork.lnk.streak = s.lnk.streak ∧
      s.tickWork.lnk.dupBay = s.lnk.dupBay ∧ s.tickWork.lnk.lineIdle = s.lnk.lineIdle ∧ s.tickWork.lnk.armed = s.lnk.armed ∧
      s.tickWork.log.mask = s.log.mask ∧ s.tickWork.log.counters.length = s.log.counters.length ∧
      s.tickWork.prt.answer = s.prt.answer ∧ s.tickWork.prt.response = s.prt.response ∧ s.tickWork.prt.mask = s.prt.mask := by
  simp only [State.tickWork]
  (repeat' split) <;> simp

@[simp] theorem State.tickWithin_keeps (s : State) :
    s.tickWithin.clk.epoch = s.clk.epoch ∧ s.tickWithin.clk.set = s.clk.set ∧ s.tickWithin.clk.tickOwed = s.clk.tickOwed ∧
      s.tickWithin.clk.disagree = s.clk.disagree ∧ s.tickWithin.stg.volts = s.stg.volts ∧
      s.tickWithin.stg.isOpen = s.stg.isOpen ∧ s.tickWithin.stg.stageFault = s.stg.stageFault ∧
      s.tickWithin.rsv.freq = s.rsv.freq ∧ s.tickWithin.rsv.edgeSeen = s.rsv.edgeSeen ∧
      s.tickWithin.rsv.hostDuration = s.rsv.hostDuration ∧ s.tickWithin.lnk.station = s.lnk.station ∧
      s.tickWithin.lnk.listening = s.lnk.listening ∧ s.tickWithin.lnk.streak = s.lnk.streak ∧
      s.tickWithin.lnk.dupBay = s.lnk.dupBay ∧ s.tickWithin.lnk.lineIdle = s.lnk.lineIdle ∧
      s.tickWithin.lnk.armed = s.lnk.armed ∧ s.tickWithin.log.mask = s.log.mask ∧
      s.tickWithin.log.counters.length = s.log.counters.length ∧ s.tickWithin.prt.answer = s.prt.answer ∧
      s.tickWithin.prt.response = s.prt.response ∧ s.tickWithin.prt.mask = s.prt.mask := by
  simp only [State.tickWithin]
  (repeat' split) <;> simp

@[simp] theorem State.tickOwing_keeps (s : State) :
    s.tickOwing.clk.epoch = s.clk.epoch ∧ s.tickOwing.clk.set = s.clk.set ∧ s.tickOwing.clk.tickOwed = false ∧
      s.tickOwing.clk.disagree = s.clk.disagree ∧ s.tickOwing.stg.volts = s.stg.volts ∧
      s.tickOwing.stg.isOpen = s.stg.isOpen ∧ s.tickOwing.stg.stageFault = s.stg.stageFault ∧
      s.tickOwing.rsv.freq = s.rsv.freq ∧ s.tickOwing.rsv.edgeSeen = s.rsv.edgeSeen ∧
      s.tickOwing.rsv.hostDuration = s.rsv.hostDuration ∧ s.tickOwing.lnk.station = s.lnk.station ∧
      s.tickOwing.lnk.listening = s.lnk.listening ∧ s.tickOwing.lnk.streak = s.lnk.streak ∧
      s.tickOwing.lnk.dupBay = s.lnk.dupBay ∧ s.tickOwing.lnk.lineIdle = s.lnk.lineIdle ∧
      s.tickOwing.lnk.armed = s.lnk.armed ∧ s.tickOwing.log.mask = s.log.mask ∧
      s.tickOwing.log.counters.length = s.log.counters.length ∧ s.tickOwing.prt.answer = s.prt.answer ∧
      s.tickOwing.prt.response = s.prt.response ∧ s.tickOwing.prt.mask = s.prt.mask := by
  simp only [State.tickOwing]
  (repeat' split) <;> simp

@[simp] theorem State.tickEvent_keeps (s : State) :
    s.tickEvent.clk.set = s.clk.set ∧ s.tickEvent.lnk.dupBay = s.lnk.dupBay ∧ s.tickEvent.lnk.lineIdle = s.lnk.lineIdle ∧
      s.tickEvent.lnk.armed = s.lnk.armed ∧ s.tickEvent.stg.volts = s.stg.volts ∧ s.tickEvent.stg.isOpen = s.stg.isOpen ∧
      s.tickEvent.stg.stageFault = s.stg.stageFault ∧ s.tickEvent.rsv.freq = s.rsv.freq ∧
      s.tickEvent.rsv.edgeSeen = s.rsv.edgeSeen ∧ s.tickEvent.rsv.hostDuration = s.rsv.hostDuration ∧
      s.tickEvent.log.mask = s.log.mask ∧ s.tickEvent.log.counters.length = s.log.counters.length ∧
      s.tickEvent.prt.answer = s.prt.answer ∧ s.tickEvent.prt.response = s.prt.response ∧ s.tickEvent.prt.mask = s.prt.mask := by
  simp only [State.tickEvent]
  (repeat' split) <;> simp

@[simp] theorem State.epochBoundary_keeps (s : State) :
    s.epochBoundary.clk.set = s.clk.set ∧ s.epochBoundary.lnk.dupBay = s.lnk.dupBay ∧
      s.epochBoundary.lnk.lineIdle = s.lnk.lineIdle ∧ s.epochBoundary.lnk.armed = s.lnk.armed ∧
      s.epochBoundary.alt.result = s.alt.result ∧ s.epochBoundary.stg.seq = s.stg.seq ∧
      s.epochBoundary.stg.answer = s.stg.answer ∧ s.epochBoundary.stg.gap = s.stg.gap ∧
      s.epochBoundary.stg.measured = s.stg.measured ∧ s.epochBoundary.stg.volts = s.stg.volts ∧
      s.epochBoundary.stg.isOpen = s.stg.isOpen ∧ s.epochBoundary.stg.meterLost = s.stg.meterLost ∧
      s.epochBoundary.stg.stageFault = s.stg.stageFault ∧ s.epochBoundary.stg.sent = s.stg.sent ∧
      s.epochBoundary.rsv.freq = s.rsv.freq ∧ s.epochBoundary.rsv.edgeSeen = s.rsv.edgeSeen ∧
      s.epochBoundary.rsv.edgeWatch = s.rsv.edgeWatch ∧ s.epochBoundary.rsv.senseFault = s.rsv.senseFault ∧
      s.epochBoundary.rsv.hostDuration = s.rsv.hostDuration ∧ s.epochBoundary.log.mask = s.log.mask ∧
      s.epochBoundary.log.counters.length = s.log.counters.length ∧ s.epochBoundary.prt.answer = s.prt.answer ∧
      s.epochBoundary.prt.response = s.prt.response ∧ s.epochBoundary.prt.mask = s.prt.mask := by
  simp only [State.epochBoundary]
  (repeat' split) <;> simp

@[simp] theorem State.boundaryWhere_keeps (s : State) (x : Bool) :
    (s.boundaryWhere x).clk.set = s.clk.set ∧ (s.boundaryWhere x).lnk.dupBay = s.lnk.dupBay ∧
      (s.boundaryWhere x).lnk.lineIdle = s.lnk.lineIdle ∧ (s.boundaryWhere x).lnk.armed = s.lnk.armed ∧
      (s.boundaryWhere x).alt.result = s.alt.result ∧ (s.boundaryWhere x).stg.seq = s.stg.seq ∧
      (s.boundaryWhere x).stg.answer = s.stg.answer ∧ (s.boundaryWhere x).stg.gap = s.stg.gap ∧
      (s.boundaryWhere x).stg.measured = s.stg.measured ∧ (s.boundaryWhere x).stg.volts = s.stg.volts ∧
      (s.boundaryWhere x).stg.isOpen = s.stg.isOpen ∧ (s.boundaryWhere x).stg.meterLost = s.stg.meterLost ∧
      (s.boundaryWhere x).stg.stageFault = s.stg.stageFault ∧ (s.boundaryWhere x).stg.sent = s.stg.sent ∧
      (s.boundaryWhere x).rsv.freq = s.rsv.freq ∧ (s.boundaryWhere x).rsv.edgeSeen = s.rsv.edgeSeen ∧
      (s.boundaryWhere x).rsv.edgeWatch = s.rsv.edgeWatch ∧ (s.boundaryWhere x).rsv.senseFault = s.rsv.senseFault ∧
      (s.boundaryWhere x).rsv.hostDuration = s.rsv.hostDuration ∧ (s.boundaryWhere x).log.mask = s.log.mask ∧
      (s.boundaryWhere x).log.counters.length = s.log.counters.length ∧ (s.boundaryWhere x).prt.answer = s.prt.answer ∧
      (s.boundaryWhere x).prt.response = s.prt.response ∧ (s.boundaryWhere x).prt.mask = s.prt.mask := by
  simp only [State.boundaryWhere]
  (repeat' split) <;> simp

@[simp] theorem State.tickWhere_keeps (s : State) (x : Bool) :
    (s.tickWhere x).clk.set = s.clk.set ∧ (s.tickWhere x).lnk.dupBay = s.lnk.dupBay ∧
      (s.tickWhere x).lnk.lineIdle = s.lnk.lineIdle ∧ (s.tickWhere x).lnk.armed = s.lnk.armed ∧
      (s.tickWhere x).stg.volts = s.stg.volts ∧ (s.tickWhere x).stg.isOpen = s.stg.isOpen ∧
      (s.tickWhere x).stg.stageFault = s.stg.stageFault ∧ (s.tickWhere x).rsv.freq = s.rsv.freq ∧
      (s.tickWhere x).rsv.edgeSeen = s.rsv.edgeSeen ∧ (s.tickWhere x).rsv.hostDuration = s.rsv.hostDuration ∧
      (s.tickWhere x).log.mask = s.log.mask ∧ (s.tickWhere x).log.counters.length = s.log.counters.length ∧
      (s.tickWhere x).prt.answer = s.prt.answer ∧ (s.tickWhere x).prt.response = s.prt.response ∧
      (s.tickWhere x).prt.mask = s.prt.mask := by
  simp only [State.tickWhere]
  (repeat' split) <;> simp

@[simp] theorem State.adopt_keeps (s : State) (e : Nat) :
    (s.adopt e).clk.set = s.clk.set ∧ (s.adopt e).clk.tickOwed = false ∧ (s.adopt e).lnk.dupBay = s.lnk.dupBay ∧
      (s.adopt e).lnk.lineIdle = s.lnk.lineIdle ∧ (s.adopt e).lnk.armed = s.lnk.armed ∧
      (s.adopt e).alt.result = s.alt.result ∧ (s.adopt e).stg.seq = s.stg.seq ∧ (s.adopt e).stg.answer = s.stg.answer ∧
      (s.adopt e).stg.gap = s.stg.gap ∧ (s.adopt e).stg.measured = s.stg.measured ∧ (s.adopt e).stg.volts = s.stg.volts ∧
      (s.adopt e).stg.isOpen = s.stg.isOpen ∧ (s.adopt e).stg.meterLost = s.stg.meterLost ∧
      (s.adopt e).stg.stageFault = s.stg.stageFault ∧ (s.adopt e).stg.sent = s.stg.sent ∧ (s.adopt e).rsv.freq = s.rsv.freq ∧
      (s.adopt e).rsv.edgeSeen = s.rsv.edgeSeen ∧ (s.adopt e).rsv.edgeWatch = s.rsv.edgeWatch ∧
      (s.adopt e).rsv.senseFault = s.rsv.senseFault ∧ (s.adopt e).rsv.hostDuration = s.rsv.hostDuration ∧
      (s.adopt e).log.mask = s.log.mask ∧ (s.adopt e).log.counters.length = s.log.counters.length ∧
      (s.adopt e).prt.answer = s.prt.answer ∧ (s.adopt e).prt.response = s.prt.response ∧ (s.adopt e).prt.mask = s.prt.mask := by
  simp only [State.adopt]
  (repeat' split) <;> simp

@[simp] theorem State.disagreeWith_keeps (s : State) (b : Nat) :
    (s.disagreeWith b).clk.epoch = s.clk.epoch ∧ (s.disagreeWith b).clk.tick = s.clk.tick ∧
      (s.disagreeWith b).clk.set = s.clk.set ∧ (s.disagreeWith b).clk.tickOwed = s.clk.tickOwed ∧
      (s.disagreeWith b).log.mask = s.log.mask ∧ (s.disagreeWith b).log.counters.length = s.log.counters.length ∧
      (s.disagreeWith b).prt.answer = s.prt.answer ∧ (s.disagreeWith b).prt.response = s.prt.response ∧
      (s.disagreeWith b).prt.mask = s.prt.mask := by
  simp only [State.disagreeWith]
  (repeat' split) <;> simp

@[simp] theorem State.maxSync_keeps (s : State) (b e : Nat) :
    (s.maxSync b e).clk.set = s.clk.set ∧
      (s.maxSync b e).lnk.dupBay = s.lnk.dupBay ∧ (s.maxSync b e).lnk.lineIdle = s.lnk.lineIdle ∧
      (s.maxSync b e).lnk.armed = s.lnk.armed ∧ (s.maxSync b e).alt.result = s.alt.result ∧
      (s.maxSync b e).stg.seq = s.stg.seq ∧ (s.maxSync b e).stg.answer = s.stg.answer ∧ (s.maxSync b e).stg.gap = s.stg.gap ∧
      (s.maxSync b e).stg.measured = s.stg.measured ∧ (s.maxSync b e).stg.volts = s.stg.volts ∧
      (s.maxSync b e).stg.isOpen = s.stg.isOpen ∧ (s.maxSync b e).stg.meterLost = s.stg.meterLost ∧
      (s.maxSync b e).stg.stageFault = s.stg.stageFault ∧ (s.maxSync b e).stg.sent = s.stg.sent ∧
      (s.maxSync b e).rsv.freq = s.rsv.freq ∧ (s.maxSync b e).rsv.edgeSeen = s.rsv.edgeSeen ∧
      (s.maxSync b e).rsv.edgeWatch = s.rsv.edgeWatch ∧ (s.maxSync b e).rsv.senseFault = s.rsv.senseFault ∧
      (s.maxSync b e).rsv.hostDuration = s.rsv.hostDuration ∧ (s.maxSync b e).log.mask = s.log.mask ∧
      (s.maxSync b e).log.counters.length = s.log.counters.length ∧ (s.maxSync b e).prt.answer = s.prt.answer ∧
      (s.maxSync b e).prt.response = s.prt.response ∧ (s.maxSync b e).prt.mask = s.prt.mask := by
  simp only [State.maxSync]
  (repeat' split) <;> simp

@[simp] theorem State.deliverClaim_keeps (s : State) (b e : Nat) (c : Claim) :
    (s.deliverClaim b e c).clk.set = s.clk.set ∧
      (s.deliverClaim b e c).lnk.dupBay = s.lnk.dupBay ∧ (s.deliverClaim b e c).lnk.lineIdle = s.lnk.lineIdle ∧
      (s.deliverClaim b e c).lnk.armed = s.lnk.armed ∧ (s.deliverClaim b e c).alt.result = s.alt.result ∧
      (s.deliverClaim b e c).stg.seq = s.stg.seq ∧ (s.deliverClaim b e c).stg.answer = s.stg.answer ∧
      (s.deliverClaim b e c).stg.gap = s.stg.gap ∧ (s.deliverClaim b e c).stg.measured = s.stg.measured ∧
      (s.deliverClaim b e c).stg.volts = s.stg.volts ∧ (s.deliverClaim b e c).stg.isOpen = s.stg.isOpen ∧
      (s.deliverClaim b e c).stg.meterLost = s.stg.meterLost ∧ (s.deliverClaim b e c).stg.stageFault = s.stg.stageFault ∧
      (s.deliverClaim b e c).stg.sent = s.stg.sent ∧ (s.deliverClaim b e c).rsv.freq = s.rsv.freq ∧
      (s.deliverClaim b e c).rsv.edgeSeen = s.rsv.edgeSeen ∧ (s.deliverClaim b e c).rsv.edgeWatch = s.rsv.edgeWatch ∧
      (s.deliverClaim b e c).rsv.senseFault = s.rsv.senseFault ∧
      (s.deliverClaim b e c).rsv.hostDuration = s.rsv.hostDuration ∧ (s.deliverClaim b e c).log.mask = s.log.mask ∧
      (s.deliverClaim b e c).log.counters.length = s.log.counters.length ∧ (s.deliverClaim b e c).prt.answer = s.prt.answer ∧
      (s.deliverClaim b e c).prt.response = s.prt.response ∧ (s.deliverClaim b e c).prt.mask = s.prt.mask := by
  simp only [State.deliverClaim]
  (repeat' split) <;> simp

@[simp] theorem State.counted_keeps (s : State) :
    s.counted.prt.response = s.prt.response ∧ s.counted.prt.mask = s.prt.mask := by
  simp only [State.counted]
  (repeat' split) <;> simp

@[simp] theorem State.answerWith_keeps (s : State) (k : Nat) (st : Status) (p : List Byte) :
    (s.answerWith k st p).prt.answer = s.prt.answer ∧ (s.answerWith k st p).prt.mask = s.prt.mask := by
  simp only [State.answerWith]
  (repeat' split) <;> simp

@[simp] theorem State.refuseFormat_keeps (s : State) (bs : List Byte) :
    (s.refuseFormat bs).prt.mask = s.prt.mask := by
  simp only [State.refuseFormat]
  (repeat' split) <;> simp

@[simp] theorem State.configureWith_keeps (s : State) (r : ConfigRecord) :
    (s.configureWith r).lnk.streak = s.lnk.streak ∧ (s.configureWith r).lnk.dupBay = s.lnk.dupBay ∧
      (s.configureWith r).lnk.lineIdle = s.lnk.lineIdle ∧ (s.configureWith r).lnk.queue = s.lnk.queue ∧
      (s.configureWith r).stg.seq = s.stg.seq ∧ (s.configureWith r).stg.answer = s.stg.answer ∧
      (s.configureWith r).stg.gap = s.stg.gap ∧ (s.configureWith r).stg.measured = s.stg.measured ∧
      (s.configureWith r).stg.volts = s.stg.volts ∧ (s.configureWith r).stg.isOpen = s.stg.isOpen ∧
      (s.configureWith r).stg.meterLost = s.stg.meterLost ∧ (s.configureWith r).stg.stageFault = s.stg.stageFault ∧
      (s.configureWith r).stg.sent = s.stg.sent ∧ (s.configureWith r).log.counters.length = s.log.counters.length := by
  simp only [State.configureWith]
  (repeat' split) <;> simp

@[simp] theorem State.setTimeTo_keeps (s : State) (e : Nat) :
    (s.setTimeTo e).clk.tickOwed = false ∧ (s.setTimeTo e).lnk.dupBay = s.lnk.dupBay ∧
      (s.setTimeTo e).lnk.lineIdle = s.lnk.lineIdle ∧ (s.setTimeTo e).lnk.armed = s.lnk.armed ∧
      (s.setTimeTo e).alt.result = s.alt.result ∧ (s.setTimeTo e).stg.seq = s.stg.seq ∧
      (s.setTimeTo e).stg.answer = s.stg.answer ∧ (s.setTimeTo e).stg.gap = s.stg.gap ∧
      (s.setTimeTo e).stg.measured = s.stg.measured ∧ (s.setTimeTo e).stg.volts = s.stg.volts ∧
      (s.setTimeTo e).stg.isOpen = s.stg.isOpen ∧ (s.setTimeTo e).stg.meterLost = s.stg.meterLost ∧
      (s.setTimeTo e).stg.stageFault = s.stg.stageFault ∧ (s.setTimeTo e).stg.sent = s.stg.sent ∧
      (s.setTimeTo e).rsv.freq = s.rsv.freq ∧ (s.setTimeTo e).rsv.edgeSeen = s.rsv.edgeSeen ∧
      (s.setTimeTo e).rsv.edgeWatch = s.rsv.edgeWatch ∧ (s.setTimeTo e).rsv.senseFault = s.rsv.senseFault ∧
      (s.setTimeTo e).rsv.hostDuration = s.rsv.hostDuration ∧ (s.setTimeTo e).log.mask = s.log.mask ∧
      (s.setTimeTo e).log.counters.length = s.log.counters.length ∧ (s.setTimeTo e).prt.answer = s.prt.answer ∧
      (s.setTimeTo e).prt.response = s.prt.response ∧ (s.setTimeTo e).prt.mask = s.prt.mask := by
  simp only [State.setTimeTo]
  (repeat' split) <;> simp

@[simp] theorem State.restoreLocal_keeps (s : State) (e : ParkEntry) :
    (s.restoreLocal e).prk.query = s.prk.query ∧ (s.restoreLocal e).lnk.station = s.lnk.station ∧
      (s.restoreLocal e).lnk.listening = s.lnk.listening ∧ (s.restoreLocal e).lnk.streak = s.lnk.streak ∧
      (s.restoreLocal e).lnk.dupBay = s.lnk.dupBay ∧ (s.restoreLocal e).lnk.lineIdle = s.lnk.lineIdle ∧
      (s.restoreLocal e).lnk.armed = s.lnk.armed ∧ (s.restoreLocal e).stg.seq = s.stg.seq ∧
      (s.restoreLocal e).stg.answer = s.stg.answer ∧ (s.restoreLocal e).stg.gap = s.stg.gap ∧
      (s.restoreLocal e).stg.measured = s.stg.measured ∧ (s.restoreLocal e).stg.volts = s.stg.volts ∧
      (s.restoreLocal e).stg.isOpen = s.stg.isOpen ∧ (s.restoreLocal e).stg.meterLost = s.stg.meterLost ∧
      (s.restoreLocal e).stg.stageFault = s.stg.stageFault ∧ (s.restoreLocal e).stg.sent = s.stg.sent ∧
      (s.restoreLocal e).log.mask = s.log.mask ∧ (s.restoreLocal e).log.counters.length = s.log.counters.length ∧
      (s.restoreLocal e).prt.answer = s.prt.answer ∧ (s.restoreLocal e).prt.response = s.prt.response ∧
      (s.restoreLocal e).prt.mask = s.prt.mask := by
  simp only [State.restoreLocal]
  (repeat' split) <;> simp

@[simp] theorem State.plugIn_keeps (s : State) (p : PlugFields) :
    (s.plugIn p).ptb.entries = s.ptb.entries ∧ (s.plugIn p).rsv.freq = s.rsv.freq ∧
      (s.plugIn p).rsv.edgeSeen = s.rsv.edgeSeen ∧ (s.plugIn p).rsv.edgeWatch = s.rsv.edgeWatch ∧
      (s.plugIn p).rsv.senseFault = s.rsv.senseFault ∧ (s.plugIn p).rsv.hostDemand = s.rsv.hostDemand ∧
      (s.plugIn p).rsv.hostDuration = s.rsv.hostDuration ∧ (s.plugIn p).rsv.ownSeq = s.rsv.ownSeq ∧
      (s.plugIn p).rsv.lastSeq = s.rsv.lastSeq ∧ (s.plugIn p).rsv.holder = s.rsv.holder ∧
      (s.plugIn p).rsv.active = s.rsv.active ∧ (s.plugIn p).rsv.dActive = s.rsv.dActive ∧
      (s.plugIn p).rsv.remaining = s.rsv.remaining ∧ (s.plugIn p).rsv.refresh = s.rsv.refresh ∧
      (s.plugIn p).rsv.baseline = s.rsv.baseline ∧ (s.plugIn p).rsv.members = s.rsv.members ∧
      (s.plugIn p).rsv.origin = s.rsv.origin ∧ (s.plugIn p).rsv.ownPledge = s.rsv.ownPledge ∧
      (s.plugIn p).rsv.shareSum = s.rsv.shareSum ∧ (s.plugIn p).rsv.shortfall = s.rsv.shortfall ∧
      (s.plugIn p).stg.seq = s.stg.seq ∧ (s.plugIn p).stg.answer = s.stg.answer ∧ (s.plugIn p).stg.gap = s.stg.gap ∧
      (s.plugIn p).stg.measured = s.stg.measured ∧ (s.plugIn p).stg.volts = s.stg.volts ∧
      (s.plugIn p).stg.isOpen = s.stg.isOpen ∧ (s.plugIn p).stg.meterLost = s.stg.meterLost ∧
      (s.plugIn p).stg.stageFault = s.stg.stageFault ∧ (s.plugIn p).stg.sent = s.stg.sent ∧
      (s.plugIn p).lnk.station = s.lnk.station ∧ (s.plugIn p).lnk.listening = s.lnk.listening ∧
      (s.plugIn p).lnk.streak = s.lnk.streak ∧ (s.plugIn p).lnk.dupBay = s.lnk.dupBay ∧
      (s.plugIn p).lnk.lineIdle = s.lnk.lineIdle ∧ (s.plugIn p).lnk.armed = s.lnk.armed ∧ (s.plugIn p).log.mask = s.log.mask ∧
      (s.plugIn p).log.counters.length = s.log.counters.length ∧ (s.plugIn p).prt.answer = s.prt.answer ∧
      (s.plugIn p).prt.response = s.prt.response ∧ (s.plugIn p).prt.mask = s.prt.mask := by
  simp only [State.plugIn]
  (repeat' split) <;> simp

@[simp] theorem State.updateVehicle_keeps (s : State) (a b c : Nat) :
    (s.updateVehicle a b c).stg.seq = s.stg.seq ∧ (s.updateVehicle a b c).stg.answer = s.stg.answer ∧
      (s.updateVehicle a b c).stg.gap = s.stg.gap ∧ (s.updateVehicle a b c).stg.measured = s.stg.measured ∧
      (s.updateVehicle a b c).stg.volts = s.stg.volts ∧ (s.updateVehicle a b c).stg.isOpen = s.stg.isOpen ∧
      (s.updateVehicle a b c).stg.meterLost = s.stg.meterLost ∧ (s.updateVehicle a b c).stg.stageFault = s.stg.stageFault ∧
      (s.updateVehicle a b c).stg.sent = s.stg.sent := by
  simp only [State.updateVehicle]
  (repeat' split) <;> simp

@[simp] theorem State.unplugSettled_keeps (s : State) (v : Session) :
    (s.unplugSettled v).alt.result = s.alt.result ∧ (s.unplugSettled v).rsv.freq = s.rsv.freq ∧
      (s.unplugSettled v).rsv.edgeSeen = s.rsv.edgeSeen ∧ (s.unplugSettled v).rsv.edgeWatch = s.rsv.edgeWatch ∧
      (s.unplugSettled v).rsv.senseFault = s.rsv.senseFault ∧ (s.unplugSettled v).rsv.hostDemand = s.rsv.hostDemand ∧
      (s.unplugSettled v).rsv.hostDuration = s.rsv.hostDuration ∧ (s.unplugSettled v).rsv.ownSeq = s.rsv.ownSeq ∧
      (s.unplugSettled v).rsv.lastSeq = s.rsv.lastSeq ∧ (s.unplugSettled v).rsv.holder = s.rsv.holder ∧
      (s.unplugSettled v).rsv.active = s.rsv.active ∧ (s.unplugSettled v).rsv.dActive = s.rsv.dActive ∧
      (s.unplugSettled v).rsv.remaining = s.rsv.remaining ∧ (s.unplugSettled v).rsv.refresh = s.rsv.refresh ∧
      (s.unplugSettled v).rsv.members = s.rsv.members ∧ (s.unplugSettled v).rsv.origin = s.rsv.origin ∧
      (s.unplugSettled v).rsv.ownPledge = s.rsv.ownPledge ∧ (s.unplugSettled v).rsv.shareSum = s.rsv.shareSum ∧
      (s.unplugSettled v).rsv.shortfall = s.rsv.shortfall ∧ (s.unplugSettled v).stg.seq = s.stg.seq ∧
      (s.unplugSettled v).stg.answer = s.stg.answer ∧ (s.unplugSettled v).stg.gap = s.stg.gap ∧
      (s.unplugSettled v).stg.measured = s.stg.measured ∧ (s.unplugSettled v).stg.volts = s.stg.volts ∧
      (s.unplugSettled v).stg.isOpen = s.stg.isOpen ∧ (s.unplugSettled v).stg.meterLost = s.stg.meterLost ∧
      (s.unplugSettled v).stg.stageFault = s.stg.stageFault ∧ (s.unplugSettled v).stg.sent = s.stg.sent ∧
      (s.unplugSettled v).ptb.entries = s.ptb.entries ∧ (s.unplugSettled v).prk.last = s.prk.last ∧
      (s.unplugSettled v).prk.query = s.prk.query ∧ (s.unplugSettled v).lnk.station = s.lnk.station ∧
      (s.unplugSettled v).lnk.listening = s.lnk.listening ∧ (s.unplugSettled v).lnk.streak = s.lnk.streak ∧
      (s.unplugSettled v).lnk.dupBay = s.lnk.dupBay ∧ (s.unplugSettled v).lnk.lineIdle = s.lnk.lineIdle ∧
      (s.unplugSettled v).lnk.armed = s.lnk.armed ∧ (s.unplugSettled v).log.mask = s.log.mask ∧
      (s.unplugSettled v).log.counters.length = s.log.counters.length ∧ (s.unplugSettled v).prt.answer = s.prt.answer ∧
      (s.unplugSettled v).prt.response = s.prt.response ∧ (s.unplugSettled v).prt.mask = s.prt.mask := by
  simp only [State.unplugSettled]
  (repeat' split) <;> simp

@[simp] theorem State.unplugPending_keeps (s : State) (v : Session) :
    (s.unplugPending v).alt.result = s.alt.result ∧ (s.unplugPending v).rsv.freq = s.rsv.freq ∧
      (s.unplugPending v).rsv.edgeSeen = s.rsv.edgeSeen ∧ (s.unplugPending v).rsv.edgeWatch = s.rsv.edgeWatch ∧
      (s.unplugPending v).rsv.senseFault = s.rsv.senseFault ∧ (s.unplugPending v).rsv.hostDemand = s.rsv.hostDemand ∧
      (s.unplugPending v).rsv.hostDuration = s.rsv.hostDuration ∧ (s.unplugPending v).rsv.ownSeq = s.rsv.ownSeq ∧
      (s.unplugPending v).rsv.lastSeq = s.rsv.lastSeq ∧ (s.unplugPending v).rsv.holder = s.rsv.holder ∧
      (s.unplugPending v).rsv.active = s.rsv.active ∧ (s.unplugPending v).rsv.dActive = s.rsv.dActive ∧
      (s.unplugPending v).rsv.remaining = s.rsv.remaining ∧ (s.unplugPending v).rsv.refresh = s.rsv.refresh ∧
      (s.unplugPending v).rsv.members = s.rsv.members ∧ (s.unplugPending v).rsv.origin = s.rsv.origin ∧
      (s.unplugPending v).rsv.ownPledge = s.rsv.ownPledge ∧ (s.unplugPending v).rsv.shareSum = s.rsv.shareSum ∧
      (s.unplugPending v).rsv.shortfall = s.rsv.shortfall ∧ (s.unplugPending v).stg.seq = s.stg.seq ∧
      (s.unplugPending v).stg.answer = s.stg.answer ∧ (s.unplugPending v).stg.gap = s.stg.gap ∧
      (s.unplugPending v).stg.measured = s.stg.measured ∧ (s.unplugPending v).stg.volts = s.stg.volts ∧
      (s.unplugPending v).stg.isOpen = s.stg.isOpen ∧ (s.unplugPending v).stg.meterLost = s.stg.meterLost ∧
      (s.unplugPending v).stg.stageFault = s.stg.stageFault ∧ (s.unplugPending v).stg.sent = s.stg.sent ∧
      (s.unplugPending v).ptb.entries = s.ptb.entries ∧ (s.unplugPending v).prk.last = s.prk.last ∧
      (s.unplugPending v).lnk.station = s.lnk.station ∧ (s.unplugPending v).lnk.listening = s.lnk.listening ∧
      (s.unplugPending v).lnk.streak = s.lnk.streak ∧ (s.unplugPending v).lnk.dupBay = s.lnk.dupBay ∧
      (s.unplugPending v).lnk.lineIdle = s.lnk.lineIdle ∧ (s.unplugPending v).lnk.armed = s.lnk.armed ∧
      (s.unplugPending v).log.mask = s.log.mask ∧ (s.unplugPending v).log.counters.length = s.log.counters.length ∧
      (s.unplugPending v).prt.answer = s.prt.answer ∧ (s.unplugPending v).prt.response = s.prt.response ∧
      (s.unplugPending v).prt.mask = s.prt.mask := by
  simp only [State.unplugPending]
  (repeat' split) <;> simp

@[simp] theorem State.unplugNow_keeps (s : State) :
    s.unplugNow.alt.result = s.alt.result ∧ s.unplugNow.rsv.freq = s.rsv.freq ∧ s.unplugNow.rsv.edgeSeen = s.rsv.edgeSeen ∧
      s.unplugNow.rsv.edgeWatch = s.rsv.edgeWatch ∧ s.unplugNow.rsv.senseFault = s.rsv.senseFault ∧
      s.unplugNow.rsv.hostDemand = s.rsv.hostDemand ∧ s.unplugNow.rsv.hostDuration = s.rsv.hostDuration ∧
      s.unplugNow.rsv.ownSeq = s.rsv.ownSeq ∧ s.unplugNow.rsv.lastSeq = s.rsv.lastSeq ∧
      s.unplugNow.rsv.holder = s.rsv.holder ∧ s.unplugNow.rsv.active = s.rsv.active ∧
      s.unplugNow.rsv.dActive = s.rsv.dActive ∧ s.unplugNow.rsv.remaining = s.rsv.remaining ∧
      s.unplugNow.rsv.refresh = s.rsv.refresh ∧ s.unplugNow.rsv.members = s.rsv.members ∧
      s.unplugNow.rsv.origin = s.rsv.origin ∧ s.unplugNow.rsv.ownPledge = s.rsv.ownPledge ∧
      s.unplugNow.rsv.shareSum = s.rsv.shareSum ∧ s.unplugNow.rsv.shortfall = s.rsv.shortfall ∧
      s.unplugNow.stg.seq = s.stg.seq ∧ s.unplugNow.stg.answer = s.stg.answer ∧ s.unplugNow.stg.gap = s.stg.gap ∧
      s.unplugNow.stg.measured = s.stg.measured ∧ s.unplugNow.stg.volts = s.stg.volts ∧
      s.unplugNow.stg.isOpen = s.stg.isOpen ∧ s.unplugNow.stg.meterLost = s.stg.meterLost ∧
      s.unplugNow.stg.stageFault = s.stg.stageFault ∧ s.unplugNow.stg.sent = s.stg.sent ∧
      s.unplugNow.ptb.entries = s.ptb.entries ∧ s.unplugNow.prk.last = s.prk.last ∧ s.unplugNow.lnk.station = s.lnk.station ∧
      s.unplugNow.lnk.listening = s.lnk.listening ∧ s.unplugNow.lnk.streak = s.lnk.streak ∧
      s.unplugNow.lnk.dupBay = s.lnk.dupBay ∧ s.unplugNow.lnk.lineIdle = s.lnk.lineIdle ∧
      s.unplugNow.lnk.armed = s.lnk.armed ∧ s.unplugNow.log.mask = s.log.mask ∧
      s.unplugNow.log.counters.length = s.log.counters.length ∧ s.unplugNow.prt.answer = s.prt.answer ∧
      s.unplugNow.prt.response = s.prt.response ∧ s.unplugNow.prt.mask = s.prt.mask := by
  simp only [State.unplugNow]
  (repeat' split) <;> simp

@[simp] theorem State.setHostDemand_keeps (s : State) (d m : Nat) :
    (s.setHostDemand d m).rsv.freq = s.rsv.freq ∧ (s.setHostDemand d m).rsv.edgeSeen = s.rsv.edgeSeen ∧
      (s.setHostDemand d m).rsv.edgeWatch = s.rsv.edgeWatch ∧ (s.setHostDemand d m).rsv.senseFault = s.rsv.senseFault ∧
      (s.setHostDemand d m).rsv.ownSeq = s.rsv.ownSeq ∧ (s.setHostDemand d m).rsv.lastSeq = s.rsv.lastSeq ∧
      (s.setHostDemand d m).rsv.holder = s.rsv.holder ∧ (s.setHostDemand d m).rsv.active = s.rsv.active ∧
      (s.setHostDemand d m).rsv.dActive = s.rsv.dActive ∧ (s.setHostDemand d m).rsv.remaining = s.rsv.remaining ∧
      (s.setHostDemand d m).rsv.refresh = s.rsv.refresh ∧ (s.setHostDemand d m).rsv.baseline = s.rsv.baseline ∧
      (s.setHostDemand d m).rsv.members = s.rsv.members ∧ (s.setHostDemand d m).rsv.origin = s.rsv.origin ∧
      (s.setHostDemand d m).rsv.ownPledge = s.rsv.ownPledge ∧ (s.setHostDemand d m).rsv.standing = s.rsv.standing ∧
      (s.setHostDemand d m).rsv.share = s.rsv.share ∧ (s.setHostDemand d m).rsv.shareSum = s.rsv.shareSum ∧
      (s.setHostDemand d m).rsv.shortfall = s.rsv.shortfall := by
  simp only [State.setHostDemand]
  (repeat' split) <;> simp

@[simp] theorem State.dispatchDemand_keeps (s : State) (d m : Nat) :
    (s.dispatchDemand d m).rsv.freq = s.rsv.freq ∧ (s.dispatchDemand d m).rsv.edgeSeen = s.rsv.edgeSeen ∧
      (s.dispatchDemand d m).rsv.edgeWatch = s.rsv.edgeWatch ∧ (s.dispatchDemand d m).rsv.senseFault = s.rsv.senseFault ∧
      (s.dispatchDemand d m).stg.seq = s.stg.seq ∧ (s.dispatchDemand d m).stg.answer = s.stg.answer ∧
      (s.dispatchDemand d m).stg.gap = s.stg.gap ∧ (s.dispatchDemand d m).stg.measured = s.stg.measured ∧
      (s.dispatchDemand d m).stg.volts = s.stg.volts ∧ (s.dispatchDemand d m).stg.isOpen = s.stg.isOpen ∧
      (s.dispatchDemand d m).stg.meterLost = s.stg.meterLost ∧ (s.dispatchDemand d m).stg.stageFault = s.stg.stageFault ∧
      (s.dispatchDemand d m).stg.sent = s.stg.sent ∧ (s.dispatchDemand d m).alt.result = s.alt.result ∧
      (s.dispatchDemand d m).alt.grant = s.alt.grant ∧ (s.dispatchDemand d m).lnk.station = s.lnk.station ∧
      (s.dispatchDemand d m).lnk.listening = s.lnk.listening ∧ (s.dispatchDemand d m).lnk.streak = s.lnk.streak ∧
      (s.dispatchDemand d m).lnk.dupBay = s.lnk.dupBay ∧ (s.dispatchDemand d m).lnk.lineIdle = s.lnk.lineIdle ∧
      (s.dispatchDemand d m).lnk.armed = s.lnk.armed ∧ (s.dispatchDemand d m).log.mask = s.log.mask ∧
      (s.dispatchDemand d m).log.counters.length = s.log.counters.length ∧ (s.dispatchDemand d m).prt.answer = s.prt.answer ∧
      (s.dispatchDemand d m).prt.response = s.prt.response ∧ (s.dispatchDemand d m).prt.mask = s.prt.mask := by
  simp only [State.dispatchDemand]
  (repeat' split) <;> simp

@[simp] theorem State.zeroCounters_keeps (s : State) :
    s.zeroCounters.log.mask = s.log.mask := by
  simp only [State.zeroCounters]
  (repeat' split) <;> simp

@[simp] theorem State.setMask_keeps (s : State) (x : BitVec 24) :
    (s.setMask x).prt.answer = s.prt.answer ∧ (s.setMask x).prt.response = s.prt.response := by
  simp only [State.setMask]
  (repeat' split) <;> simp

@[simp] theorem State.resetBlocks_keeps (s : State) :
    s.resetBlocks.clk.epoch = s.clk.epoch ∧ s.resetBlocks.clk.tick = s.clk.tick ∧ s.resetBlocks.clk.set = s.clk.set ∧
      s.resetBlocks.clk.tickOwed = s.clk.tickOwed ∧ s.resetBlocks.stg.seq = s.stg.seq ∧
      s.resetBlocks.stg.answer = s.stg.answer ∧ s.resetBlocks.stg.measured = s.stg.measured ∧
      s.resetBlocks.stg.volts = s.stg.volts ∧ s.resetBlocks.stg.isOpen = s.stg.isOpen ∧
      s.resetBlocks.stg.stageFault = s.stg.stageFault ∧ s.resetBlocks.stg.sent = s.stg.sent ∧
      s.resetBlocks.log.counters.length = s.log.counters.length := by
  simp only [State.resetBlocks]
  (repeat' split) <;> simp

@[simp] theorem State.parkAtReset_keeps (s : State) (h : Nat) :
    (s.parkAtReset h).prk.last = s.prk.last ∧ (s.parkAtReset h).lnk.station = s.lnk.station ∧
      (s.parkAtReset h).lnk.listening = s.lnk.listening ∧ (s.parkAtReset h).lnk.streak = s.lnk.streak ∧
      (s.parkAtReset h).lnk.dupBay = s.lnk.dupBay ∧ (s.parkAtReset h).lnk.lineIdle = s.lnk.lineIdle ∧
      (s.parkAtReset h).lnk.armed = s.lnk.armed ∧ (s.parkAtReset h).stg.seq = s.stg.seq ∧
      (s.parkAtReset h).stg.answer = s.stg.answer ∧ (s.parkAtReset h).stg.gap = s.stg.gap ∧
      (s.parkAtReset h).stg.measured = s.stg.measured ∧ (s.parkAtReset h).stg.volts = s.stg.volts ∧
      (s.parkAtReset h).stg.isOpen = s.stg.isOpen ∧ (s.parkAtReset h).stg.meterLost = s.stg.meterLost ∧
      (s.parkAtReset h).stg.stageFault = s.stg.stageFault ∧ (s.parkAtReset h).stg.sent = s.stg.sent ∧
      (s.parkAtReset h).log.mask = s.log.mask ∧ (s.parkAtReset h).log.counters.length = s.log.counters.length ∧
      (s.parkAtReset h).prt.answer = s.prt.answer ∧ (s.parkAtReset h).prt.response = s.prt.response ∧
      (s.parkAtReset h).prt.mask = s.prt.mask := by
  simp only [State.parkAtReset]
  (repeat' split) <;> simp

@[simp] theorem State.answerReady_keeps (s : State) :
    s.answerReady.prt.mask = s.prt.mask := by
  simp only [State.answerReady]
  (repeat' split) <;> simp

@[simp] theorem State.resetBay_keeps (s : State) :
    s.resetBay.clk.epoch = s.clk.epoch ∧ s.resetBay.clk.tick = s.clk.tick ∧ s.resetBay.clk.set = s.clk.set ∧
      s.resetBay.clk.tickOwed = s.clk.tickOwed ∧ s.resetBay.stg.seq = s.stg.seq ∧ s.resetBay.stg.answer = s.stg.answer ∧
      s.resetBay.stg.measured = s.stg.measured ∧ s.resetBay.stg.volts = s.stg.volts ∧ s.resetBay.stg.isOpen = s.stg.isOpen ∧
      s.resetBay.stg.stageFault = s.stg.stageFault ∧ s.resetBay.stg.sent = s.stg.sent ∧ s.resetBay.prk.last = s.prk.last ∧
      s.resetBay.log.counters.length = s.log.counters.length ∧ s.resetBay.prt.mask = s.prt.mask := by
  simp only [State.resetBay]
  (repeat' split) <;> simp

end Sys2Proof.Machine
end

