-- ==== Sys2Proof/Laws/Occasions.lean ====
section
/-!
SUPPORT. The parts of the two occasions that many blocks act at, the epoch boundary and the tick event: what survives each part
survives the whole, in whichever order the blocks come.
-/

namespace Sys2Proof.Machine

/-- The clock at an epoch boundary: nothing but the disagreement age changes (R6). -/
@[simp] theorem State.boundary_clk (s : State) (r q : Bool) : (s.boundary r q).clk = s.clk.aged := by
  simp only [State.boundary]
  (repeat' split) <;> simp

/-- A property that each part of an epoch boundary keeps is kept by the boundary. -/
theorem State.boundary_preserves {P : State → Prop}
    (clock : ∀ s, P s → P (s.setClk s.clk.aged))
    (roll : ∀ s, P s → P s.dayRollover)
    (ptb : ∀ s, P s → P s.ptbBoundary)
    (lnk : ∀ s, P s → P s.lnkBoundary)
    (abandon : ∀ s, P s → P s.altAbandon)
    (countdown : ∀ s, P s → P s.rsvCountdown)
    (session : ∀ s, P s → P s.sessionBoundary)
    (claim : ∀ s, P s → P s.claimAndLatch)
    (withdraw : ∀ s, s.mustWithdraw = true → P s → P s.withdraw)
    (window : ∀ s, P s → P s.windowBoundary)
    (waits : ∀ s, P s → P s.waitsBoundary)
    (holds : ∀ s, P s → P s.holdsBoundary)
    (choices : ∀ s, P s → P s.bumpChoices)
    (follow : ∀ s, P s → P s.follow)
    (r q : Bool) (s : State) (h : P s) : P (s.boundary r q) := by
  have ses : ∀ s, P s → P s.sesBoundary := fun s h => claim _ (session _ h)
  have rc : ∀ s, P s → P s.reserveAndClaim := by
    intro s h; unfold State.reserveAndClaim; split
    · exact countdown _ (ses _ h)
    · exact ses _ (countdown _ h)
  have rs : ∀ s, P s → P s.reserveAndSession := by
    intro s h; unfold State.reserveAndSession State.withdrawalCheck; split
    · rename_i hw; exact withdraw _ hw (rc _ h)
    · exact rc _ h
  have pk : ∀ s, P s → P s.prkBoundary := fun s h => holds _ (waits _ (window _ h))
  have sp : ∀ s, P s → P s.sessionAndPark := by
    intro s h; unfold State.sessionAndPark; split
    · exact rs _ (pk _ h)
    · exact pk _ (rs _ h)
  unfold State.boundary
  simp only
  have h1 := clock s h
  generalize s.setClk s.clk.aged = x at h1
  have h2 : P (if r = true then x.dayRollover else x) := by split; exacts [roll _ h1, h1]
  generalize (if r = true then x.dayRollover else x) = y at h2
  have h3 := lnk _ (ptb _ h2)
  generalize y.ptbBoundary.lnkBoundary = z at h3
  have h4 : P (if q = true then z.altAbandon else z) := by split; exacts [abandon _ h3, h3]
  exact follow _ (choices _ (sp _ h4))

/-- A property that each part of a tick event's work keeps is kept by it. -/
theorem State.tickWork_preserves {P : State → Prop}
    (close : ∀ s, P s → P s.closeExchange)
    (meter : ∀ s p, P s → P (s.meter p))
    (openx : ∀ s, P s → P s.openExchange)
    (bands : ∀ s, P s → P (s.setRsv { s.rsv with bands := s.steppedBands }))
    (send : ∀ s, demandChanged s (s.setRsv { s.rsv with bands := s.steppedBands }) = true →
      P (s.setRsv { s.rsv with bands := s.steppedBands }) → P (s.setRsv { s.rsv with bands := s.steppedBands }).sendDemand)
    (watch : ∀ s, P s → P s.watchEdges)
    (alt : ∀ s, P s → P s.altTick)
    (choices : ∀ s, P s → P s.bumpChoices)
    (follow : ∀ s, P s → P s.follow) (s : State) (h : P s) : P s.tickWork := by
  have st : ∀ s, P s → P s.stageTick := fun s h => openx _ (meter _ _ (close _ h))
  have rt : ∀ s, P s → P s.rsvTick := by
    intro s h; unfold State.rsvTick; apply watch; simp only
    split
    · exact send _ ‹_› (bands _ h)
    · exact bands _ h
  unfold State.tickWork
  refine follow _ (choices _ (alt _ ?_))
  split
  · exact st _ (rt _ h)
  · exact rt _ (st _ h)

/-- A property that each part of LNK's boundary keeps is kept by it. -/
theorem State.lnkBoundary_preserves {P : State → Prop}
    (age : ∀ s, P s → P (s.setLnk { s.lnk with queue := s.lnk.queue.map QEntry.boundary }))
    (expire : ∀ s, P s → P (s.dequeue .taken))
    (listen : ∀ s, s.lnk.station = .listening → P s → P s.listeningBoundary)
    (claim : ∀ s, (s.lnk.station = .active ∨ s.lnk.station = .isolated) → P s → P s.claimBoundary)
    (choose : ∀ s, P s → P s.rechoose)
    (s : State) (h : P s) : P s.lnkBoundary := by
  unfold State.lnkBoundary
  simp only
  apply choose
  have h1 := age s h
  generalize (s.setLnk { s.lnk with queue := s.lnk.queue.map QEntry.boundary }) = x at h1
  have he : P x.expireTaken := by unfold State.expireTaken; split; exacts [h1, expire _ h1]
  have h2 : P (if x.lnk.queue.any QEntry.isExpired = true then x.expireTaken else x) := by split; exacts [he, h1]
  generalize (if x.lnk.queue.any QEntry.isExpired = true then x.expireTaken else x) = y at h2
  split
  · exact h2
  · exact listen _ ‹_› h2
  · exact claim _ (.inl ‹_›) h2
  · exact claim _ (.inr ‹_›) h2

end Sys2Proof.Machine
end

