-- ==== Sys2Proof/Laws/Effects.lean ====
section
/-!
SUPPORT. What the shared operations do to the registers that they change: the setpoint's rule, the own grant, the event's
registers, captures and notices, the park table, and the transmit queue.
-/

namespace Sys2Proof.Machine

/-! ## The setpoint (R100, R101) -/

theorem clampInt_of_within {x a b : Int} (h1 : a ≤ x) (h2 : x ≤ b) : clampInt x a b = x := by
  unfold clampInt
  (repeat' split) <;> omega

theorem State.lowerBound_nonpos (s : State) : s.lowerBound ≤ 0 := by
  unfold State.lowerBound
  (repeat' split) <;> omega

theorem State.lowerBound_le_target (s : State) : s.lowerBound ≤ s.target := by
  have := s.lowerBound_nonpos
  unfold State.target clampInt
  (repeat' split) <;> omega

theorem State.target_le_grant (s : State) : s.target ≤ s.alt.grant := by
  have := s.lowerBound_nonpos
  unfold State.target clampInt
  (repeat' split) <;> omega

/-- The registers that the lower bound and the target are computed from. -/
theorem State.bounds_congr {s t : State} (h1 : t.stg.meterLost = s.stg.meterLost) (h2 : t.stg.stageFault = s.stg.stageFault)
    (h3 : t.isClaiming = s.isClaiming) (h4 : t.ses = s.ses) (h5 : t.prk.query.isSome = s.prk.query.isSome)
    (h6 : t.rsv.active = s.rsv.active) (h7 : t.rsv.standing = s.rsv.standing) (h8 : t.rsv.baseline = s.rsv.baseline)
    (h9 : t.rsv.share = s.rsv.share) (h10 : t.alt.grant = s.alt.grant) :
    t.lowerBound = s.lowerBound ∧ t.target = s.target := by
  have hz : t.forcedZero = s.forcedZero := by simp [State.forcedZero, State.isPending, h1, h2, h3, h4, h5]
  have hl : t.lowerBound = s.lowerBound := by
    unfold State.lowerBound
    rw [hz, h4]
  have hs : t.selectedTarget = s.selectedTarget := by
    simp [State.selectedTarget, State.eventTarget, State.isWithdrawn, hz, h4, h6, h7, h8, h9, h10]
  exact ⟨hl, by simp [State.target, hl, hs, h10]⟩

/-- A state whose setpoint and its bounds stand as they stood keeps them. -/
theorem State.SetpointOk_congr {s t : State} (h : s.SetpointOk) (ha : t.stg.applied = s.stg.applied)
    (ho : t.stg.isOpen = s.stg.isOpen) (hb : t.lowerBound = s.lowerBound ∧ t.target = s.target) : t.SetpointOk := by
  unfold State.SetpointOk
  rw [ha, ho, hb.1, hb.2]
  exact h

theorem State.follow_bounds (s : State) : s.follow.lowerBound = s.lowerBound ∧ s.follow.target = s.target :=
  State.bounds_congr rfl rfl rfl rfl rfl rfl rfl rfl rfl rfl

/-- R101 holds wherever the setpoint has just followed. -/
theorem State.follow_setpoint (s : State) : s.follow.SetpointOk := by
  unfold State.SetpointOk
  rw [s.follow_bounds.1, s.follow_bounds.2]
  have := s.lowerBound_le_target
  simp only [State.follow, State.setStg_stg]
  split
  · simp_all
  · simp_all [clampInt]
    (repeat' split) <;> constructor <;> omega

/-- The setpoint that already obeys R101 stays as it is. -/
theorem State.follow_of_setpoint (s : State) (h : s.SetpointOk) : s.follow = s := by
  unfold State.SetpointOk at h
  unfold State.follow
  have e : (if s.stg.isOpen then 0 else clampInt s.stg.applied s.lowerBound s.target) = s.stg.applied := by
    split
    · rename_i ho
      rw [if_pos ho] at h
      exact h.symm
    · rename_i ho
      rw [if_neg ho] at h
      exact clampInt_of_within h.1 h.2
  rw [e]
  rfl

theorem State.follow_stg (s : State) : s.follow.stg = { s.stg with applied := s.follow.stg.applied } := rfl

/-! ## The own grant (R91, R132) -/

@[simp] theorem State.setGrant_grant (s : State) (g : Nat) : (s.setGrant g).alt.grant = g := by
  by_cases h : s.rsv.active = true <;> simp [State.setGrant, h]

theorem State.setGrant_alt (s : State) (g : Nat) : (s.setGrant g).alt = { s.alt with grant := g } := by
  by_cases h : s.rsv.active = true <;> simp [State.setGrant, h]

theorem State.setGrant_rsv (s : State) (g : Nat) :
    (s.setGrant g).rsv = if s.rsv.active then { s.rsv with baseline := g } else s.rsv := by
  by_cases h : s.rsv.active = true <;> simp [State.setGrant, h]

theorem State.setGrant_setpoint (s : State) (g : Nat) : (s.setGrant g).SetpointOk := by
  simp only [State.setGrant]
  exact State.follow_setpoint _

/-! ## The event (R129, R130, R137) -/

theorem State.computeShares_rsv (s : State) (taking : Bool) : (s.computeShares taking).rsv = { s.rsv with
    share := if s.rsv.standing = some .member then shareOf (memberShares s.rsv.members s.rsv.origin s.rsv.dActive) s.ownBay
      else 0
    shareSum := ((memberShares s.rsv.members s.rsv.origin s.rsv.dActive).map MemberShare.share).sum
    shortfall := decide (s.rsv.pledgeSum < s.rsv.dActive) } := by
  simp only [State.computeShares]
  split <;> simp

theorem State.computeShares_setpoint (s : State) (taking : Bool) : (s.computeShares taking).SetpointOk := by
  simp only [State.computeShares]
  exact State.follow_setpoint _

theorem State.endEvent_rsv (s : State) : s.endEvent.rsv = { s.rsv with
    active := false, holder := none, dActive := 0, remaining := 0, refresh := 0, standing := none, share := 0,
    shareSum := 0, members := [], ownPledge := 0, origin := 0, shortfall := false, baseline := 0, hostDemand := 0,
    bands := s.rsv.bands.map fun b => { b with mark := false } } := by
  simp [State.endEvent]

/-- The sequence number after one's own is newer than it (R122). -/
theorem isNewer_next (n : Nat) (h : n < 256) : isNewer ((n + 1) % 256) n = true := by
  simp only [isNewer, decide_eq_true_eq]
  omega

/-! ## Notices and captures -/

@[simp] theorem State.raise_flagged (s : State) (n m : Notice) : (s.raise n).flagged m = (decide (m = n) || s.flagged m) := by
  simp only [State.flagged, State.raise, State.setPrt_prt, BitVec.getLsbD_or, Notice.flag]
  rw [BitVec.getLsbD_twoPow]
  cases n <;> cases m <;> simp [Notice.bit]

theorem State.store_counters (s : State) (r : LogRecord) : (s.store r).log.counters = s.log.counters := by
  simp only [State.store]
  (repeat' split) <;> simp

theorem State.capture_counters (s : State) (c : Cause) (d : BitVec 32) (b : Option Nat) :
    (s.capture c d b).log.counters = (s.log.count c).counters := by
  simp only [State.capture]
  split
  · rw [State.store_counters]
    rfl
  · rfl

/-- A capture counts its cause, up to 63, and no other (R172). -/
theorem State.capture_counter (s : State) (c : Cause) (d : BitVec 32) (b : Option Nat) (e : Cause)
    (h : s.log.counters.length = 24) :
    (s.capture c d b).counter e = if e = c then min 63 (s.counter e + 1) else s.counter e := by
  simp only [State.counter, State.capture_counters, Log.count, List.getD_eq_getElem?_getD, List.getElem?_modify]
  have hl : e.code - 1 < s.log.counters.length := by rw [h]; cases e <;> decide
  rw [List.getElem?_eq_getElem hl]
  by_cases he : e = c
  · subst he
    simp
  · have hc : ¬c.code - 1 = e.code - 1 := by
      intro hc
      apply he
      cases e <;> cases c <;> first | rfl | (exact absurd hc (by decide))
    simp [he, hc]

theorem State.captureNat_counter (s : State) (c : Cause) (d : Nat) (e : Cause) (h : s.log.counters.length = 24) :
    (s.captureNat c d).counter e = if e = c then min 63 (s.counter e + 1) else s.counter e :=
  s.capture_counter c _ none e h

@[simp] theorem State.capture_counters_length (s : State) (c : Cause) (d : BitVec 32) (b : Option Nat) :
    (s.capture c d b).log.counters.length = s.log.counters.length := by
  rw [State.capture_counters]
  simp [Log.count]

@[simp] theorem State.captureNat_counters_length (s : State) (c : Cause) (d : Nat) :
    (s.captureNat c d).log.counters.length = s.log.counters.length := s.capture_counters_length c _ none

/-- A capture clears no notice. -/
theorem State.capture_flagged (s : State) (c : Cause) (d : BitVec 32) (b : Option Nat) (n : Notice)
    (h : s.flagged n = true) : (s.capture c d b).flagged n = true := by
  simp only [State.capture, State.store]
  (repeat' split) <;> first | (simp only [State.raise_flagged, Bool.or_eq_true]; exact Or.inr h) | exact h

theorem State.captureNat_flagged (s : State) (c : Cause) (d : Nat) (n : Notice) (h : s.flagged n = true) :
    (s.captureNat c d).flagged n = true := s.capture_flagged c _ none n h

/-- A counter reads the log alone, and a notice the port alone. -/
theorem State.counter_congr {s t : State} (h : t.log.counters = s.log.counters) (c : Cause) : t.counter c = s.counter c := by
  simp [State.counter, h]

@[simp] theorem State.raise_counter (s : State) (n : Notice) (c : Cause) : (s.raise n).counter c = s.counter c := rfl

theorem State.flagged_congr {s t : State} (h : t.prt.flags = s.prt.flags) (n : Notice) : t.flagged n = s.flagged n := by
  simp [State.flagged, h]

/-! ## The park table (R141 to R145, R157) -/

theorem State.removePark_entries (s : State) (bus : Nat) :
    (s.removePark bus).prk.entries = withoutBus s.prk.entries bus := by
  unfold State.removePark
  split
  · rename_i h
    simp only [Prk.entryOf, List.find?_eq_none] at h
    symm
    simp only [withoutBus]
    rw [List.filter_eq_self]
    intro a ha
    have := h a ha
    simpa using this
  · simp

/-- What stands of a park table that may be full, before a further entry comes (R142). -/
def evicted (es : List ParkEntry) : List ParkEntry := if 4 ≤ es.length then es.tail else es

theorem State.evictOldest_entries (s : State) : s.evictOldest.prk.entries = evicted s.prk.entries := by
  unfold State.evictOldest evicted
  split
  · rename_i h
    simp [h]
  · rename_i e es h
    rw [h]
    simp only [Config.parkEntries]
    split <;> simp [h]

theorem State.park_entries (s : State) (bus hold : Nat) (x : Context) :
    (s.park bus hold x).prk.entries = evicted (withoutBus s.prk.entries bus) ++
      [{ busId := bus, parkedEpoch := s.clk.epoch, dayAge := 0, hold := hold, ctx := x, offered := none }] := by
  simp [State.park, State.evictOldest_entries, State.removePark_entries]

theorem State.waitsBoundary_prk (s : State) :
    s.waitsBoundary.prk = { s.prk with entries := s.prk.entries.map ParkEntry.waited } := by
  simp [State.waitsBoundary]

theorem State.holdsBoundary_prk (s : State) :
    s.holdsBoundary.prk = { s.prk with
      entries := (s.prk.entries.filter fun e => !e.holdEnds).map fun e => { e with hold := e.hold - 1 } } := by
  simp [State.holdsBoundary]

@[simp] theorem ParkEntry.waited_busId (e : ParkEntry) : e.waited.busId = e.busId := by
  unfold ParkEntry.waited
  split <;> rfl

@[simp] theorem ParkEntry.waited_ctx (e : ParkEntry) : e.waited.ctx = e.ctx := by
  unfold ParkEntry.waited
  split <;> rfl

/-! ## The session -/

@[simp] theorem State.dropSession_ses (s : State) : s.dropSession.ses = none := by simp [State.dropSession]

theorem State.readySession_chain (s : State) (c : ConfigRecord) :
    (s.readySession c).ses.map Session.chain = s.ses.map Session.chain := by
  simp only [State.readySession]
  (repeat' split) <;> simp_all [Session.readied]

/-! ## The transmit queue (R20, R24) -/

/-- With nothing queued and no access under way, taking a frame out changes nothing. -/
theorem State.dequeue_quiet (s : State) (k : FrameKey) (h1 : s.lnk.queue = []) (h2 : s.lnk.access = .notContending) :
    (s.dequeue k).lnk = s.lnk := by
  have hc : accessChosen s.lnk s.ownBay = .notContending := by
    have : chooseEntry s.lnk.queue = none := by
      rw [h1]
      rfl
    simp [accessChosen, this]
  have hq : ({ s.lnk with queue := removeAt s.lnk.queue k } : Lnk) = s.lnk := by
    have : removeAt s.lnk.queue k = s.lnk.queue := by
      rw [h1]
      rfl
    rw [this]
  have hs : s.setLnk s.lnk = s := rfl
  unfold State.dequeue
  rw [h2]
  simp only [hq, hs]
  unfold State.queueChanged
  rw [h2]
  simp only
  unfold State.rechoose
  rw [h2]
  simp only [Access.isSending, Bool.false_eq_true, if_false, hc, State.setLnk_lnk]
  rw [← h2]

/-- A frame that has just been queued is held to be sent (R20, R21). -/
theorem State.enqueue_holds (s : State) (f : Frame) (h : s.lnk.station ≠ .unconfigured) : (s.enqueue f).Holds f := by
  have hr : ∀ (t : State) k, (t.queueChanged k).lnk.queue = t.lnk.queue := by
    intro t k
    simp
  have fresh : ∀ q : List QEntry, q.any (QEntry.hasKey (keyOf f)) = true → ∃ e ∈ replaceAt q (keyOf f) f, e.frame = f := by
    intro q hq
    rw [List.any_eq_true] at hq
    obtain ⟨e, he, hk⟩ := hq
    exact ⟨freshEntry f, List.mem_map.2 ⟨e, he, by rw [if_pos hk]⟩, rfl⟩
  unfold State.enqueue State.Holds
  simp only [if_neg h]
  split
  · rename_i k' bytes held hacc
    split
    · rename_i hk
      exact Or.inr ⟨bytes, by simp [hk]⟩
    · split
      · rename_i hq
        exact Or.inl (by simpa using fresh _ hq)
      · exact Or.inl ⟨freshEntry f, by simp, rfl⟩
  · split
    · rename_i hq
      exact Or.inl (by rw [hr]; simpa using fresh _ hq)
    · exact Or.inl ⟨freshEntry f, by rw [hr]; simp, rfl⟩

/-! ## The claim at an epoch boundary -/

/-- A replacement waits for the end of the transmission at `k` (R21). -/
theorem Access.replaces_iff {a : Access} {k : FrameKey} :
    a.replaces k = true ↔ ∃ bytes f, a = .sending k bytes (some (.replace f)) := by
  unfold Access.replaces
  split
  · simp only [beq_iff_eq, Access.sending.injEq, Option.some.injEq, Held.replace.injEq]
    exact ⟨fun h => ⟨_, _, h, rfl, rfl⟩, fun ⟨_, _, h, _⟩ => h⟩
  · rename_i h
    exact ⟨nofun, fun ⟨b, f, e⟩ => absurd e (h k b f)⟩

/-- What LNK does with the claim held at a boundary (R22): nothing, a missed epoch, or the claim's removal with a missed epoch. -/
theorem State.claimBoundary_cases (s : State) :
    (s.claimBoundary = s ∧ s.lnk.access.replaces .claim = false ∧
        (s.lnk.access.drives .claim = true ∨ s.lnk.queue.any (QEntry.hasKey .claim) = false)) ∨
      (s.claimBoundary = s.missEpoch ∧ s.lnk.access.replaces .claim = true) ∨
      (s.claimBoundary = (s.dequeue .claim).missEpoch ∧ s.lnk.access.drives .claim = false ∧
        s.lnk.queue.any (QEntry.hasKey .claim) = true) := by
  have drives : s.lnk.access.replaces .claim = true → s.lnk.access.drives .claim = true := by
    intro h
    obtain ⟨_, _, h⟩ := Access.replaces_iff.mp h
    rw [h]
    rfl
  unfold State.claimBoundary
  split
  · split
    · exact .inr (.inl ⟨rfl, ‹_›⟩)
    · exact .inl ⟨rfl, Bool.not_eq_true _ ▸ ‹_›, .inl ‹_›⟩
  · split
    · exact .inr (.inr ⟨rfl, Bool.not_eq_true _ ▸ ‹_›, ‹_›⟩)
    · refine .inl ⟨rfl, ?_, .inr (Bool.not_eq_true _ ▸ ‹_›)⟩
      cases h : s.lnk.access.replaces .claim
      · rfl
      · exact absurd (drives h) ‹_›

end Sys2Proof.Machine
end

