-- ==== Sys2Proof/Laws/Encoding.lean ====
section
/-!
SUPPORT. How fields are read back from the bytes they were written to: the length of a field's bytes, the number that they
spell, and a field of a record as a field of one of its parts.
-/

namespace Sys2Proof

/-- A byte is made of its bits (R190). -/
theorem byteOf_bits (b : Byte) : byteOf (b.getLsbD 7) (b.getLsbD 6) (b.getLsbD 5) (b.getLsbD 4) (b.getLsbD 3) (b.getLsbD 2)
    (b.getLsbD 1) (b.getLsbD 0) = b := by
  have h : ∀ x : Byte, byteOf (x.getLsbD 7) (x.getLsbD 6) (x.getLsbD 5) (x.getLsbD 4) (x.getLsbD 3) (x.getLsbD 2)
      (x.getLsbD 1) (x.getLsbD 0) = x := by decide
  exact h b

@[simp] theorem beBytes_length (k n : Nat) : (beBytes k n).length = k := by
  induction k generalizing n with
  | zero => rfl
  | succ k ih => simp [beBytes, ih]

theorem beNat_append (xs : List Byte) (b : Byte) : beNat (xs ++ [b]) = beNat xs * 256 + b.toNat := by
  simp [beNat]

theorem beNat_beBytes (k n : Nat) (h : n < 256 ^ k) : beNat (beBytes k n) = n := by
  induction k generalizing n with
  | zero => simp [beBytes, beNat] at *; omega
  | succ k ih =>
    rw [beBytes, beNat_append, ih _ (by rw [Nat.pow_succ] at h; omega), BitVec.toNat_ofNat]
    omega

@[simp] theorem u8_length (n : Nat) : (u8 n).length = 1 := beBytes_length 1 n
@[simp] theorem u16_length (n : Nat) : (u16 n).length = 2 := beBytes_length 2 n
@[simp] theorem u24_length (n : Nat) : (u24 n).length = 3 := beBytes_length 3 n
@[simp] theorem u32_length (n : Nat) : (u32 n).length = 4 := beBytes_length 4 n
@[simp] theorem i16_length (x : Int) : (i16 x).length = 2 := beBytes_length 2 _
@[simp] theorem i24_length (x : Int) : (i24 x).length = 3 := beBytes_length 3 _
@[simp] theorem i32_length (x : Int) : (i32 x).length = 4 := beBytes_length 4 _
@[simp] theorem yesNo_length (b : Bool) : (yesNo b).length = 1 := beBytes_length 1 _
@[simp] theorem departureBytes_length (d : Option Int) : (departureBytes d).length = 3 := beBytes_length 3 _

/-- A field that lies in the second part of a record. -/
theorem field_skip (xs ys : List Byte) (a k : Nat) (h : xs.length ≤ a) :
    field (xs ++ ys) a k = field ys (a - xs.length) k := by
  simp [field, List.drop_append, List.drop_of_length_le h]

/-- A field that lies in the first part of a record. -/
theorem field_within (xs ys : List Byte) (a k : Nat) (h : a + k ≤ xs.length) : field (xs ++ ys) a k = field xs a k := by
  simp only [field]
  rw [List.drop_append_of_le_length (by omega), List.take_append_of_le_length (by simp; omega)]

/-- A field that is the first part of a record. -/
theorem field_head (k n : Nat) (ys : List Byte) (h : n < 256 ^ k) : field (beBytes k n ++ ys) 0 k = n := by
  rw [field_within _ _ _ _ (by simp)]
  simp only [field, List.drop_zero]
  rw [List.take_of_length_le (by simp), beNat_beBytes k n h]

/-- Two's complement is read back (R190). -/
theorem signed_beInt (k : Nat) (x : Int) (hk : k ≠ 0) (h1 : -(256 ^ k / 2 : Nat) ≤ x) (h2 : x < (256 ^ k / 2 : Nat)) :
    signed k (x % (256 ^ k : Nat)).toNat = x := by
  have he : 256 ^ k = 2 * (256 ^ k / 2) := by
    obtain ⟨j, rfl⟩ := Nat.exists_eq_succ_of_ne_zero hk
    rw [Nat.pow_succ]; omega
  have hp : 0 < 256 ^ k := Nat.pos_of_neZero _
  obtain ⟨m, hm⟩ : ∃ m, m = 256 ^ k := ⟨_, rfl⟩
  rw [← hm] at h1 h2 he hp ⊢
  unfold signed
  rcases Int.lt_or_le x 0 with hx | hx
  · rw [show x % (m : Int) = x + m by rw [← Int.add_emod_right, Int.emod_eq_of_lt] <;> omega, if_neg (by omega)]
    omega
  · rw [Int.emod_eq_of_lt hx (by omega), if_pos (by omega)]
    omega

/-- A signed field that is the first part of a record. -/
theorem fieldI_head (k : Nat) (x : Int) (ys : List Byte) (hk : k ≠ 0) (h1 : -(256 ^ k / 2 : Nat) ≤ x)
    (h2 : x < (256 ^ k / 2 : Nat)) : fieldI (beInt k x ++ ys) 0 k = x := by
  have hp : 0 < 256 ^ k := Nat.pos_of_neZero _
  have hm := Int.emod_lt_of_pos x (b := ((256 ^ k : Nat) : Int)) (by omega)
  have hn := Int.emod_nonneg x (b := ((256 ^ k : Nat) : Int)) (by omega)
  rw [fieldI, beInt, field_head _ _ _ (by omega), signed_beInt k x hk h1 h2]

/-- A signed field that lies in the second part of a record. -/
theorem fieldI_skip (xs ys : List Byte) (a k : Nat) (h : xs.length ≤ a) :
    fieldI (xs ++ ys) a k = fieldI ys (a - xs.length) k := by
  rw [fieldI, field_skip xs ys a k h, fieldI]

/-- A departure that is the first part of a record, NONE or not (R190). -/
theorem fieldDeparture_head (d : Option Int) (ys : List Byte) (h : fitsDeparture d = true) :
    fieldDeparture (departureBytes d ++ ys) 0 = d := by
  cases d with
  | none =>
    have := fieldI_head 3 Config.noDeparture ys (by omega) (by decide) (by decide)
    simp [fieldDeparture, departureBytes, i24, this]
  | some x =>
    simp [fitsDeparture, fitsI] at h
    have := fieldI_head 3 x ys (by omega) (by simpa using h.1.1) (by simpa using h.1.2)
    simp [fieldDeparture, departureBytes, i24, this, h.2]

/-- A departure that lies in the second part of a record. -/
theorem fieldDeparture_skip (xs ys : List Byte) (a : Nat) (h : xs.length ≤ a) :
    fieldDeparture (xs ++ ys) a = fieldDeparture ys (a - xs.length) := by
  rw [fieldDeparture, fieldI_skip xs ys a 3 h, fieldDeparture]

/-- The flags of a flag byte are read back, the first at bit 0 (R190). -/
theorem flagBits_testBit (bs : List Bool) (i : Nat) : (flagBits bs).testBit i = bs.getD i false := by
  induction bs generalizing i with
  | nil => simp [flagBits]
  | cons b bs ih =>
    cases i with
    | zero => cases b <;> simp [flagBits, Nat.testBit_zero]
    | succ i =>
      rw [Nat.testBit_succ, List.getD_cons_succ, ← ih i, flagBits]
      congr 1
      split <;> omega

theorem flagBits_lt (bs : List Bool) : flagBits bs < 2 ^ bs.length := by
  induction bs with
  | nil => simp [flagBits]
  | cons b bs ih => simp only [flagBits, List.length_cons, Nat.pow_succ]; split <;> omega

/-! ## Fields written by u8, u16, u24, u32, i16, i24 and i32: at the head of a record, and past it -/

theorem field_u8 (n : Nat) (ys : List Byte) (h : n < 256) : field (u8 n ++ ys) 0 1 = n :=
  field_head 1 n ys (by simpa using h)

theorem field_u8_last (n : Nat) (h : n < 256) : field (u8 n) 0 1 = n := by simpa using field_u8 n [] h

theorem field_u8_skip (n : Nat) (ys : List Byte) (a k : Nat) (h : 1 ≤ a) : field (u8 n ++ ys) a k = field ys (a - 1) k := by
  rw [field_skip] <;> simp [h]

theorem field_u16 (n : Nat) (ys : List Byte) (h : n < 65536) : field (u16 n ++ ys) 0 2 = n :=
  field_head 2 n ys (by simpa using h)

theorem field_u16_last (n : Nat) (h : n < 65536) : field (u16 n) 0 2 = n := by simpa using field_u16 n [] h

theorem field_u16_skip (n : Nat) (ys : List Byte) (a k : Nat) (h : 2 ≤ a) : field (u16 n ++ ys) a k = field ys (a - 2) k := by
  rw [field_skip] <;> simp [h]

theorem field_u24 (n : Nat) (ys : List Byte) (h : n < 16777216) : field (u24 n ++ ys) 0 3 = n :=
  field_head 3 n ys (by simpa using h)

theorem field_u24_last (n : Nat) (h : n < 16777216) : field (u24 n) 0 3 = n := by simpa using field_u24 n [] h

theorem field_u24_skip (n : Nat) (ys : List Byte) (a k : Nat) (h : 3 ≤ a) : field (u24 n ++ ys) a k = field ys (a - 3) k := by
  rw [field_skip] <;> simp [h]

theorem field_u32 (n : Nat) (ys : List Byte) (h : n < 4294967296) : field (u32 n ++ ys) 0 4 = n :=
  field_head 4 n ys (by simpa using h)

theorem field_u32_last (n : Nat) (h : n < 4294967296) : field (u32 n) 0 4 = n := by simpa using field_u32 n [] h

theorem field_u32_skip (n : Nat) (ys : List Byte) (a k : Nat) (h : 4 ≤ a) : field (u32 n ++ ys) a k = field ys (a - 4) k := by
  rw [field_skip] <;> simp [h]

theorem field_i16_skip (x : Int) (ys : List Byte) (a k : Nat) (h : 2 ≤ a) : field (i16 x ++ ys) a k = field ys (a - 2) k := by
  rw [field_skip] <;> simp [h]

theorem fieldI_i16 (x : Int) (ys : List Byte) (h1 : -32768 ≤ x) (h2 : x < 32768) : fieldI (i16 x ++ ys) 0 2 = x :=
  fieldI_head 2 x ys (by omega) (by simpa using h1) (by simpa using h2)

theorem field_i24_skip (x : Int) (ys : List Byte) (a k : Nat) (h : 3 ≤ a) : field (i24 x ++ ys) a k = field ys (a - 3) k := by
  rw [field_skip] <;> simp [h]

theorem fieldI_i24 (x : Int) (ys : List Byte) (h1 : -8388608 ≤ x) (h2 : x < 8388608) : fieldI (i24 x ++ ys) 0 3 = x :=
  fieldI_head 3 x ys (by omega) (by simpa using h1) (by simpa using h2)

theorem field_i32_skip (x : Int) (ys : List Byte) (a k : Nat) (h : 4 ≤ a) : field (i32 x ++ ys) a k = field ys (a - 4) k := by
  rw [field_skip] <;> simp [h]

theorem fieldI_i32 (x : Int) (ys : List Byte) (h1 : -2147483648 ≤ x) (h2 : x < 2147483648) : fieldI (i32 x ++ ys) 0 4 = x :=
  fieldI_head 4 x ys (by omega) (by simpa using h1) (by simpa using h2)

theorem fieldI_u8_skip (n : Nat) (ys : List Byte) (a k : Nat) (h : 1 ≤ a) : fieldI (u8 n ++ ys) a k = fieldI ys (a - 1) k := by
  rw [fieldI_skip] <;> simp [h]

theorem fieldI_u16_skip (n : Nat) (ys : List Byte) (a k : Nat) (h : 2 ≤ a) : fieldI (u16 n ++ ys) a k = fieldI ys (a - 2) k := by
  rw [fieldI_skip] <;> simp [h]

theorem fieldI_u24_skip (n : Nat) (ys : List Byte) (a k : Nat) (h : 3 ≤ a) : fieldI (u24 n ++ ys) a k = fieldI ys (a - 3) k := by
  rw [fieldI_skip] <;> simp [h]

theorem fieldI_u32_skip (n : Nat) (ys : List Byte) (a k : Nat) (h : 4 ≤ a) : fieldI (u32 n ++ ys) a k = fieldI ys (a - 4) k := by
  rw [fieldI_skip] <;> simp [h]

theorem fieldI_i16_skip (n : Int) (ys : List Byte) (a k : Nat) (h : 2 ≤ a) : fieldI (i16 n ++ ys) a k = fieldI ys (a - 2) k := by
  rw [fieldI_skip] <;> simp [h]

theorem fieldI_i24_skip (n : Int) (ys : List Byte) (a k : Nat) (h : 3 ≤ a) : fieldI (i24 n ++ ys) a k = fieldI ys (a - 3) k := by
  rw [fieldI_skip] <;> simp [h]

theorem fieldI_i32_skip (n : Int) (ys : List Byte) (a k : Nat) (h : 4 ≤ a) : fieldI (i32 n ++ ys) a k = fieldI ys (a - 4) k := by
  rw [fieldI_skip] <;> simp [h]

theorem field_departure_skip (d : Option Int) (ys : List Byte) (a k : Nat) (h : 3 ≤ a) :
    field (departureBytes d ++ ys) a k = field ys (a - 3) k := by
  rw [field_skip] <;> simp [h]

theorem fieldI_departure_skip (d : Option Int) (ys : List Byte) (a k : Nat) (h : 3 ≤ a) :
    fieldI (departureBytes d ++ ys) a k = fieldI ys (a - 3) k := by
  rw [fieldI_skip] <;> simp [h]

/-! ## Parts of one length in a row -/

theorem flatMap_length {α : Type} (g : α → List Byte) (w : Nat) (hg : ∀ x, (g x).length = w) (ls : List α) :
    (ls.flatMap g).length = w * ls.length := by
  induction ls with
  | nil => simp
  | cons x xs ih => simp [hg, ih]; ring

/-- A field of the part with index `i`. -/
theorem field_flatMap {α : Type} (g : α → List Byte) (w : Nat) (hg : ∀ x, (g x).length = w) (ls : List α) (i : Nat) (x : α)
    (hx : ls[i]? = some x) (a k : Nat) (ha : a + k ≤ w) (ys : List Byte) :
    field (ls.flatMap g ++ ys) (w * i + a) k = field (g x) a k := by
  induction ls generalizing i with
  | nil => simp at hx
  | cons y xs ih =>
    cases i with
    | zero =>
      simp at hx
      subst hx
      simp only [List.flatMap_cons, List.append_assoc, Nat.mul_zero, Nat.zero_add]
      rw [field_within _ _ _ _ (by rw [hg]; exact ha)]
    | succ i =>
      simp at hx
      simp only [List.flatMap_cons, List.append_assoc]
      rw [field_skip _ _ _ _ (by rw [hg]; nlinarith), hg, ← ih i hx]
      congr 1
      rw [Nat.mul_succ]
      omega

end Sys2Proof
end

