-- ==== Sys2Proof/Laws/Exec.lean ====
section
/-!
SUPPORT. What a command can do, said once: `exec` always answers a next state, and a property of states that survives each of the
operations listed here, under the checks that guard it, survives every command.
-/

namespace Sys2Proof.Machine

/-- A frame row is one of four operations (R14 to R17). -/
theorem State.takeFrame_cases {P : State → Prop} {s : State} {sender : Nat} {ok : Bool} {deliver : State → State}
    (same : P s) (dropped : P s.dropFrame) (own : s.receives = true → P s.hearOwnBay)
    (delivered : s.receives = true → 1 ≤ sender → sender ≤ 64 → sender ≠ s.ownBay → ok = true → P (deliver s)) :
    P (s.takeFrame sender ok deliver) := by
  unfold State.takeFrame
  split
  · exact same
  · rename_i hr
    split
    · exact dropped
    · rename_i hs
      split
      · exact own (by simpa using hr)
      · rename_i ho
        split
        · rename_i hk
          simp at hs
          exact delivered (by simpa using hr) (by omega) (by omega) ho hk
        · exact dropped

/-- A port row changes the port alone, or has its effect and then answers (R179). -/
theorem State.command_cases {P : State → Prop} {s : State} {kind : Nat} {stateOk : Bool} {fail : Option Nat}
    {effect : State → State} {payload : State → List Byte}
    (port : ∀ t x, P t → P (t.setPrt x)) (same : P s)
    (effective : stateOk = true → fail = none → P s.counted → P (effect s.counted)) :
    P (s.command kind stateOk fail effect payload) := by
  have hc : P s.counted := port _ _ same
  unfold State.command
  split
  · rename_i h1
    split
    · exact port _ _ hc
    · rename_i h2
      exact port _ _ (effective h1 rfl hc)
  · exact port _ _ hc

/-- `exec` answers a next state whatever the command (no rule stops the part). -/
theorem exec_total (i : Instr) (s : State) : ∃ t, exec i s = .next t := by
  cases i <;> exact ⟨_, rfl⟩

/-- A property that each operation keeps is kept by every command. -/
theorem exec_preserves {P : State → Prop}
    (port : ∀ s x, P s → P (s.setPrt x))
    (choices : ∀ s, P s → P s.bumpChoices)
    (powerOn : ∀ s, P s → P s.powerOn)
    (tick : ∀ s, P s → P s.tickEvent)
    (boundary : ∀ s, P s → P s.epochBoundary)
    (dropped : ∀ s, P s → P s.dropFrame)
    (own : ∀ s, s.receives = true → P s → P s.hearOwnBay)
    (claim : ∀ s b e c, s.receives = true → 1 ≤ b → b ≤ 64 → b ≠ s.ownBay → claimFieldsOk e c = true → P s →
      P (s.deliverClaim b e c))
    (event : ∀ s b q d n, s.receives = true → 1 ≤ b → b ≤ 64 → b ≠ s.ownBay → n ≤ 3600 → P s → P (s.judgeEvent b q d n))
    (query : ∀ s bus, s.receives = true → busFieldOk bus = true → P s → P (s.takeQuery bus))
    (offer : ∀ s b o, s.receives = true → 1 ≤ b → b ≤ 64 → b ≠ s.ownBay → offerFieldsOk o = true → P s → P (s.takeOffer b o))
    (taken : ∀ s b bus x, s.receives = true → takenFieldsOk bus x = true → P s → P (s.takeTaken b bus x))
    (idle : ∀ s, P s → P s.lineFallsIdle)
    (busy : ∀ s, P s → P s.lineGetsBusy)
    (drive : ∀ s, P s → P s.beginDriving)
    (sent : ∀ s, P s → P s.sentWhole)
    (collided : ∀ s, P s → P s.collided)
    (complete : ∀ s, P s → P s.altComplete)
    (measure : ∀ s m, P s → P (s.judgeMeasure m))
    (edge : ∀ s n, P s → P (s.gridEdge n))
    (configure : ∀ s r, s.lnk.station = .unconfigured → firstFail (configChecks r) = none → P s → P (s.configureWith r))
    (setTime : ∀ s e, e < Config.dayEpochs → P s → P (s.setTimeTo e))
    (plug : ∀ s p, s.isConfigured = true → s.ses = none → firstFail (plugChecks p) = none → P s → P (s.plugIn p))
    (vehicle : ∀ s a d c, P s → P (s.updateVehicle a d c))
    (chain : ∀ s v ls, s.ses = some v → s.prk.query = none → chainFail v ls = none → P s → P (s.loadChain ls))
    (unplug : ∀ s, P s → P s.unplugNow)
    (dispatch : ∀ s d m, s.isConfigured = true → P s → P (s.dispatchDemand d m))
    (mark : ∀ s tag, P s → P (s.capture .mark tag none))
    (close : ∀ s, (canClose s.log.a s.log.b || canClose s.log.b s.log.a) = true → P s → P s.closeFilling)
    (release : ∀ s n, n ≤ 1 → (s.log.bank n).state = .full → P s → P (s.releaseFull n))
    (counters : ∀ s, P s → P s.zeroCounters)
    (snapshot : ∀ s, P s → P s.takeSnapshot)
    (reset : ∀ s, P s → P s.resetBay)
    (i : Instr) (s t : State) (h : P s) (ht : exec i s = .next t) : P t := by
  have bw : ∀ (s : State) b, P s → P (s.boundaryWhere b) := by
    intro s b h; unfold State.boundaryWhere; split; exacts [boundary s h, h]
  have tw : ∀ (s : State) b, P s → P (s.tickWhere b) := by
    intro s b h; unfold State.tickWhere; split; exacts [tick s h, h]
  cases i <;> (simp only [exec] at ht; injection ht with ht; subst ht)
  case powerOnReset => exact powerOn s h
  case tickEvent => exact tick s h
  case epochBoundary => exact boundary s h
  case claimFrame b e c =>
    exact State.takeFrame_cases h (dropped s h) (fun hr => own s hr h) fun h1 h2 h3 h4 h5 => claim s b e c h1 h2 h3 h4 h5 h
  case eventFrame b o q d n =>
    refine State.takeFrame_cases h (dropped s h) (fun hr => own s hr h) fun h1 h2 h3 h4 h5 => ?_
    simp [eventFieldsOk] at h5
    obtain ⟨⟨-, rfl⟩, h6⟩ := h5
    exact event s _ q d n h1 h2 h3 h4 h6 h
  case queryFrame b bus =>
    exact State.takeFrame_cases h (dropped s h) (fun hr => own s hr h) fun h1 _ _ _ h5 => query s bus h1 h5 h
  case offerFrame b o =>
    exact State.takeFrame_cases h (dropped s h) (fun hr => own s hr h) fun h1 h2 h3 h4 h5 => offer s b o h1 h2 h3 h4 h5 h
  case takenFrame b bus x =>
    exact State.takeFrame_cases h (dropped s h) (fun hr => own s hr h) fun h1 _ _ _ h5 => taken s b bus x h1 h5 h
  case lineIdle => exact idle s h
  case lineBusy => exact busy s h
  case backoffExpiry => exact drive s h
  case frameSent => exact sent s h
  case collision => exact collided s h
  case allotmentCompletion => exact complete s h
  case measure bytes => split; exacts [h, measure s _ h]
  case gsenseEdge n => exact edge s n h
  case emptyTransaction => exact h
  case bayReset => exact reset s h
  case droppedFrame bs w => split; exacts [dropped s h, h]
  case formatRefusal bs =>
    split
    · exact h
    · exact port _ _ (port _ _ h)
  case configure r =>
    exact State.command_cases port h fun h1 h2 h3 => configure _ r (by simpa [State.isConfigured] using h1) h2 h3
  case setTime e =>
    exact State.command_cases port h fun _ h2 h3 => setTime _ e (by simpa [setTimeChecks, firstFail] using h2) h3
  case plug p =>
    refine State.command_cases port h fun h1 h2 h3 => ?_
    simp at h1
    exact plug _ p h1.1 h1.2 h2 h3
  case vehicleUpdate a d c => exact State.command_cases port h fun _ _ h3 => vehicle _ a d c h3
  case chainLoad ls =>
    refine State.command_cases port h fun h1 h2 h3 => ?_
    simp [State.isSettled] at h1
    obtain ⟨h1, hq⟩ := h1
    cases hv : s.ses with
    | none => simp [hv] at h1
    | some v => exact chain _ v ls hv (by simpa using hq) (by simpa [hv] using h2) h3
  case unplug => exact State.command_cases port h fun _ _ h3 => unplug _ h3
  case dispatch d m => exact State.command_cases port h fun h1 _ h3 => dispatch _ d m h1 h3
  case mark tag => exact State.command_cases port h fun _ _ h3 => choices _ (mark _ tag h3)
  case closeBank => exact State.command_cases port h fun h1 _ h3 => close _ h1 h3
  case releaseBank n =>
    refine State.command_cases port h fun h1 h2 h3 => ?_
    have hn : n ≤ 1 := by simpa [firstFail, bankOk] using h2
    have hf : (s.log.bank n).state = .full := by simpa [bankOk, hn] using h1
    exact release _ n hn hf h3
  case readLog b n => exact State.command_cases port h fun _ _ h3 => h3
  case readStatus => exact State.command_cases port h fun _ _ h3 => choices _ h3
  case readSession => exact State.command_cases port h fun _ _ h3 => h3
  case readPeerByIndex x n => exact State.command_cases port h fun _ _ h3 => choices _ h3
  case readPeerByBay n => exact State.command_cases port h fun _ _ h3 => choices _ h3
  case snapshot => exact State.command_cases port h fun _ _ h3 => snapshot _ h3
  case readSnapshot => exact State.command_cases port h fun _ _ h3 => h3
  case clearFlags x => exact State.command_cases port h fun _ _ h3 => port _ _ h3
  case setNoticeMask x => exact State.command_cases port h fun _ _ h3 => port _ _ h3
  case clearCounters => exact State.command_cases port h fun _ _ h3 => counters _ h3
  all_goals first | exact bw s _ h | exact tw s _ h

end Sys2Proof.Machine
end

