-- ==== Sys2Proof/Laws/Line.lean ====
section
/-!
SUPPORT. What the bits of the depot link and the stage line come to (R14, R25, R191, R192): the bits of bytes assemble to those
bytes, a frame or record followed by idle brings its command, and what the readback of a frame can come to.
-/

namespace Sys2Proof

@[simp] theorem lineBits_length (b : Byte) : (lineBits b).length = 10 := rfl

/-- The ten bit times of a byte, with any level in the place of the stop bit. -/
theorem assemble_byte (stopped stop : Bool) (b : Byte) (rest : List Bool) :
    assemble stopped (false :: (bitsOf b ++ stop :: rest)) = (b :: (assemble stop rest).1, (assemble stop rest).2) :=
  congrArg (fun x => (x :: (assemble stop rest).1, (assemble stop rest).2)) (byteOf_bits b)

theorem assemble_lineBits (stopped : Bool) (b : Byte) (rest : List Bool) :
    assemble stopped (lineBits b ++ rest) = (b :: (assemble true rest).1, (assemble true rest).2) := by
  rw [← assemble_byte stopped]
  simp [lineBits]

theorem assemble_rest (stopped : Bool) (n : Nat) : assemble stopped (List.replicate n true) = ([], stopped) := by
  induction n with
  | zero => rfl
  | succ n ih => exact ih

/-- Bytes are assembled one after another, each with its stop bit. -/
theorem assemble_bytes (bytes : List Byte) (rest : List Bool) :
    assemble true (bytes.flatMap lineBits ++ rest) = (bytes ++ (assemble true rest).1, (assemble true rest).2) := by
  induction bytes with
  | nil => rfl
  | cons b bs ih => rw [List.flatMap_cons, List.append_assoc, assemble_lineBits, ih]; rfl

/-- The bits of bytes, with the line at rest after them, assemble to those bytes, whole (R191). -/
theorem assemble_whole (bytes : List Byte) (n : Nat) :
    assemble true (bytes.flatMap lineBits ++ List.replicate n true) = (bytes, true) := by
  rw [assemble_bytes, assemble_rest, List.append_nil]

/-- A last byte that lacks its stop bit, before the line rests: the bytes are not whole (R191). -/
theorem assemble_unstopped (bytes : List Byte) (b : Byte) (n : Nat) :
    assemble true (bytes.flatMap lineBits ++ false :: (bitsOf b ++ false :: List.replicate n true)) =
      (bytes ++ [b], false) := by
  rw [assemble_bytes, assemble_byte, assemble_rest]

/-- One to nine bits after the last whole byte, the first of them a start bit: the bytes are not whole (R191). -/
theorem assemble_leftover (bytes : List Byte) (bits : List Bool) (h : bits.length < 9) :
    assemble true (bytes.flatMap lineBits ++ false :: bits) = (bytes, false) := by
  rw [assemble_bytes]
  match bits, h with
  | [], _ | [_], _ | [_, _], _ | [_, _, _], _ | [_, _, _, _], _ | [_, _, _, _, _], _ | [_, _, _, _, _, _], _
  | [_, _, _, _, _, _, _], _ | [_, _, _, _, _, _, _, _], _ => simp [assemble]

namespace Machine

/-! ## Watching a line -/

theorem SerialLine.idleBits_gt (l : SerialLine) : 15 < l.idleBits := by cases l <;> decide

theorem LineWatch.hears_append (l : SerialLine) (w : LineWatch) (xs ys : List Bool) :
    w.hears l (xs ++ ys) = w.hears l xs ++ (xs.foldl (LineWatch.after l) w).hears l ys := by
  induction xs generalizing w with
  | nil => rfl
  | cons x xs ih => simp [LineWatch.hears, ih]

/-- A busy line on which too few bit times pass for it to fall idle brings nothing and keeps what it carries. -/
theorem LineWatch.busy_stays (l : SerialLine) (xs : List Bool) (w : LineWatch) (hb : w.busy = true)
    (hq : w.quiet + xs.length < l.idleBits) :
    w.hears l xs = [] ∧ ∃ q ≤ w.quiet + xs.length,
      xs.foldl (LineWatch.after l) w = { level := xs.getLastD w.level, busy := true, quiet := q, bits := w.bits ++ xs } := by
  induction xs generalizing w with
  | nil => cases w; simp_all [LineWatch.hears]
  | cons x xs ih =>
    rw [List.length_cons] at hq
    have hf : w.fallsIdle l x = false := by
      have : ¬ w.quiet + 1 = l.idleBits := by omega
      simp [LineWatch.fallsIdle, this]
    have ha : w.after l x = { level := x, busy := true, quiet := if x == w.level then w.quiet + 1 else 1, bits := w.bits ++ [x] } := by
      simp [LineWatch.after, hf, hb]
    have hle : (w.after l x).quiet ≤ w.quiet + 1 := by rw [ha]; dsimp only; split <;> omega
    obtain ⟨hn, q, hq', hfold⟩ := ih (w.after l x) (by rw [ha]) (by omega)
    refine ⟨by simp [LineWatch.hears, LineWatch.brings, hf, LineWatch.getsBusy, hb, hn], q, by rw [List.length_cons]; omega, ?_⟩
    rw [List.foldl_cons, hfold, ha]
    cases xs <;> simp [List.getLast?_cons]

/-- A byte on a line at level 1: the line becomes busy with its start bit, and does not fall idle within it (R14). -/
theorem LineWatch.hears_byte (l : SerialLine) (w : LineWatch) (b : Byte) (hl : w.level = true) :
    w.hears l (lineBits b) = (if w.busy then [] else l.atBusy) ∧ ∃ q < l.idleBits,
      (lineBits b).foldl (LineWatch.after l) w = { level := true, busy := true, quiet := q, bits := w.bits ++ lineBits b } := by
  have hf : w.fallsIdle l false = false := by simp [LineWatch.fallsIdle, hl]
  have ha : w.after l false = { level := false, busy := true, quiet := 1, bits := w.bits ++ [false] } := by
    simp [LineWatch.after, hf, LineWatch.getsBusy, hl]
  have hgt := l.idleBits_gt
  obtain ⟨hn, q, hq, hfold⟩ := (w.after l false).busy_stays l (bitsOf b ++ [true]) (by rw [ha])
    (by rw [ha]; simp [bitsOf]; omega)
  rw [ha] at hq
  refine ⟨?_, q, by simp [bitsOf] at hq; omega, ?_⟩
  · rw [lineBits, LineWatch.hears, hn, LineWatch.brings, hf]
    cases hb : w.busy <;> simp [LineWatch.getsBusy, hl, hb]
  · rw [lineBits, List.foldl_cons, hfold, ha]
    simp

/-- Bytes back to back on a busy line: nothing is brought, and all their bits are held. -/
theorem LineWatch.hears_bytes (l : SerialLine) (bytes : List Byte) (w : LineWatch) (hl : w.level = true) (hb : w.busy = true)
    (hq : w.quiet < l.idleBits) :
    w.hears l (bytes.flatMap lineBits) = [] ∧ ∃ q < l.idleBits, (bytes.flatMap lineBits).foldl (LineWatch.after l) w =
      { level := true, busy := true, quiet := q, bits := w.bits ++ bytes.flatMap lineBits } := by
  induction bytes generalizing w with
  | nil => cases w; simp_all [LineWatch.hears]
  | cons b bs ih =>
    obtain ⟨h1, q, hq1, h2⟩ := w.hears_byte l b hl
    obtain ⟨h3, r, hr, h4⟩ := ih { level := true, busy := true, quiet := q, bits := w.bits ++ lineBits b } rfl rfl hq1
    rw [List.flatMap_cons, LineWatch.hears_append, List.foldl_append, h1, h2, h3, h4, hb]
    exact ⟨rfl, r, hr, by simp⟩

/-- An idle line at rest brings nothing. -/
theorem LineWatch.hears_rest (l : SerialLine) (n q : Nat) (bits : List Bool) :
    LineWatch.hears l { level := true, busy := false, quiet := q, bits := bits } (List.replicate n true) = [] := by
  induction n with
  | zero => rfl
  | succ n ih => simpa [LineWatch.hears, LineWatch.brings, LineWatch.after, LineWatch.fallsIdle, LineWatch.getsBusy,
      List.replicate_succ] using ih

/-- A busy line at rest falls idle once its bit times are over, and brings what it has carried. -/
theorem LineWatch.hears_end (l : SerialLine) (k q m : Nat) (bits : List Bool) (h : q + k + 1 = l.idleBits) :
    LineWatch.hears l { level := true, busy := true, quiet := q, bits := bits } (List.replicate (k + 1 + m) true) =
      l.atIdle (assemble true (bits ++ List.replicate (k + 1) true)) := by
  induction k generalizing q bits with
  | zero =>
    have hr : l.restsAt true = true := by cases l <;> rfl
    rw [show 0 + 1 + m = m + 1 by omega, List.replicate_succ, LineWatch.hears]
    simp [LineWatch.brings, LineWatch.after, LineWatch.fallsIdle, ← h, hr, LineWatch.hears_rest]
  | succ k ih =>
    have hne : ¬ q + 1 = l.idleBits := by omega
    rw [show k + 1 + 1 + m = k + 1 + m + 1 by omega, List.replicate_succ, LineWatch.hears]
    simp only [LineWatch.brings, LineWatch.after, LineWatch.fallsIdle, LineWatch.getsBusy, hne]
    simp [ih (q + 1) (bits ++ [true]) (by omega), List.replicate_succ]

/-- Bytes sent back to back on a line at rest, and rest after them: the line becomes busy, and what it has carried is brought, once,
when it falls idle (R14, R191, R192). -/
theorem LineWatch.hears_sent (l : SerialLine) (bytes : List Byte) (n : Nat) (h : bytes ≠ []) (hn : l.idleBits ≤ n) :
    LineWatch.rest.hears l (bytes.flatMap lineBits ++ List.replicate n true) = l.atBusy ++ l.atIdle (bytes, true) := by
  obtain ⟨b, bs, rfl⟩ := List.exists_cons_of_ne_nil h
  obtain ⟨h1, q, hq, h2⟩ := LineWatch.rest.hears_byte l b rfl
  obtain ⟨h3, r, hr, h4⟩ := LineWatch.hears_bytes l bs
    { level := true, busy := true, quiet := q, bits := lineBits b } rfl rfl hq
  rw [show LineWatch.rest.bits ++ lineBits b = lineBits b from rfl] at h2
  rw [List.flatMap_cons, LineWatch.hears_append, LineWatch.hears_append, List.foldl_append, h1, h2, h3, h4]
  obtain ⟨k, hk⟩ : ∃ k, r + k + 1 = l.idleBits := ⟨l.idleBits - r - 1, by omega⟩
  rw [show n = k + 1 + (n - (k + 1)) by omega, LineWatch.hears_end l k r _ _ hk]
  have := assemble_whole (b :: bs) (k + 1)
  rw [List.flatMap_cons] at this
  rw [this]
  simp [LineWatch.rest]

/-! ## Levels and readback -/

/-- No level lies beyond the threshold in both polarities, so two stations that drive opposite levels do not both read back what
they drive (R191). -/
theorem LineLevel.beyond_excludes (l : LineLevel) (v : Bool) (h : l.beyond v = true) : l.beyond (!v) = false := by
  cases l <;> cases v <;> simp_all [LineLevel.beyond, Config.receiverThreshold] <;> omega

/-- A line held near 0 V reads back as a mismatch, whatever is driven (R191). -/
theorem LineLevel.near_zero (mv : Int) (v : Bool) (h1 : -Config.receiverThreshold ≤ mv) (h2 : mv ≤ Config.receiverThreshold) :
    (LineLevel.held mv).beyond v = false := by
  cases v <;> simp [LineLevel.beyond] <;> omega

/-- What the readback of a bit can come to. -/
theorem readback_cases (driven : List Bool) (n : Nat) (l : LineLevel) :
    (driven[n]? = none ∧ readback driven n l = none) ∨ ∃ v, driven[n]? = some v ∧
      ((l.beyond v = false ∧ readback driven n l = some .collision) ∨
        (l.beyond v = true ∧ n + 1 = driven.length ∧ readback driven n l = some .frameSent) ∨
        (l.beyond v = true ∧ n + 1 ≠ driven.length ∧ readback driven n l = none)) := by
  unfold readback
  cases driven[n]? with
  | none => simp
  | some v => by_cases hb : l.beyond v = true <;> by_cases hn : n + 1 = driven.length <;> simp_all

/-- What the readback of successive bits comes to, where it comes to something: every bit before reads back as driven; at the bit
itself there is a mismatch, or it is the last (R25). -/
theorem readbackFrom_cases (driven : List Bool) (ls : List LineLevel) (n m : Nat) (i : Instr)
    (h : readbackFrom driven n ls = some (m, i)) :
    n ≤ m ∧ (∀ j < m, n ≤ j → ∃ v l, driven[j]? = some v ∧ ls[j - n]? = some l ∧ l.beyond v = true) ∧
      ∃ v l, driven[m]? = some v ∧ ls[m - n]? = some l ∧
        ((l.beyond v = false ∧ i = .collision) ∨ (l.beyond v = true ∧ m + 1 = driven.length ∧ i = .frameSent)) := by
  induction ls generalizing n with
  | nil => cases h
  | cons l ls ih =>
    rw [readbackFrom] at h
    obtain ⟨hd, hr⟩ | ⟨v, hd, ⟨hb, hr⟩ | ⟨hb, hn, hr⟩ | ⟨hb, hn, hr⟩⟩ := readback_cases driven n l <;> rw [hr] at h
    · obtain ⟨hle, hj, v, l', hv, hl, hc⟩ := ih _ h
      have : driven.length ≤ n := by simpa using hd
      have : m < driven.length := (List.getElem?_eq_some_iff.1 hv).1
      omega
    · cases h
      exact ⟨le_refl _, fun j h1 h2 => by omega, v, l, hd, by simp, .inl ⟨hb, rfl⟩⟩
    · cases h
      exact ⟨le_refl _, fun j h1 h2 => by omega, v, l, hd, by simp, .inr ⟨hb, hn, rfl⟩⟩
    · obtain ⟨hle, hj, v', l', hv, hl, hc⟩ := ih _ h
      refine ⟨by omega, fun j h1 h2 => ?_, v', l', hv, ?_, hc⟩
      · rcases Nat.eq_or_lt_of_le h2 with rfl | h3
        · exact ⟨v, l, hd, by simp, hb⟩
        · obtain ⟨w, k, e1, e2, e3⟩ := hj j h1 h3
          exact ⟨w, k, e1, by rw [show j - n = j - (n + 1) + 1 by omega]; exact e2, e3⟩
      · rw [show m - n = m - (n + 1) + 1 by omega]; exact hl

end Machine

end Sys2Proof
end

