-- ==== Sys2Proof/Laws/PerInstr.lean ====
section
/-!
SUPPORT. The family of statements made per command: a command record has the length that chapter 11 gives its kind, with one
lemma for each constructor of `Instr`.
-/

namespace Sys2Proof.Laws.Record

/-- R193, R179: the record of a well-formed command of the bay port has the length that its kind byte, and for
CHAIN_LOAD its leg count, gives it. -/
def Statement (i : Instr) : Prop :=
  i.wellFormed = true → ∀ k, i.portKind = some k → recordLength (encodeRecord i) k = some (encodeRecord i).length

/-- A command that is no record of the bay port. -/
theorem of_none {i : Instr} (h : i.portKind = none) : Statement i := by
  intro _ k hk
  rw [h] at hk
  cases hk

/-- A command whose kind has a fixed length. -/
theorem of_length {i : Instr} {k n : Nat} (hk : i.portKind = some k) (hf : i.fieldBytes.length = n)
    (hr : ∀ bs, recordLength bs k = some (n + 1)) : Statement i := by
  intro _ k' hk'
  rw [hk] at hk'
  cases hk'
  simp [hr, encodeRecord, hk, hf, Nat.add_comm]

theorem config_length (r : ConfigRecord) : r.bytes.length = 70 := by
  simp [ConfigRecord.bytes, ConfigRecord.placeBytes, ConfigRecord.ratingBytes, BandCfg.bytes]

theorem newLeg_length (l : NewLeg) : l.bytes.length = 6 := by simp [NewLeg.bytes]

theorem powerOnReset : Statement (.powerOnReset) := of_none rfl

theorem tickEvent : Statement (.tickEvent) := of_none rfl

theorem epochBoundary : Statement (.epochBoundary) := of_none rfl

theorem clockDisagreeEnd : Statement (.clockDisagreeEnd) := of_none rfl

theorem claimFrame (sender epoch : Nat) (c : Claim) : Statement (.claimFrame sender epoch c) := of_none rfl

theorem eventFrame (sender origin seq demand remaining : Nat) : Statement (.eventFrame sender origin seq demand remaining) :=
  of_none rfl

theorem queryFrame (sender busId : Nat) : Statement (.queryFrame sender busId) := of_none rfl

theorem offerFrame (sender : Nat) (o : Offer) : Statement (.offerFrame sender o) := of_none rfl

theorem takenFrame (sender busId chosen : Nat) : Statement (.takenFrame sender busId chosen) := of_none rfl

theorem lineIdle : Statement (.lineIdle) := of_none rfl

theorem lineBusy : Statement (.lineBusy) := of_none rfl

theorem backoffExpiry : Statement (.backoffExpiry) := of_none rfl

theorem frameSent : Statement (.frameSent) := of_none rfl

theorem collision : Statement (.collision) := of_none rfl

theorem takenExpiry : Statement (.takenExpiry) := of_none rfl

theorem listeningPeriodEnd : Statement (.listeningPeriodEnd) := of_none rfl

theorem peerStale (bay : Nat) : Statement (.peerStale bay) := of_none rfl

theorem peerRemoved (bay : Nat) : Statement (.peerRemoved bay) := of_none rfl

theorem allotmentCompletion : Statement (.allotmentCompletion) := of_none rfl

theorem measure (bytes : List Byte) : Statement (.measure bytes) := of_none rfl

theorem meterLost : Statement (.meterLost) := of_none rfl

theorem gsenseEdge (interval : Nat) : Statement (.gsenseEdge interval) := of_none rfl

theorem edgeWatchExpiry : Statement (.edgeWatchExpiry) := of_none rfl

theorem bandTrigger (band : Nat) : Statement (.bandTrigger band) := of_none rfl

theorem bandRecovered (band : Nat) : Statement (.bandRecovered band) := of_none rfl

theorem eventRefresh : Statement (.eventRefresh) := of_none rfl

theorem eventCountdownEnd : Statement (.eventCountdownEnd) := of_none rfl

theorem contextExpired (busId : Nat) : Statement (.contextExpired busId) := of_none rfl

theorem takenWaitEnd (busId : Nat) : Statement (.takenWaitEnd busId) := of_none rfl

theorem queryWindowClose : Statement (.queryWindowClose) := of_none rfl

theorem emptyTransaction : Statement (.emptyTransaction) := of_none rfl

theorem configure (r : ConfigRecord) : Statement (.configure r) :=
  of_length (n := 70) rfl (config_length r) fun _ => rfl

theorem setTime (epoch : Nat) : Statement (.setTime epoch) :=
  of_length (n := 2) rfl (by simp [Instr.fieldBytes]) fun _ => rfl

theorem plug (p : PlugFields) : Statement (.plug p) :=
  of_length (n := 18) rfl (by simp [Instr.fieldBytes]) fun _ => rfl

theorem vehicleUpdate (pAccept dischargeLimit consent : Nat) : Statement (.vehicleUpdate pAccept dischargeLimit consent) :=
  of_length (n := 5) rfl (by simp [Instr.fieldBytes]) fun _ => rfl

theorem chainLoad (legs : List NewLeg) : Statement (.chainLoad legs) := by
  intro hw k hk
  cases hk
  simp only [Instr.wellFormed, Bool.and_eq_true, decide_eq_true_eq] at hw
  have hl := flatMap_length NewLeg.bytes 6 newLeg_length legs
  have hn : field (encodeRecord (.chainLoad legs)) 1 1 = legs.length := by
    simp only [encodeRecord, Instr.portKind, Instr.fieldBytes]
    rw [field_u8_skip _ _ _ _ (by omega), field_u8 _ _ (by omega)]
  have hb : (encodeRecord (.chainLoad legs)).length = 2 + 6 * legs.length := by
    simp only [encodeRecord, Instr.portKind, Instr.fieldBytes, List.length_append, u8_length, hl]
    omega
  rw [hb]
  simp only [recordLength, hn]

theorem unplug : Statement (.unplug) := of_length (n := 0) rfl (by simp [Instr.fieldBytes]) fun _ => rfl

theorem dispatch (demand minutes : Nat) : Statement (.dispatch demand minutes) :=
  of_length (n := 4) rfl (by simp [Instr.fieldBytes]) fun _ => rfl

theorem mark (tag : BitVec 32) : Statement (.mark tag) :=
  of_length (n := 4) rfl (by simp [Instr.fieldBytes]) fun _ => rfl

theorem closeBank : Statement (.closeBank) := of_length (n := 0) rfl (by simp [Instr.fieldBytes]) fun _ => rfl

theorem releaseBank (bank : Nat) : Statement (.releaseBank bank) :=
  of_length (n := 1) rfl (by simp [Instr.fieldBytes]) fun _ => rfl

theorem readLog (bank index : Nat) : Statement (.readLog bank index) :=
  of_length (n := 2) rfl (by simp [Instr.fieldBytes]) fun _ => rfl

theorem readStatus : Statement (.readStatus) := of_length (n := 0) rfl (by simp [Instr.fieldBytes]) fun _ => rfl

theorem readSession : Statement (.readSession) := of_length (n := 0) rfl (by simp [Instr.fieldBytes]) fun _ => rfl

theorem readPeerByIndex (selector index : Nat) : Statement (.readPeerByIndex selector index) :=
  of_length (n := 2) rfl (by simp [Instr.fieldBytes]) fun _ => rfl

theorem readPeerByBay (bay : Nat) : Statement (.readPeerByBay bay) :=
  of_length (n := 2) rfl (by simp [Instr.fieldBytes]) fun _ => rfl

theorem snapshot : Statement (.snapshot) := of_length (n := 0) rfl (by simp [Instr.fieldBytes]) fun _ => rfl

theorem readSnapshot : Statement (.readSnapshot) := of_length (n := 0) rfl (by simp [Instr.fieldBytes]) fun _ => rfl

theorem clearFlags (set : BitVec 24) : Statement (.clearFlags set) :=
  of_length (n := 3) rfl (by simp [Instr.fieldBytes]) fun _ => rfl

theorem setNoticeMask (set : BitVec 24) : Statement (.setNoticeMask set) :=
  of_length (n := 3) rfl (by simp [Instr.fieldBytes]) fun _ => rfl

theorem clearCounters : Statement (.clearCounters) := of_length (n := 0) rfl (by simp [Instr.fieldBytes]) fun _ => rfl

theorem bayReset : Statement (.bayReset) := of_length (n := 0) rfl (by simp [Instr.fieldBytes]) fun _ => rfl

theorem droppedFrame (bytes : List Byte) (whole : Bool) : Statement (.droppedFrame bytes whole) := of_none rfl

theorem formatRefusal (bytes : List Byte) : Statement (.formatRefusal bytes) := of_none rfl

end Sys2Proof.Laws.Record
end

