-- ==== Sys2Proof/Laws/Pins.lean ====
section
/-!
SUPPORT. What the edges at the bay port's pins come to: a transaction of whole bytes and at most seven bits more is the command
its bytes spell (R176), and data out shows the response bit by bit (R177).
-/

namespace Sys2Proof.Machine

theorem wholeBytes_bitsOf (b : Byte) (rest : List Bool) : wholeBytes (bitsOf b ++ rest) = b :: wholeBytes rest :=
  congrArg (· :: wholeBytes rest) (byteOf_bits b)

theorem wholeBytes_short (rest : List Bool) (h : rest.length < 8) : wholeBytes rest = [] := by
  match rest, h with
  | [], _ | [_], _ | [_, _], _ | [_, _, _], _ | [_, _, _, _], _ | [_, _, _, _, _], _ | [_, _, _, _, _, _], _
  | [_, _, _, _, _, _, _], _ => rfl

/-- The whole bytes of a transaction, with up to seven bits after the last of them, are its bytes (R176). -/
theorem wholeBytes_flatMap (bytes : List Byte) (rest : List Bool) (h : rest.length < 8) :
    wholeBytes (bytes.flatMap bitsOf ++ rest) = bytes := by
  induction bytes with
  | nil => exact wholeBytes_short rest h
  | cons b bs ih => rw [List.flatMap_cons, List.append_assoc, wholeBytes_bitsOf, ih]

theorem PortPins.after_clocked (bits taken : List Bool) (falls : Nat) :
    (clocked bits).foldl PortPins.after (.selected taken falls) = .selected (taken ++ bits) (falls + bits.length) := by
  induction bits generalizing taken falls with
  | nil => simp [clocked]
  | cons b bs ih =>
    rw [show clocked (b :: bs) = .clockRises b :: .clockFalls :: clocked bs from rfl, List.foldl_cons, List.foldl_cons,
      show ((PortPins.selected taken falls).after (.clockRises b)).after .clockFalls = .selected (taken ++ [b]) (falls + 1) from rfl,
      ih]
    simp [Nat.add_assoc, Nat.add_comm 1]

/-- A fall of chip select begins a transaction, but while power-on reset lasts (R176). -/
theorem PortPins.after_selectFalls (p : PortPins) (h : p ≠ .inReset) : p.after .selectFalls = .selected [] 0 := by
  cases p <;> first | rfl | exact absurd rfl h

/-- A transaction brings the command that its whole bytes spell (R176). -/
theorem PortPins.transaction (bytes : List Byte) (rest : List Bool) (p : PortPins) (h : rest.length < 8) (hp : p ≠ .inReset) :
    ((clocked (bytes.flatMap bitsOf ++ rest)).foldl PortPins.after (p.after .selectFalls)).command .selectRises =
      some (decodeTransaction bytes) := by
  rw [p.after_selectFalls hp, PortPins.after_clocked, List.nil_append, PortPins.command, wholeBytes_flatMap _ _ h]

/-- After `n` falls of the clock data out shows bit `n` of the response; it is released once chip select rises (R177). -/
theorem PortPins.dataOut_clocked (bits : List Bool) (p : PortPins) (s : State) (hp : p ≠ .inReset) :
    ((clocked bits).foldl PortPins.after (p.after .selectFalls)).dataOut s = some (s.prt.response.bitAt bits.length) ∧
      (p.after .selectRises).dataOut s = none := by
  rw [p.after_selectFalls hp, PortPins.after_clocked]
  exact ⟨by simp [PortPins.dataOut], by cases p <;> rfl⟩

/-- While power-on reset lasts, no edge but its end moves the pins or brings a command but power-on reset (R176, R187). -/
theorem PortPins.inReset_stays (e : PortEdge) (h : e ≠ .resetRises) :
    PortPins.inReset.after e = .inReset ∧ (e ≠ .resetFalls → PortPins.inReset.command e = none) := by
  cases e <;> simp_all [PortPins.after, PortPins.command]

end Sys2Proof.Machine
end

