-- ==== Sys2Proof/Tests/Slice0.lean ====
section
/-!
SUPPORT. Tests of the model: the smoke test of WellFormed, the worked figures of spec/ (each names its section), small tests of
single commands, and, for every statement with hypotheses, a witness that meets them at the ends of their ranges. Expected values
come from spec/ or from its rules by hand.
-/

namespace Sys2Proof.Tests

open Sys2Proof Sys2Proof.Machine

/-! ## States that the tests use -/

/-- Bay 5 of section 5.9 and of the worked sequence of section 7.3. -/
def cfg5 : ConfigRecord :=
  { bayId := 5, feeder := 0, bayCount := 24, serviceLimit := 3000, limits := ⟨2000, 2000, 0, 0⟩, chargerRating := 1500,
    dischargeRating := 600, commitment := 800, dHold := 1800, rampStep := 120, eventMax := 30, parkHold := 24, lead := 10,
    window := 15, band0 := ⟨49500, 49800, 50, 5, 20, 1⟩, band1 := ⟨45000, 49499, 100, 2, 20, 1⟩, band2 := ⟨0, 0, 0, 0, 0, 0⟩,
    band3 := ⟨0, 0, 0, 0, 0, 0⟩, mask := 0x1FFFFF#24 }

/-- Bus 41 of section 4.6. -/
def bus41 : Session :=
  { busId := 41, origin := .cold, cap := 400000, floor := 60000, e0 := 80000, pAccept := 1500, consent := true,
    dischargeLimit := 600, chain := ⟨[⟨10500, 280000, .pending⟩], 0⟩, need := 0, ask := 0, pledge := 0, dischargeable := 0,
    curtailable := 0, surplus := 0, late := false, atRisk := false, imp := zeroIntegrator, exp := zeroIntegrator,
    resp := zeroIntegrator, cumImp := 0, cumExp := 0, cumResp := 0, sessions := 1, plugEpoch := 100 }

/-- A claim with the limits of section 5.9. -/
def claimOf (feeder : Nat) (dep : Option Int) (need ask : Nat) (drawn : Int) : Claim :=
  { emptyClaim with feeder := feeder, dep := dep, need := need, ask := ask, drawn := drawn, serviceLimit := 3000,
                    feederLimit := 2000 }

/-- A peer entry at a silence count. -/
def peerOf (bay silence : Nat) (c : Claim) : PeerEntry := ⟨bay, 100, c, if silence < 3 then .live else .stale, silence⟩

/-- Station 5 in ACTIVE, the line idle, at epoch 100 and tick 3. -/
def idle : State :=
  { State.reset with
    clk := ⟨100, 3, true, none, false⟩
    cfg := some cfg5
    lnk := { Lnk.reset with station := .active, armed := true } }

/-- The same just before an epoch boundary. -/
def atEnd : State := { idle with clk := ⟨100, 19, true, none, false⟩ }

/-- The same with bus 41 settled. -/
def live : State := { idle with ses := some bus41, alt := { Alt.reset with grant := 690 } }

/-- Bus 41 settled, just before an epoch boundary. -/
def liveAtEnd : State := { live with clk := ⟨100, 19, true, none, false⟩ }

/-- An event of bay 12 in progress, taken with the grant of section 7.7. -/
def event12 : State :=
  { live with
    alt := { Alt.reset with grant := 540 }
    rsv := { Rsv.reset with active := true, holder := some 12, lastSeq := 40, dActive := 1000, remaining := 900,
                            baseline := 540, origin := 5, ownPledge := 300, standing := some .member, share := 187,
                            shareSum := 1000, members := [⟨5, 300⟩, ⟨3, 400⟩, ⟨7, 0⟩, ⟨12, 700⟩, ⟨14, 200⟩] } }

/-- The context that bus 41 leaves. -/
def parked (bus hold : Nat) (offered : Option OfferWait) : ParkEntry :=
  { busId := bus, parkedEpoch := 90, dayAge := 0, hold := hold, ctx := bus41.context, offered := offered }

/-- The state with these park table entries. -/
def withParked (s : State) (es : List ParkEntry) : State := { s with prk := { s.prk with entries := es } }

/-- The state with these peer entries. -/
def withPeers (s : State) (ps : List PeerEntry) : State := { s with ptb := { s.ptb with entries := ps } }

/-- The state with this frame being driven. -/
def driving (s : State) (f : Frame) (held : Option Held) : State :=
  { s with lnk := { s.lnk with queue := [freshEntry f], access := .sending (keyOf f) [] held, lineIdle := false,
                               armed := false } }

/-- An OFFER of section 8.4's worked figures. -/
def offer52 : Offer :=
  { busId := 52, parkedEpoch := 40000, dayAge := 1, cap := 300000, floor := 0, lastE := 5, cursor := 0, cumImp := 0, cumExp := 0,
    cumResp := 0, sessions := 1, legs := [⟨10500, 5, 0⟩] }

/-- A stored record. -/
def record0 : LogRecord :=
  { seq := 0, epoch := 100, tick := 3, cause := .mark, busId := 0, grant := 0, applied := 0, measured := 0, dActive := 0,
    energy := 0, detail := 0#32 }

/-! ## WellFormed: each check refuses an ill-formed term -/

theorem test_illFormed_u8 : (Instr.readLog 256 0).wellFormed = false := by decide
theorem test_illFormed_u16 : (Instr.setTime 65536).wellFormed = false := by decide
theorem test_illFormed_u24 : (Instr.chainLoad [⟨0, 0, 16777216⟩]).wellFormed = false := by decide
theorem test_illFormed_u32 : (Instr.plug ⟨1, 4294967296, 0, 0, 0, 0, 0⟩).wellFormed = false := by decide
theorem test_illFormed_signed : (Instr.claimFrame 7 100 { emptyClaim with drawn := -32769 }).wellFormed = false := by decide
theorem test_illFormed_departure : (Instr.claimFrame 7 100 { emptyClaim with dep := some 8388607 }).wellFormed = false := by
  decide
theorem test_illFormed_legs : (Instr.offerFrame 7 { offer52 with legs := List.replicate 10 ⟨0, 0, 0⟩ }).wellFormed = false := by
  decide
theorem test_illFormed_chain : (Instr.chainLoad (List.replicate 43 ⟨0, 0, 0⟩)).wellFormed = false := by decide
theorem test_illFormed_bay : (Instr.peerStale 0).wellFormed = false ∧ (Instr.peerRemoved 65).wellFormed = false := by decide
theorem test_illFormed_interval : (Instr.gsenseEdge 0).wellFormed = false := by decide
theorem test_illFormed_band : (Instr.bandTrigger 4).wellFormed = false ∧ (Instr.bandRecovered 4).wellFormed = false := by decide
theorem test_illFormed_bus : (Instr.contextExpired 0).wellFormed = false ∧ (Instr.takenWaitEnd 256).wellFormed = false := by
  decide
theorem test_illFormed_selector : (Instr.readPeerByIndex 1 0).wellFormed = false := by decide
theorem test_illFormed_empty : (Instr.formatRefusal []).wellFormed = false := by decide
theorem test_wellFormed_ends :
    (Instr.setTime 65535).wellFormed = true ∧ (Instr.configure cfg5).wellFormed = true ∧
      (Instr.claimFrame 7 100 { emptyClaim with dep := some (-8388608), drawn := 32767 }).wellFormed = true ∧
      (Instr.offerFrame 7 { offer52 with legs := List.replicate 9 ⟨0, 0, 0⟩ }).wellFormed = true := by decide

/-! ## Worked figures of the spec -/

/-- R191: the check value of the polynomial, preset and bit order, over the nine digits. -/
theorem test_crc_check_value :
    crc16 [0x31#8, 0x32#8, 0x33#8, 0x34#8, 0x35#8, 0x36#8, 0x37#8, 0x38#8, 0x39#8] = 0x29B1#16 := by decide +kernel

/-- Section 2.4, the table of backoffs in slots of 8 bit times: bays 3, 9 and 64 at attempts 0, 1, 2. -/
theorem test_backoff_table :
    ([3, 9, 64].map fun b => [0, 1, 2].map fun a => backoffBits b a / 8) = [[15, 26, 37], [45, 56, 3], [0, 11, 22]] := by decide

/-- The inputs of section 5.9. -/
def worked59 : AltInputs :=
  { peers := [peerOf 3 0 (claimOf 0 (some 10500) 600 1500 0), peerOf 7 0 (claimOf 1 (some 10500) 800 1500 0),
              peerOf 9 3 (claimOf 1 none 0 0 400), peerOf 12 0 (claimOf 1 none 0 900 0),
              peerOf 14 0 (claimOf 0 (some 12000) 297 1500 0)]
    own := claimOf 0 (some 11100) 450 1200 0, ownBay := 5, bayCount := 24, lEff := 3000, fEff := ⟨2000, 2000, 0, 0⟩,
    origin := 5, epoch := 4229 }

/-- Section 5.9: the result table, in rotation order. -/
theorem test_worked_allotment : worked59.result =
    { epoch := 4229, origin := 5, rows := [⟨7, 1, 891⟩, ⟨12, 1, 91⟩, ⟨14, 0, 388⟩, ⟨3, 0, 690⟩, ⟨5, 0, 540⟩], service := 0,
      feeders := ⟨382, 618, 0, 0⟩ } := by decide

/-- Section 5.9: with origin 7 the last units go to bays 12, 14 and 3. -/
theorem test_worked_allotment_rotated :
    ({ worked59 with origin := 7 } : AltInputs).result.rows.map (fun w => (w.bay, w.grant)) =
      [(12, 91), (14, 388), (3, 691), (5, 540), (7, 890)] := by decide

/-- Section 5.9, "a feeder held by silent peers". -/
theorem test_worked_held_feeder :
    (({ peers := [peerOf 2 0 (claimOf 1 (some 10350) 400 900 0), peerOf 4 0 (claimOf 0 none 0 0 0),
                  peerOf 20 3 (claimOf 1 none 0 0 700), peerOf 21 3 (claimOf 1 none 0 0 650)]
        own := claimOf 0 (some 10800) 300 800 0, ownBay := 1, bayCount := 24, lEff := 2000, fEff := ⟨1200, 1200, 0, 0⟩,
        origin := 0, epoch := 64 } : AltInputs).result.rows.map fun w => (w.bay, w.grant)) = [(1, 650), (2, 0), (4, 0)] := by
  decide

/-- Section 7.7: the apportionment of D = 1000 and, at 4400, of D = 700. -/
theorem test_worked_apportionment :
    ([1000, 700].map fun d => (memberShares event12.rsv.members 5 d).map fun x => (x.bay, x.share)) =
      [[(7, 0), (12, 438), (14, 125), (3, 250), (5, 187)], [(7, 0), (12, 307), (14, 87), (3, 175), (5, 131)]] := by decide

/-- Need, ask, surplus, dischargeable, curtailable and pledge, with LATE and AT_RISK. -/
def figures (v : Session) : List Int × Bool × Bool :=
  ([v.need, v.ask, v.surplus, v.dischargeable, v.curtailable, v.pledge], v.late, v.atRisk)

/-- Section 4.6: bus 41 at epoch 4200 with own grant 690. -/
theorem test_worked_readiness :
    figures (bus41.readied cfg5 4200 690 false) = ([600, 1500, -200000, 0, 90, 90], false, false) := by decide

/-- Section 4.6: bus 41 at 9900 and 10200, charged too slowly. -/
theorem test_worked_late :
    figures (({ bus41 with e0 := 160000 } : Session).readied cfg5 9900 690 false) =
        ([1500, 1500, -120000, 0, 0, 0], false, true) ∧
      figures (({ bus41 with e0 := 220000 } : Session).readied cfg5 10200 690 false) =
        ([1500, 1500, -60000, 0, 0, 0], true, false) := by decide

/-- Section 4.6: bus 52 pledges curtailment and discharge. -/
theorem test_worked_surplus :
    figures (({ bus41 with cap := 300000, e0 := 200000, chain := ⟨[⟨20000, 150000, .pending⟩], 0⟩ } : Session).readied cfg5
      4200 690 false) = ([0, 1500, 50000, 600, 690, 1290], false, false) := by decide

/-- Section 6.3: six ticks of 15,030 Ws, and the single increment of −600 Ws. -/
theorem test_worked_integrators :
    (List.range 6).foldl (fun i _ => Integrator.add i 15030) ⟨0, 0⟩ = ⟨25, 180⟩ ∧
      Integrator.add ⟨0, 0⟩ (-600) = ⟨-1, 3000⟩ := by decide

/-- Section 9.9: the details of bus 41's UNPLUG records. -/
theorem test_worked_unplug :
    unplugFirst { bus41 with imp := ⟨262480, 0⟩ } = 262480#32 ∧
      unplugSecond { bus41 with exp := ⟨1234, 0⟩, resp := ⟨-25, 0⟩ } = 2155610109#32 := by decide

/-- Section 8.4: an offer across midnight, in both directions. -/
theorem test_worked_offer :
    (offerParked 43199 offer52, (convertChain 43199 offer52).legs.map Leg.dep) = (40000, [53700]) ∧
      offerParked 1 { offer52 with dayAge := 0, legs := [⟨53700, 5, 0⟩] } = -3200 ∧
      (convertChain 1 { offer52 with dayAge := 0, legs := [⟨53700, 5, 0⟩] }).legs.map Leg.dep = [10500] := by decide

/-- The frequencies at the ticks k to k + 10 of section 7.3. -/
def worked73 : List Nat := [49850, 49760, 49690, 49700, 49700, 49720, 49710, 49450, 49440, 49430, 49600]

/-- Section 7.3: the monitors of bands 0 and 1 over the ticks k to k + 10. -/
theorem test_worked_bands :
    (worked73.foldl (fun b f => b.step cfg5.band0 f) Band.reset).phase = .triggered ∧
      (worked73.foldl (fun b f => b.step cfg5.band0 f) Band.reset).mark = true ∧
      worked73.foldl (fun b f => b.step cfg5.band1 f) Band.reset = ⟨.recover, 0, true⟩ := by decide

/-! ## Small tests of single commands -/

/-- The state that a command leaves. -/
def after (i : Instr) (s : State) : State :=
  match exec i s with
  | .next t => t
  | .fault _ => s
  | .refused _ => s

theorem test_tick_midnight : (after .tickEvent { atEnd with clk := ⟨43199, 19, true, none, false⟩ }).clk =
    ⟨0, 0, true, none, false⟩ := by decide
theorem test_boundary_then_tick :
    (after .tickEvent (after .epochBoundary atEnd)).clk = ⟨101, 0, true, none, false⟩ := by decide
theorem test_disagree_ends : (after .clockDisagreeEnd { atEnd with clk := ⟨100, 19, true, some 15, false⟩ }).clk.disagree =
    none := by decide
theorem test_setTime_refused : (after (.setTime 43200) idle).prt.response.status = .range := by decide
theorem test_claim_adopted : (after (.claimFrame 7 105 emptyClaim) idle).clk = ⟨105, 0, true, none, false⟩ := by decide
theorem test_claim_disagrees : (after (.claimFrame 7 106 emptyClaim) idle).clk = ⟨100, 3, true, some 0, false⟩ := by decide
theorem test_claim_far_behind_is_no_disagreement :
    (after (.claimFrame 7 95 emptyClaim) idle).clk.disagree = none := by decide
theorem test_event_setpoint : (after (.eventFrame 12 12 40 1000 900)
    (withPeers { live with alt := { Alt.reset with grant := 540 }, stg := { Stg.reset with applied := 540 },
                           lastClaim := some ⟨{ emptyClaim with pledge := 300 }, 4293⟩, clk := ⟨4293, 7, true, none, false⟩ }
      [peerOf 3 0 { emptyClaim with pledge := 400 }, peerOf 7 0 emptyClaim, peerOf 9 3 { emptyClaim with pledge := 500 },
       peerOf 12 0 { emptyClaim with pledge := 700 }, peerOf 14 0 { emptyClaim with pledge := 200 }])).stg.applied = 353 := by
  decide
theorem test_event_release : (after (.eventFrame 12 12 41 0 0) event12).rsv.active = false := by decide
theorem test_event_release_of_another : after (.eventFrame 7 7 45 0 0) event12 = event12 := by decide
theorem test_query_offers : (after (.queryFrame 7 52) (withParked idle [parked 52 100 none])).lnk.queue.map
    (fun e => keyOf e.frame) = [.offer 52] := by decide
theorem test_taken_by_own_bay : (after (.takenFrame 7 52 5) (withParked idle [parked 52 100 none])).prk.entries = [] := by decide
theorem test_backoff_of_bay_5 : (after .lineIdle { idle with lnk := { idle.lnk with queue := [freshEntry (.query 1)] } }).lnk.access =
    .backoff .query 200 := by decide
theorem test_collision_counts : (after .collision (driving idle (.query 1) none)).lnk.queue.map QEntry.attempts = [1] := by decide
theorem test_sent_ends_isolation :
    (after .frameSent (driving { idle with lnk := { idle.lnk with station := .isolated, streak := 8 } } (.claim emptyClaim)
      none)).lnk.station = .active := by decide
theorem test_measure_gap : (after (.measure (Measure.bytes ⟨9, -7, 6000, false, false⟩))
    { live with stg := { Stg.reset with seq := 9, answer := some .awaiting, gap := 3 } }).stg.measured = -7 := by decide
theorem test_measure_late : after (.measure (Measure.bytes ⟨255, -7, 6000, false, false⟩))
    { live with stg := { Stg.reset with seq := 0, answer := some .awaiting } } =
      { live with stg := { Stg.reset with seq := 0, answer := some .awaiting } } := by decide
theorem test_ramp : (after .tickEvent { live with stg := { Stg.reset with applied := 600 } }).stg.applied = 690 := by decide
theorem test_edge_frequency : (after (.gsenseEdge 200000) { idle with rsv := { idle.rsv with edgeSeen := true } }).rsv.freq =
    some 50000 := by decide
theorem test_dispatch_clamped : (after (.dispatch 900 40) idle).prt.response.payload = [3#8, 32#8, 3#8, 132#8] := by decide
theorem test_plug_clamped : (after (.plug ⟨41, 400000, 500000, 60000, 2000, 1, 700⟩) idle).ses.map
    (fun v => (v.e0, v.pAccept, v.dischargeLimit)) = some (400000, 1500, 600) := by decide
theorem test_chain_minute : (after (.chainLoad [⟨1, 350, 280000⟩]) live).ses.map (fun v => v.chain.legs.map Leg.dep) =
    some [53700] := by decide
theorem test_unplug_in_window : (after .unplug { live with clk := ⟨10440, 9, true, none, false⟩ }).prk.entries.map
    (fun e => e.ctx.chain.legs.map Leg.state) = [[.done]] := by decide
theorem test_unplug_counts_twice : (after .unplug live).counter .unplug = 2 := by decide
theorem test_close_empty_bank_refused : (after .closeBank State.reset).prt.response.status = .state := by decide
theorem test_release_filling_refused : (after (.releaseBank 0) State.reset).prt.response.payload = [0#8, 1#8, 0#8] := by decide
theorem test_answer_wraps : (after .clearCounters { idle with prt := { idle.prt with answer := 255 } }).prt.answer = 1 := by decide
theorem test_format_payload : (after (.formatRefusal (List.replicate 600 7#8)) idle).prt.response.payload =
    [7#8, 1#8, 255#8] := by decide +kernel
theorem test_clear_spares_clock_unset :
    (after (.clearFlags 0xFFFFFF#24) State.reset).flagged .clockUnset = true := by decide
/-- R21, R23: a TAKEN held behind one that is driven and has reached its age is not lost. -/
theorem test_held_taken_stands : (after .takenExpiry { atEnd with lnk := { atEnd.lnk with
    queue := [⟨.taken 41 7, 1, 3⟩], access := .sending .taken [] (some (.replace (.taken 41 9))) } }).lnk.access =
      .sending .taken [] (some (.replace (.taken 41 9))) := by decide
/-- R22, R30: two boundaries in one transmission of a claim that then collides are two missed epochs; that is none and the streak
0 where the claim is sent. -/
theorem test_two_boundaries_in_a_claim :
    (let s := after (.setTime 7) (after .epochBoundary (driving atEnd (.claim emptyClaim) none))
     s.lnk.streak = 1 ∧ (after .collision s).lnk.streak = 2 ∧ (after .frameSent s).lnk.streak = 0) := by decide +kernel
/-- R108: between an epoch boundary and the tick event that completes with it, the tick of a snapshot is not advanced. -/
theorem test_snapshot_between : (after .snapshot (after .epochBoundary atEnd)).snap.map (fun n => (n.epoch, n.tick)) =
    some (101, 19) ∧ (after .snapshot (after .tickEvent (after .epochBoundary atEnd))).snap.map (fun n => (n.epoch, n.tick)) =
      some (101, 0) := by decide
/-- R3: an epoch restart gives no tick event, and the next brings the tick to 1. -/
theorem test_restart_ends_owed_tick :
    (after .tickEvent (after (.setTime 7) (after .epochBoundary atEnd))).clk.tick = 1 := by decide
/-- R47: the own bay with no result table yet: the own grant 690 and the own feeder 0. -/
theorem test_own_result_part : ((after (.readPeerByBay 5) live).prt.response.payload.drop 27).take 4 =
    [0#8, 2#8, 178#8, 0#8] := by decide
/-- R149, R158: the figures of a window stand once it is closed. -/
theorem test_closed_window_figures : (after .epochBoundary { liveAtEnd with
    prk := { Prk.reset with query := some ⟨41, 1, 3, none⟩ } }).prk.idle = ⟨41, 0, 3⟩ := by decide
/-- R93, R92: after reset the discard mark is clear. -/
theorem test_discard_after_reset : (after .readStatus State.reset).prt.response.payload[53]? = some 0#8 := by decide +kernel
/-- R176: fifteen bits are one byte; the rise of chip select brings the command that it spells. -/
theorem test_pins_fifteen_bits :
    ((clocked (bitsOf 15#8 ++ List.replicate 7 true)).foldl PortPins.after (PortPins.released.after .selectFalls)).command
      .selectRises = some .snapshot := by decide +kernel
/-- R177: the READY record of power-on reset begins with kind 0 and status 0, and data out is released with chip select high. -/
theorem test_pins_data_out : PortPins.released.dataOut State.reset = none ∧
    (PortPins.released.after .selectFalls).dataOut State.reset = some false := by decide +kernel
/-- R14, R49: a CLAIM under way at power-on reset never reaches PTB, though CONFIGURE comes before the line falls idle. -/
theorem test_frame_under_way_at_power_on :
    (let t := after (.claimFrame 7 100 emptyClaim) (after (.configure cfg5) (after .powerOnReset (after .lineBusy idle)))
     t.lnk.station = .listening ∧ t.ptb.entries = [] ∧
       (after (.claimFrame 7 100 emptyClaim) (after .lineIdle t)).ptb.entries.map PeerEntry.bay = [7]) := by decide +kernel
theorem test_bay_reset_parks : (after .bayReset live).prk.entries.map (fun e => (e.busId, e.hold)) = [(41, 43200)] := by decide

/-- A QUERY from bay 7 for bus 41 (R191), heard bit by bit. -/
theorem test_line_query_heard :
    LineWatch.rest.hears .depot (((Frame.query 41).bytes 7 100).flatMap lineBits ++ List.replicate 16 true) =
      [.lineBusy, .queryFrame 7 41, .lineIdle] := by decide +kernel

/-- A line that falls to 0 and stays there: a byte without its stop bit and six bits more, in no frame (R15, R191). -/
theorem test_line_stuck_low :
    LineWatch.rest.hears .depot (List.replicate 16 false) = [.lineBusy, .droppedFrame [0#8] false, .lineIdle] ∧
      LineWatch.rest.hears .stage (List.replicate 40 false) = [] := by decide +kernel

/-- R176, R186, R187: a transaction under way at the fall of RESETn brings no command, nor does a rise of chip select while
power-on reset lasts. ATTN, asserted before, is released until it ends and after it. -/
theorem test_pins_in_reset :
    (let s := { State.reset with prt := { State.reset.prt with mask := 0xFFFFF#20 } }
     let p := (PortPins.selected (bitsOf 15#8) 8).after .resetFalls
     (PortPins.selected [] 0).attn s = true ∧ p.attn s = false ∧ p.command .selectRises = none ∧
       (p.after .selectFalls).dataOut s = none ∧ (p.after .resetRises).attn (after .powerOnReset s) = false) := by decide +kernel

/-- R14, R24, R25: on a line that stays released the start bit collides, the line is idle all the while, and the next backoff,
for 5 × 5 + 1 × 11 = 36 slots, begins at once. A peer's frame that begins then is taken. -/
theorem test_line_released :
    (let s := { idle with lnk := { idle.lnk with queue := [freshEntry (.query 41)], access := .sending .query [3#8] none,
                                                 armed := false } }
     (LinkPins.mk 0 0 .rest).brings s .released = [.collision] ∧ (after .collision s).lnk.access = .backoff .query 288 ∧
       (after .lineBusy (after .collision s)).receives = true ∧ (after .collision (after .lineBusy s)).receives = false) := by
  decide +kernel

/-- R148, and log entry 58: a window takes an OFFER though its own QUERY still stands in the queue. -/
theorem test_offer_before_own_query :
    (let s := { idle with ses := some { bus41 with busId := 52, cap := 0 }, prk := { Prk.reset with query := some ⟨52, 3, 0, none⟩ },
                          lnk := { idle.lnk with queue := [freshEntry (.query 52)] } }
     (after (.offerFrame 7 offer52) s).prk.query.map (fun q => (q.offers, q.best.map Candidate.bay)) = some (1, some 7)) := by
  decide +kernel

/-- R25: the bit time in which a driven 0 reads as 1 is the collision; the station then waits for the line (R24). -/
theorem test_line_bit_time :
    (let s := { idle with lnk := { idle.lnk with queue := [freshEntry (.query 41)], access := .sending .query [2#8] none,
                                                 lineIdle := false, armed := false } }
     (LinkPins.mk 0 0 .rest).drives s = some false ∧ ((LinkPins.mk 0 0 .rest).after s (.held (-1500))).readBack = 1 ∧
       ((LinkPins.mk 0 3 .rest).bitTime s (.held 1500)).2 = exec .collision s ∧
       (after .collision s).lnk.access = .waiting) :=
  ⟨by decide, by decide, rfl, by decide⟩

/-- R114: the expiry of the edge watch while SENSE_FAULT is present: the watch comes to 3, and nothing is captured. -/
theorem test_edge_watch_in_sense_fault :
    (let s : State := { live with rsv := { Rsv.reset with edgeWatch := 2, senseFault := true } }
     (after .edgeWatchExpiry s).rsv.edgeWatch = 3 ∧ (after .edgeWatchExpiry s).log = s.log ∧
       (after .edgeWatchExpiry s).prt = s.prt) := by decide

/-- The levels of a line that only this station drives. -/
def ownLevels (bits : List Bool) : List LineLevel := bits.map fun b => .held (if b then 1500 else -1500)

/-- Kinds 2 and 3 driven at once part at the last data bit of the first byte, 2 being 00000010 and 3 being 00000011 (R25, R191). -/
theorem test_line_collision :
    (let event := (Access.sending .event ((Frame.event 1 0 0).bytes 3 100) none).readBits
     let query := (Access.sending .query ((Frame.query 41).bytes 7 100) none).readBits
     let line := (event.zip query).map fun p => if p.1 == p.2 then LineLevel.held (if p.1 then 1500 else -1500) else .held 0
     readbackFrom event 0 line = some (8, .collision) ∧ readbackFrom query 0 line = some (8, .collision) ∧
       readbackFrom query 0 (ownLevels query) = some (58, .frameSent)) := by decide +kernel

/-! ## Witnesses: for each statement with hypotheses, states and operands that meet them, each clause at the ends of its range -/

/-- A station in full use: a peer, a session, an event, a parked context, a stored record. -/
def busy : State :=
  { withParked (withPeers event12 [peerOf 12 2 (claimOf 1 none 0 900 0)]) [parked 52 100 none] with
    log := { Log.reset with a := { state := .filling, records := [record0] }, seq := 1 } }

theorem witness_StepTakesTheFrontCommand : State.reset.pending = [] := rfl

theorem witness_invariants :
    busy.ClockOk ∧ busy.SetpointOk ∧ busy.LogOk ∧ busy.PeersOk ∧ busy.ReserveOk ∧ busy.ParkOk ∧ busy.StationOk ∧ busy.QueueOk ∧
      busy.ChainsOk ∧ busy.AccountsOk := by
  and_intros <;> decide

theorem witness_widths_and_notices :
    busy.PeerWidthsOk ∧ busy.NoticesOk ∧ ∀ i ∈ [Instr.tickEvent].head?, i.wellFormed = true :=
  ⟨by decide, fun n => by cases n <;> decide, by decide⟩

theorem witness_invariant_step : ∃ t, step { busy with pending := [.tickEvent] } = .next t := ⟨_, rfl⟩

theorem witness_AccountsAddUp :
    (3599 < 3600 ∧ inInt32 (2147483646 + (3599 + 1) / 3600) = true) ∧
      (0 < 3600 ∧ inInt32 (2147483647 + (0 + 3600) / 3600) = false) := by decide

/-- A busy line, the record that CONFIGURE then takes, and a frame. -/
theorem witness_PowerOnReset :
    (after .lineBusy idle).lnk.lineIdle = false ∧ (∀ n ∈ List.range 43, configFieldOk cfg5 n = true) ∧
      frameSender (.claimFrame 64 100 emptyClaim) = some 64 := by decide

/-- The setpoint's bounds: a forced-zero case, a session with none, and an event. -/
theorem witness_SetpointBounds :
    State.reset.lnk.station = .unconfigured ∧ live.ses = some bus41 ∧
      ¬(live.lnk.station = .unconfigured ∨ live.lnk.station = .listening ∨ live.ses = none ∨ live.prk.query ≠ none ∨
        live.stg.stageFault = true ∨ live.stg.meterLost = true) ∧ live.rsv.active = false ∧ event12.rsv.active = true := by
  decide

theorem witness_CommandRecordsRoundTrip :
    (Instr.chainLoad (List.replicate 8 ⟨1, 1439, 16777215⟩)).wellFormed = true ∧
      (Instr.chainLoad []).portKind.isSome = true ∧ (Instr.plug ⟨255, 4294967295, 0, 0, 65535, 255, 0⟩).wellFormed = true := by
  decide

theorem witness_FramesAndMeasuresRoundTrip :
    ((Frame.claim { emptyClaim with dep := some 86399, drawn := -32768 }).wellFormed = true ∧ 1 ≤ 1 ∧ 1 ≤ 64 ∧ 65535 < 65536) ∧
      ((Frame.offer offer52).wellFormed = true ∧ 1 ≤ 64 ∧ 64 ≤ 64) ∧ (255 < 256 ∧ (-32768 : Int) ≤ -32768 ∧ 65535 < 65536) ∧
      (List.replicate 8 true).length < 9 := by
  decide

theorem witness_EveryPortCommandIsAnswered : Instr.closeBank.portKind = some 9 ∧ Instr.closeBank ≠ .bayReset := by decide

theorem witness_FormatAndStateRefusals :
    ((List.replicate 7 true).length < 8 ∧ Instr.snapshot.wellFormed = true ∧ Instr.snapshot.portKind.isSome = true ∧
      [15#8] = encodeRecord .snapshot) ∧
      (PortEdge.clockRises true ∉ [.selectRises, .resetFalls, .resetRises] ∧ PortEdge.resetRises ∉ [.selectFalls, .resetFalls] ∧
        PortEdge.selectRises ∉ [.resetFalls, .resetRises] ∧ PortPins.released ≠ .inReset ∧
        PortPins.selected [true] 1 ≠ .inReset) ∧
      (List.replicate 257 6#8 ≠ [] ∧ 256 < (List.replicate 257 6#8).length) ∧ recordLength [21#8] (field [21#8] 0 1) ≠ some 1 ∧
      idle.lnk.station ≠ .unconfigured ∧ State.reset.lnk.station = .unconfigured ∧ live.ses ≠ none ∧ idle.ses = none ∧
      { live with prk := { live.prk with query := some ⟨41, 3, 0, none⟩ } }.prk.query ≠ none := by decide +kernel

theorem witness_ConfigureChecksAndStores :
    State.reset.lnk.station = .unconfigured ∧ (∀ n ∈ List.range 43, configFieldOk cfg5 n = true) ∧
      (∀ n ∈ List.range 42, configFieldOk { cfg5 with band3 := ⟨0, 0, 0, 0, 0, 2⟩ } 18 = true) ∧
      configFieldOk { cfg5 with bayId := 65 } 1 = false ∧
      (configFieldOk { cfg5 with feeder := 2 } 7 = false ∧ ∀ n ∈ List.range 7, configFieldOk { cfg5 with feeder := 2 } n = true) ∧
      configFieldOk { cfg5 with band3 := ⟨45000, 65000, 0, 1, 1, 2⟩ } 41 = false := by decide

/-- A station with every optional group of READ_STATUS: a computation, a result, an event, an OFFERED context, a handover. -/
def reported : State :=
  { busy with
    alt := { busy.alt with flight := some { inputs := worked59, ticks := 0 }, result := some worked59.result }
    prk := { busy.prk with
      entries := [parked 52 100 (some ⟨1, [⟨7, 90⟩]⟩)]
      last := some { result := .restored, busId := 41, epoch := 90, offerer := 7, offers := 1, lastE := 5 } } }

theorem witness_StatusAndSessionAreReadWhole :
    reported.log.counters.length = 24 ∧ (∃ f, f ∈ reported.alt.flight) ∧ (∃ r, r ∈ reported.alt.result) ∧
      reported.rsv.bands[3]? = some Band.reset ∧ Band.reset.phase ≠ .triggered ∧ reported.rsv.active = true ∧
      (∃ e, reported.prk.entries[0]? = some e ∧ ∃ w, w ∈ e.offered) ∧ reported.prk.entries.length ≤ 3 ∧
      (∃ h, h ∈ reported.prk.last) ∧ reported.cfg = some cfg5 ∧ idle.ses = none ∧ live.ses = some bus41 :=
  ⟨rfl, ⟨_, rfl⟩, ⟨_, rfl⟩, rfl, by decide, rfl, ⟨_, rfl, ⟨_, rfl⟩⟩, by decide, ⟨_, rfl⟩, rfl, rfl, rfl⟩

/-- Four parked contexts of other buses. -/
def fourParked : List ParkEntry := [parked 1 9 none, parked 2 9 none, parked 3 9 none, parked 4 9 none]

theorem witness_BayReset :
    State.reset.ses = none ∧ live.ses = some bus41 ∧ bus41.cap ≠ 0 ∧ live.prk.query = none ∧
      evictedFor 41 (withParked live fourParked).prk.entries = some (parked 1 9 none) ∧ evictedFor 41 live.prk.entries = none ∧
      (withParked live fourParked).prk.query = none ∧ Notice.senseFault ∉ [Notice.handoverDone] ∧
      { live with prk := { live.prk with query := some ⟨41, 3, 0, none⟩ } }.prk.query ≠ none := by decide

theorem witness_SetTime : 43199 < 43200 ∧ 43200 ≤ 43200 := by decide

theorem witness_LocalAdvance :
    ({ idle with clk := ⟨0, 18, true, none, false⟩ }.clk.tickOwed = false ∧ 18 < 19) ∧
      { idle with clk := ⟨101, 19, true, none, true⟩ }.clk.tickOwed = true ∧
      { idle with clk := ⟨43199, 19, true, some 15, false⟩ }.AtEpochEnd ∧ atEnd.AtEpochEnd ∧ idle.clk.tick ≠ 19 := by decide

theorem witness_FramesOfBoundariesAndTicks :
    idle.WithinEpoch ∧
      { idle with stg := { Stg.reset with gap := 3, answer := some .awaiting } }.losesMeter = true ∧
      { idle with rsv := { Rsv.reset with edgeWatch := 2 } }.edgeWatchExpires = true ∧
      (let bands (b : Band) := [b, Band.reset, Band.reset, Band.reset]
       let trigger : State := { idle with rsv := { Rsv.reset with freq := some 49500, bands := bands ⟨.dwell, 4, false⟩ } }
       let recovered : State := { idle with rsv := { Rsv.reset with freq := some 49801, bands := bands ⟨.recover, 19, true⟩ } }
       trigger.rsv.bands[0]? = some ⟨.dwell, 4, false⟩ ∧ trigger.steppedBands[0]?.map Band.phase = some .triggered ∧
         recovered.rsv.bands[0]? = some ⟨.recover, 19, true⟩ ∧ recovered.steppedBands[0]?.map Band.phase = some .out) := by
  decide

/-- The five distances of R5 at epoch 100: 0, 5, 6, 43194, 43195. -/
theorem witness_ClaimFollowsMaxSync :
    idle.Delivers 64 ∧ idle.clk.epoch < 43200 ∧ (∀ e ∈ [100, 105, 106, 94, 95], e < 43200) ∧
      ([100, 105, 106, 94, 95].map fun e => (e + 43200 - idle.clk.epoch) % 43200) = [0, 5, 6, 43194, 43195] ∧
      (claimOf 3 (some (-43200)) 0 0 0).feeder ≤ 3 ∧ (claimOf 3 (some (-43200)) 0 0 0).busId ≤ 255 ∧
      (∀ d ∈ (claimOf 3 (some 86399) 0 0 0).dep, -43200 ≤ d ∧ d ≤ 86399) ∧ idle.log.counters.length = 24 := by decide

/-- A claim of bay 7 that reports the live session's bus: DUP_BUS begins, and its record is stored. -/
theorem witness_ClaimBeginsDupBus :
    (let t := after (.claimFrame 7 100 { emptyClaim with busId := 41 }) live
     live.Delivers 7 ∧ live.PeersOk ∧ live.ptb.dupBus = false ∧ t.ptb.dupBus = true ∧
       live.log.mask.getLsbD 18 = true ∧ live.log.lost < 255 ∧ t.log.lost = live.log.lost ∧
       t.log.a.records.map (fun r => (r.cause, r.detail, r.busId)) = [(.dupBus, 7#32, 41)]) := by
  and_intros <;> decide +kernel

theorem witness_AccessToTheLine :
    chooseEntry [⟨.query 1, 12, 0⟩, ⟨.claim emptyClaim, 11, 0⟩] = some ⟨.claim emptyClaim, 11, 0⟩ ∧
      chooseEntry [⟨.query 1, 12, 0⟩] = none ∧ idle.lnk.access.isSending = false ∧
      (driving idle (.query 1) none).lnk.access.isSending = true ∧
      (let s : State := { idle with lnk := { idle.lnk with queue := [freshEntry (.query 1)], access := .backoff .query 200 } }
       s.lnk.lineIdle = true ∧ s.lnk.queue.find? (QEntry.hasKey .query) = some (freshEntry (.query 1))) := by decide

theorem witness_EndsOfTransmission :
    (driving idle (.claim emptyClaim) none).lnk.access = .sending .claim [] none ∧
      (driving idle (.query 1) (some .remove)).lnk.access = .sending .query [] (some .remove) ∧
      (driving idle (.claim emptyClaim) (some (.replace (.claim emptyClaim)))).lnk.access =
        .sending .claim [] (some (.replace (.claim emptyClaim))) ∧ idle.lnk.station = .active ∧ ¬7 ≤ idle.lnk.streak ∧
      (let s := driving { idle with lnk := { idle.lnk with streak := 7 } } (.claim emptyClaim) (some .remove)
       s.lnk.station = .active ∧ 7 ≤ s.lnk.streak ∧ s.log.counters.length = 24) ∧
      (let bits := (Access.sending .query [0xFE#8] none).readBits
       bits ≠ [] ∧ bits.length = (ownLevels bits).length ∧
         (∀ n < 9, ((ownLevels bits)[n]?.bind fun l : LineLevel => bits[n]?.map l.beyond) = some true) ∧
         (LineLevel.held (-200)).beyond false = false ∧ bits[8]? = some false) := by decide

theorem witness_FramesThatAreNotDelivered :
    frameSender (.queryFrame 0 1) = some 0 ∧ State.reset.receives = false ∧ idle.receives = true ∧ ¬(1 ≤ 0 ∧ 0 ≤ 64) ∧
      ¬(1 ≤ 65 ∧ 65 ≤ 64) ∧ (idle.Delivers 1 ∧ ¬FrameInRange (.queryFrame 1 0)) ∧ 5 = idle.ownBay ∧
      idle.lnk.dupBay = false ∧ idle.log.counters.length = 24 ∧ decodeFrame [] true = none ∧
      (decodeFrame ((Frame.query 0).bytes 7 100) true = some (.queryFrame 7 0) ∧ frameSender (.queryFrame 7 0) = some 7 ∧
        7 ≠ idle.ownBay ∧ ¬FrameInRange (.queryFrame 7 0)) := by
  unfold FrameInRange; decide +kernel

/-- One step past each range of R17 that a width does not give. -/
theorem witness_ranges_of_frames :
    (¬FrameInRange (.claimFrame 7 43200 emptyClaim) ∧ ¬FrameInRange (.claimFrame 7 0 { emptyClaim with feeder := 4 }) ∧
      ¬FrameInRange (.claimFrame 7 0 { emptyClaim with dep := some 86400 })) ∧
      (¬FrameInRange (.eventFrame 7 8 0 1 1) ∧ ¬FrameInRange (.eventFrame 7 7 0 1 3601)) ∧
      (¬FrameInRange (.takenFrame 7 0 1) ∧ ¬FrameInRange (.takenFrame 7 1 65)) ∧
      (¬FrameInRange (.offerFrame 7 { offer52 with dayAge := 8 }) ∧ ¬FrameInRange (.offerFrame 7 { offer52 with cap := 9999 }) ∧
        ¬FrameInRange (.offerFrame 7 { offer52 with cursor := 1 }) ∧ FrameInRange (.offerFrame 7 offer52)) := by
  and_intros <;> simp [FrameInRange, OfferInRange, offer52, emptyClaim]

theorem witness_TakenExpiryAndListeningEnd :
    atEnd.AtEpochEnd ∧ atEnd.prk.query = none ∧
      (let s : State := { atEnd with lnk := { atEnd.lnk with queue := [⟨.taken 41 7, 2, 3⟩] } }
       (∀ e ∈ s.lnk.queue, keyOf e.frame = .taken ∧ e.age = 3) ∧ s.lnk.access.drives .taken = false) ∧
      (let s : State := { atEnd with lnk := { atEnd.lnk with queue := [⟨.taken 41 7, 2, 3⟩],
                                                             access := .sending .taken [] (some .remove) } }
       (∀ e ∈ s.lnk.queue, keyOf e.frame = .taken ∧ e.age = 3) ∧ s.lnk.access = .sending .taken [] (some .remove)) ∧
      (let s : State := { atEnd with lnk := { atEnd.lnk with station := .listening, listening := 1 } }
       s.AtEpochEnd ∧ s.lnk.station = .listening ∧ s.lnk.listening = 1) := by decide

theorem witness_BoundaryClaimsAndLatches :
    (liveAtEnd.AtEpochEnd ∧ liveAtEnd.prk.query = none ∧ liveAtEnd.lnk.station = .active ∧ liveAtEnd.ReserveOk ∧
      liveAtEnd.rsv.active = false) ∧
      (let s : State := { event12 with clk := ⟨43199, 19, true, none, false⟩ }
       s.AtEpochEnd ∧ s.ReserveOk ∧ s.rsv.active = true ∧ 1 < s.rsv.remaining ∧ s.rsv.standing = some .member ∧
         s.ses ≠ none ∧ s.prk.query = none) ∧
      (let s : State := { liveAtEnd with prk := { liveAtEnd.prk with query := some ⟨41, 2, 0, none⟩ } }
       (∀ q ∈ s.prk.query, 1 < q.countdown) ∧ s.ses ≠ none ∧ s.prk.query ≠ none) ∧
      (let s : State := { atEnd with lnk := { atEnd.lnk with streak := 7, queue := [freshEntry (.claim emptyClaim)] } }
       (s.lnk.station = .active ∧ s.ses = none) ∧ 7 ≤ s.lnk.streak ∧ s.lnk.access.drives .claim = false ∧
         ∃ e ∈ s.lnk.queue, keyOf e.frame = .claim) ∧
      (driving atEnd (.claim emptyClaim) (some (.replace (.claim emptyClaim)))).lnk.access =
        .sending .claim [] (some (.replace (.claim emptyClaim))) ∧
      { liveAtEnd with lnk := { liveAtEnd.lnk with station := .isolated } }.lnk.station = .isolated := by
  and_intros <;> decide

/-- Limits and draws: a LIVE peer with a lower limit, a STALE one that draws, and one that feeds back. -/
theorem witness_LimitsInEffect :
    (let s := withPeers idle [peerOf 3 2 { claimOf 1 none 0 0 900 with serviceLimit := 2999 }, peerOf 7 3 (claimOf 1 none 0 0 400),
                              peerOf 9 14 (claimOf 1 none 0 0 (-400))]
     s.lEff = 2999 ∧ s.fEff 1 = 2000 ∧ heldOn s.ptb.entries 1 = 400 ∧ s.fairShare = 124) := by decide

theorem witness_SilentPeers :
    (let s := withPeers atEnd [peerOf 64 2 (claimOf 1 none 0 0 (-400))]
     s.AtEpochEnd ∧ (s.ptb.entries.map PeerEntry.bay).Nodup ∧ peerOf 64 2 (claimOf 1 none 0 0 (-400)) ∈ s.ptb.entries) ∧
      (let s := withPeers atEnd [peerOf 1 14 (claimOf 1 none 0 0 400)]
       peerOf 1 14 (claimOf 1 none 0 0 400) ∈ s.ptb.entries ∧ (peerOf 1 14 (claimOf 1 none 0 0 400)).silence = 14) := by decide

/-- A full table: 63 entries, every bay but the own. -/
def fullTable : State := withPeers idle (((List.range 65).filter fun b => b ≠ 0 && b ≠ 5).map fun b => peerOf b 0 (claimOf 0 none 0 0 0))

theorem witness_PeerTableNeverNeedsRoom :
    fullTable.PeersOk ∧ 1 ≤ fullTable.ownBay ∧ fullTable.ownBay ≤ 64 ∧ fullTable.ptb.entries.length = 63 ∧
      (idle.PeersOk ∧ ∀ p ∈ idle.ptb.entries, p.bay ≠ 64) := by
  and_intros <;> decide +kernel

theorem witness_ReadPeer :
    fullTable.ptb.entries[62]? = some (peerOf 64 0 (claimOf 0 none 0 0 0)) ∧ 62 ≤ 62 ∧ 62 < 63 ∧ idle.ptb.entries.length ≤ 0 ∧
      1 < 2 ∧ 64 < 65 ∧ (State.reset.cfg = none ∧ 1 ≤ 64) ∧ (idle.cfg = some cfg5 ∧ 64 ≠ idle.ownBay ∧ cfg5.bayId = 5) ∧
      (fullTable.ptb.entries.find? fun p => p.bay == 64) = some (peerOf 64 0 (claimOf 0 none 0 0 0)) ∧
      (∀ p ∈ idle.ptb.entries, p.bay ≠ 1) ∧ idle.lastClaim = none ∧
      (∃ m, m ∈ { idle with lastClaim := some ⟨emptyClaim, 100⟩ }.lastClaim) ∧
      (reported.alt.result.bind fun r => (r.rows.find? fun w => w.bay == 5).map fun w => (w, r.epoch)) =
        some (⟨5, 0, 540⟩, 4229) := by
  refine ⟨?_, ?_, ?_, ?_, ?_, ?_, ?_, ?_, ?_, ?_, ?_, ⟨_, rfl⟩, ?_⟩ <;> decide +kernel

theorem witness_PlugStartsASession :
    idle.lnk.station ≠ .unconfigured ∧ idle.cfg = some cfg5 ∧ idle.ses = none ∧ idle.prk.query = none ∧
      PlugInRange ⟨255, 1000000, 1000000, 1000000, 65535, 1, 65535⟩ ∧ PlugInRange ⟨1, 0, 0, 0, 0, 0, 0⟩ ∧
      PlugInRange ⟨1, 10000, 0, 0, 0, 0, 0⟩ ∧ ¬PlugInRange ⟨0, 9999, 0, 0, 0, 0, 0⟩ ∧ ¬PlugInRange ⟨1, 9999, 0, 0, 0, 0, 0⟩ ∧
      ¬PlugInRange ⟨1, 0, 1000001, 0, 0, 0, 0⟩ ∧ ¬PlugInRange ⟨1, 0, 0, 1000001, 0, 0, 0⟩ ∧ ¬PlugInRange ⟨1, 0, 0, 0, 0, 2, 0⟩ ∧
      (withParked idle [parked 41 100 none]).prk.entryOf 41 = some (parked 41 100 none) ∧ idle.prk.entryOf 41 = none ∧
      event12.rsv.active = true ∧ { event12 with ses := none }.ses = none := by
  and_intros <;> decide

/-- An OFFERED entry for the bus, its OFFER queued, and a LIVE peer that reports the bus. -/
theorem witness_Plug_offered :
    (let s := { withParked (withPeers idle [peerOf 7 2 { emptyClaim with busId := 41 }]) [parked 41 100 (some ⟨4, []⟩)] with
                  lnk := { idle.lnk with queue := [freshEntry (.query 41), freshEntry (.offer { offer52 with busId := 41 })] } }
     let t := after (.plug ⟨41, 0, 1000000, 0, 0, 0, 0⟩) s
     s.prk.entryOf 41 = some (parked 41 100 (some ⟨4, []⟩)) ∧ s.lnk.access.drives (.offer 41) = false ∧
       (s.ptb.entries.find? fun q => decide (q.state = .live) && q.claim.busId == 41).map PeerEntry.bay = some 7 ∧
       s.ptb.dupBus = false ∧ t.log.lost = s.log.lost ∧ t.lnk.queue = [freshEntry (.query 41)] ∧
       t.log.a.records.map (fun r => (r.cause, r.detail, r.energy)) = [(.dupBus, 7#32, 0), (.plugLocal, 0#32, 400000)]) := by
  decide +kernel

theorem witness_VehicleUpdateAndChainLoad :
    live.ses = some bus41 ∧ live.cfg = some cfg5 ∧ live.prk.query = none ∧ 1 ≤ 1 ∧ 1 < 2 ∧
      (∀ l ∈ [(⟨1, 1439, 400000⟩ : NewLeg)], l.dayOffset ≤ 1 ∧ l.minute ≤ 1439 ∧ l.req ≤ bus41.cap) ∧
      ¬(∀ l ∈ [(⟨1, 1440, 0⟩ : NewLeg)], l.dayOffset ≤ 1 ∧ l.minute ≤ 1439 ∧ l.req ≤ bus41.cap) ∧
      8 < (List.replicate 9 (⟨0, 0, 0⟩ : NewLeg)).length ∧
      (let departs (l : NewLeg) : Int := ((l.dayOffset * 43200 + l.minute * 30 : Nat) : Int)
       let ls : List NewLeg := [⟨0, 10, 0⟩, ⟨0, 10, 0⟩]
       1 < ls.length ∧ ((ls.take 1).map departs).Pairwise (· < ·) ∧ ¬((ls.take 2).map departs).Pairwise (· < ·) ∧
         bus41.chain.legs.take bus41.chain.cursor = []) := by decide

theorem witness_UnplugParksAndEnds :
    live.ses = some bus41 ∧ live.cfg = some cfg5 ∧ live.prk.query = none ∧
      (let s : State := { live with ses := some { bus41 with cap := 0 }, prk := { live.prk with query := some ⟨41, 3, 0, none⟩ } }
       s.prk.query ≠ none) ∧ event12.rsv.active = true ∧
      evictedFor 41 (withParked live fourParked).prk.entries = some (parked 1 9 none) ∧ evictedFor 41 live.prk.entries = none ∧
      live.rsv.active = false ∧ live.log.mask.getLsbD 3 = true ∧ (after .unplug live).log.lost = live.log.lost := by decide

/-- The ends of the departure window of leg 10500 with w = 15. -/
theorem witness_Unplug_window :
    ∃ l, bus41.chain.legs[bus41.chain.cursor]? = some l ∧ l.dep - cfg5.window * 30 ≤ 10050 ∧ (10950 : Int) ≤ l.dep + cfg5.window * 30 :=
  ⟨_, rfl, by decide⟩

theorem witness_BoundaryTestsLegsAndReadies :
    liveAtEnd.AtEpochEnd ∧ liveAtEnd.ses = some bus41 ∧ liveAtEnd.cfg = some cfg5 ∧ liveAtEnd.prk.query = none ∧
      bus41.chain.Ok := by decide

/-- Leg 0 is past its window: it is MISSED and its record carries index 0. -/
theorem witness_LegMissed :
    (let s : State := { liveAtEnd with clk := ⟨10950, 19, true, none, false⟩ }
     s.AtEpochEnd ∧ s.log.mask.getLsbD 4 = true ∧ (after .epochBoundary s).ses.map (fun w => w.chain.cursor) = some 1 ∧
       (after .epochBoundary s).log.lost = s.log.lost ∧
       (after .epochBoundary s).log.a.records.map (fun r => (r.cause, r.detail)) = [(.legMissed, 0#32)]) := by decide +kernel

theorem witness_ReadinessFigures :
    bus41.chain.cursorLeg = some ⟨10500, 280000, .pending⟩ ∧ { bus41 with chain := ⟨[], 0⟩ }.chain.cursorLeg = none ∧
      (bus41.readied cfg5 4200 690 true).pledge = 0 := by decide

theorem witness_ResultsObeyTheirBounds :
    (worked59.ownBay :: worked59.peers.map PeerEntry.bay).Nodup ∧
      (∀ b ∈ worked59.ownBay :: worked59.peers.map PeerEntry.bay, 1 ≤ b ∧ b ≤ 64) ∧ worked59.own.feeder ≤ 3 ∧
      (∀ p ∈ worked59.peers, p.claim.feeder ≤ 3) ∧ worked59.own.need ≤ worked59.own.ask ∧ worked59.origin < 64 ∧
      ({ worked59 with origin := 63 }).origin < 64 ∧ ({ worked59 with peers := [] }).peers = [] := by decide

theorem witness_PassTwoEndsWithin65Rounds :
    (List.replicate 64 ({ bay := 1, feeder := 0, dep := none, need := 0, ask := 1, grant := 0 } : Taker)).length ≤ 64 := by decide

/-- A station with a computation in flight, marked for discard or not, that has seen so many tick events. -/
def computing (discard : Bool) (ticks : Nat) : State :=
  { idle with alt := { Alt.reset with flight := some { inputs := worked59, ticks := ticks }, discard := discard } }

theorem witness_Completion :
    idle.alt.flight = none ∧ (computing true 4).alt.flight = some { inputs := worked59, ticks := 4 } ∧
      (computing true 4).alt.discard = true ∧ (computing false 3).alt.discard = false ∧ 3 < 4 ∧
      (computing false 4).WithinEpoch ∧ (computing false 4).steppedBands = (computing false 4).rsv.bands := by decide

/-- A state that awaits the answer to exchange 0. -/
def awaiting : State := { live with stg := { Stg.reset with seq := 0, answer := some .awaiting } }

theorem witness_MeasureIsJudged :
    decodeMeasure [] = none ∧ decodeMeasure (Measure.bytes ⟨0, -1, 0, true, false⟩) = some ⟨0, -1, 0, true, false⟩ ∧
      idle.stg.answer ≠ some .awaiting ∧ awaiting.stg.answer = some .awaiting ∧ 255 = (awaiting.stg.seq + 255) % 256 ∧
      1 ≠ awaiting.stg.seq ∧ 0 = awaiting.stg.seq ∧ awaiting.stg.stageFault = false := by decide

theorem witness_TickRunsTheExchange :
    awaiting.clk.tick < 19 ∧ awaiting.clk.tickOwed = false ∧ awaiting.steppedBands = awaiting.rsv.bands ∧
      awaiting.alt.flight = none ∧ awaiting.SetpointOk ∧ awaiting.losesMeter = false := by decide

theorem witness_MeterLostAndEdgeWatch :
    (let s : State := { live with stg := { Stg.reset with gap := 3, answer := some .spoiled } }
     s.WithinEpoch ∧ s.stg.gap = 3 ∧ s.stg.answer = some .spoiled ∧ s.log.counters.length = 24) ∧
      (let s : State := { live with rsv := { Rsv.reset with edgeWatch := 2 } }
       s.WithinEpoch ∧ s.rsv.edgeWatch = 2 ∧ s.rsv.senseFault = false) ∧
      (let s : State := { live with rsv := { Rsv.reset with edgeWatch := 2, senseFault := true } }
       s.WithinEpoch ∧ s.rsv.edgeWatch = 2 ∧ s.rsv.senseFault = true) := by decide

theorem witness_SnapshotsAreTakenAndRead :
    idle.ses = none ∧ live.ses = some bus41 ∧ (exec .snapshot live matches .next _) ∧ idle.snap = none ∧
      (∃ n, (after .snapshot live).snap = some n) ∧ Instr.readSnapshot ≠ .snapshot ∧ Instr.readSnapshot ≠ .powerOnReset :=
  ⟨by decide, by decide, rfl, rfl, ⟨_, rfl⟩, by decide, by decide⟩

theorem witness_GridEdges :
    idle.rsv.edgeSeen = false ∧ { idle with rsv := { Rsv.reset with edgeSeen := true } }.rsv.edgeSeen = true ∧
      10000000000 / 222222 = 45000 ∧ 10000000000 / 153846 = 65000 ∧ 10000000000 / 222223 < 45000 ∧
      65000 < 10000000000 / 153843 := by decide

/-- Bands as the statement on them takes them: band 0 with this monitor and this frequency. -/
def banded (f : Nat) (b : Band) : State :=
  { idle with rsv := { Rsv.reset with freq := some f, bands := [b, Band.reset, Band.reset, Band.reset] } }

theorem witness_BandsTriggerAndRecover :
    (banded 49500 ⟨.dwell, 4, false⟩).WithinEpoch ∧ (banded 49500 ⟨.dwell, 4, false⟩).cfg = some cfg5 ∧
      (banded 49500 ⟨.dwell, 4, false⟩).rsv.freq = some 49500 ∧ cfg5.bands[0]? = some cfg5.band0 ∧
      (banded 49500 ⟨.dwell, 4, false⟩).rsv.bands[0]? = some ⟨.dwell, 4, false⟩ ∧ cfg5.band0.enabled = 1 ∧
      (cfg5.band0.low ≤ 49500 ∧ 49500 ≤ cfg5.band0.high ∧ cfg5.band0.dwell ≤ 4 + 1) ∧
      (banded 49801 ⟨.recover, 19, true⟩).rsv.senseFault = false ∧ cfg5.band0.high < 49801 ∧ cfg5.band0.recovery ≤ 19 + 1 ∧
      3 + 1 < cfg5.band0.dwell ∧ 18 + 1 < cfg5.band0.recovery ∧
      (cfg5.bands[3]? = some cfg5.band3 ∧ cfg5.band3.enabled ≠ 1 ∧ (banded 49500 Band.reset).rsv.bands[3]? = some Band.reset) ∧
      (idle.WithinEpoch ∧ idle.rsv.freq = none) := by decide

theorem witness_EventFrameTakesAnEvent :
    live.Delivers 12 ∧ live.rsv.active = false ∧ 0 < 1 ∧ 3600 ≤ 3600 ∧ live.log.counters.length = 24 ∧ live.ses ≠ none ∧
      live.prk.query = none ∧ live.lnk.station = .active ∧ idle.ses = none := by decide

theorem witness_EventFramesDuringAnEvent :
    event12.Delivers 12 ∧ event12.Delivers 7 ∧ event12.rsv.active = true ∧ event12.rsv.holder = some 12 ∧
      (1 ≤ (41 + 256 - event12.rsv.lastSeq) % 256 ∧ (167 + 256 - event12.rsv.lastSeq) % 256 ≤ 127) ∧
      ¬(1 ≤ (40 + 256 - event12.rsv.lastSeq) % 256) ∧ ¬((168 + 256 - event12.rsv.lastSeq) % 256 ≤ 127) ∧
      event12.rsv.dActive < 1001 ∧ 1000 ≤ event12.rsv.dActive ∧ 7 ≠ 12 := by decide

theorem witness_SharesServeTheDemand :
    (event12.rsv.members.map Member.bay).Nodup ∧ (∀ m ∈ event12.rsv.members, 1 ≤ m.bay ∧ m.bay ≤ 64) ∧ 63 < 64 ∧
      1000 < (event12.rsv.members.map Member.pledge).sum ∧ (event12.rsv.members.map Member.pledge).sum ≤ 1600 := by decide

/-- An event with this holder, remaining epochs and refresh countdown, just before an epoch boundary. -/
def eventAtEnd (holder remaining refresh : Nat) : State :=
  { event12 with
    clk := ⟨100, 19, true, none, false⟩
    rsv := { event12.rsv with holder := some holder, lastSeq := 0, remaining := remaining, refresh := refresh } }

theorem witness_CountdownAndRefresh_states :
    ∀ x ∈ [(12, 0, 0), (12, 1, 0), (12, 2, 0), (12, 2, 1), (5, 2, 0), (5, 2, 1), (5, 2, 2)],
      let s := eventAtEnd x.1 x.2.1 x.2.2
      s.AtEpochEnd ∧ s.PeersOk ∧ s.ReserveOk ∧ s.rsv.active = true ∧ s.log.counters.length = 24 := by
  intro x hx
  simp only [List.mem_cons, List.not_mem_nil, or_false] at hx
  rcases hx with rfl | rfl | rfl | rfl | rfl | rfl | rfl <;> and_intros <;> decide

theorem witness_CountdownAndRefresh :
    (eventAtEnd 12 1 0).rsv.remaining ≤ 1 ∧
      (1 < (eventAtEnd 5 2 1).rsv.remaining ∧ (eventAtEnd 5 2 1).rsv.holder = some (eventAtEnd 5 2 1).ownBay ∧
        (eventAtEnd 5 2 1).rsv.refresh ≤ 1) ∧ 1 < (eventAtEnd 5 2 2).rsv.refresh ∧
      (eventAtEnd 12 2 0).rsv.holder ≠ some (eventAtEnd 12 2 0).ownBay ∧
      ((eventAtEnd 12 2 0).rsv.standing = some .member ∧ (eventAtEnd 12 2 0).lnk.station = .active ∧
        (eventAtEnd 12 2 0).prk.query = none) := by decide

/-- What the two records need. Whether RSV takes the boundary first is a free value (log entry 2), so that the former is not computed. -/
theorem witness_CountdownAndRefresh_records :
    ((eventAtEnd 12 1 0).prk.query = none ∧ (eventAtEnd 12 1 0).log.mask.getLsbD 10 = true ∧
      (eventAtEnd 12 1 0).log.lost < 255) ∧
      (let s : State := { eventAtEnd 12 2 0 with clk := ⟨10499, 19, true, none, false⟩ }
       s.log.mask.getLsbD 11 = true ∧ (after .epochBoundary s).lnk.station = .active ∧
         (after .epochBoundary s).rsv.standing = some .withdrawn ∧ (after .epochBoundary s).log.lost = s.log.lost) := by
  decide +kernel

theorem witness_DispatchSetsTheHostDemand :
    idle.lnk.station ≠ .unconfigured ∧ idle.cfg = some cfg5 ∧ 0 < min 65535 cfg5.commitment ∧ idle.bandDemand ≤ 800 ∧
      (let s : State := { eventAtEnd 5 900 5 with
        rsv := { (eventAtEnd 5 900 5).rsv with hostDemand := 1000 } }
       min 0 cfg5.commitment = 0 ∧ 0 < s.rsv.hostDemand ∧ s.bandDemand = 0 ∧ s.ReserveOk ∧ s.rsv.active = true ∧
         s.rsv.holder = some cfg5.bayId) ∧ idle.rsv.hostDemand = 0 ∧
      (let s : State := { idle with rsv := { Rsv.reset with hostDemand := 100, bands := [⟨.triggered, 0, true⟩, Band.reset,
                                                                                          Band.reset, Band.reset] } }
       0 < s.bandDemand ∧ min 50 cfg5.commitment < s.bandDemand ∧ min 50 cfg5.commitment ≠ s.rsv.hostDemand) ∧
      ¬((0 < min 0 cfg5.commitment ∧ idle.bandDemand ≤ 0) ∨ min 0 cfg5.commitment ≠ idle.rsv.hostDemand) := by decide

/-- An entry OFFERED for bus 52, with bay 7's copy a rival. -/
def offered52 (rival : Int) : ParkEntry := parked 52 100 (some ⟨1, [⟨7, rival⟩]⟩)

theorem witness_QueriesAndTakens :
    idle.Delivers 7 ∧ 1 ≤ 52 ∧ 52 ≤ 255 ∧ idle.prk.entryOf 52 = none ∧
      (withParked idle [parked 52 100 none]).prk.entryOf 52 = some (parked 52 100 none) ∧
      ((withParked idle [parked 52 100 none]).prk.entries.map ParkEntry.busId).Nodup ∧ 1 ≤ idle.ownBay ∧ idle.ownBay ≤ 64 ∧
      (offered52 90).parked ≤ 90 ∧ ¬((offered52 89).parked ≤ 89) ∧ 7 ≠ idle.ownBay ∧
      (offered52 90).offered ≠ none ∧ (parked 52 100 none).offered = none := by decide

theorem witness_OffersAreJudgedByFreshness :
    idle.Delivers 7 ∧ OfferInRange offer52 ∧ OfferInRange { offer52 with cap := 10000, legs := [⟨-43200, 10000, 1⟩], cursor := 1 } ∧
      (let s : State := { live with prk := { live.prk with query := some ⟨52, 3, 0, some ⟨9, 43200 + -3200 + -43200, bus41.context⟩⟩ } }
       ∀ w ∈ s.prk.query, w.busId = offer52.busId ∧ ∃ best ∈ w.best, best.parked = -3200 ∧ 7 ≤ best.bay) ∧
      (let s : State := { live with prk := { live.prk with query := some ⟨41, 3, 0, none⟩ } }
       ∀ w ∈ s.prk.query, w.busId ≠ offer52.busId) := by decide

/-- A window that closes at the next epoch boundary, of a session with this capacity. -/
def closing (cap : Nat) (best : Option Candidate) : State :=
  { atEnd with
    ses := some { bus41 with cap := cap, chain := ⟨[], 0⟩ }
    prk := { Prk.reset with query := some ⟨41, 1, 0, best⟩ } }

theorem witness_WindowClose :
    (∀ s ∈ [closing 0 none, closing 400000 none, closing 0 (some ⟨7, 90, bus41.context⟩)],
      s.AtEpochEnd ∧ s.clk.epoch ≠ 43199 ∧ s.lnk.station ≠ .unconfigured ∧ s.log.counters.length = 24 ∧
        (∀ q ∈ s.prk.query, q.countdown = 1) ∧ ∀ v ∈ s.ses, v.chain = ⟨[], 0⟩) := by decide

/-- The queued QUERY of the window, and the records of its close. -/
theorem witness_WindowClose_records :
    (∀ x ∈ [(closing 400000 none, 0), (closing 0 (some ⟨7, 90, bus41.context⟩), 1)],
      x.1.lnk.access.drives .query = false ∧ x.1.log.mask.getLsbD x.2 = true ∧
        (after .queryWindowClose x.1).log.lost = x.1.log.lost) := by decide +kernel

/-- The same at a day rollover, and an entry that is a day later after it. -/
theorem witness_rollovers :
    (let s : State := { closing 0 (some ⟨7, 90, bus41.context⟩) with clk := ⟨43199, 19, true, none, false⟩ }
     s.AtEpochEnd ∧ s.clk.epoch = 43199 ∧ ∃ q ∈ s.prk.query, ∃ c ∈ q.best, (chainDayLater c.ctx.chain).legs.map Leg.dep = [-32700]) ∧
      (parkedDayLater (parked 52 2 (some ⟨2, [⟨7, 90⟩]⟩))).dayAge = 1 := by decide

theorem witness_HoldsAndWaitsRunOut :
    (∀ e ∈ [parked 52 1 none, parked 52 2 (some ⟨1, [⟨7, 90⟩]⟩), parked 52 2 (some ⟨2, []⟩)],
      (withParked atEnd [e]).AtEpochEnd ∧ (withParked atEnd [e]).clk.epoch ≠ 43199 ∧
        (withParked atEnd [e]).prk.entries.filter (fun x => x.busId == 52) = [e] ∧ (withParked atEnd [e]).prk.query = none ∧
        (withParked atEnd [e]).log = Log.reset) ∧ (parked 52 1 none).hold = 1 ∧ State.reset.LogOk ∧
      (let s := withParked atEnd [parked 52 1 (some ⟨2, []⟩)]
       (parked 52 1 (some ⟨2, []⟩)).offered ≠ none ∧ s.lnk.access.drives (.offer 52) = false ∧ s.log.mask.getLsbD 6 = true ∧
         (after (.contextExpired 52) s).log.lost = s.log.lost) := by decide +kernel

/-- The state with these banks. -/
def withBanks (a b : Bank) : State := { idle with log := { Log.reset with a := a, b := b, seq := 1 } }

/-- Records numbered from 65536 − n on, so that the next is number 0. -/
def lastRecords (n : Nat) : List LogRecord := (List.range n).map fun i => { record0 with seq := 65536 - n + i }

theorem witness_Marks_filling : (withBanks ⟨.filling, [record0]⟩ ⟨.empty, []⟩).LogOk := by and_intros <;> decide
theorem witness_Marks_filling_b : (withBanks ⟨.full, [record0]⟩ ⟨.filling, [record0]⟩).LogOk := by and_intros <;> decide
theorem witness_Marks_overflow : (withBanks ⟨.full, [record0]⟩ ⟨.full, [record0]⟩).LogOk := by and_intros <;> decide

/-- Bank A with 11 records and the number 65535 taken: the next record is number 0 and fills it. -/
theorem witness_Marks_full : ({ idle with log := { Log.reset with a := ⟨.filling, lastRecords 11⟩ } } : State).LogOk := by
  and_intros <;> decide

/-- Bank B with 11 records beside an EMPTY bank A: its next record makes it FULL and A FILLING. -/
theorem witness_Marks_full_b :
    ({ idle with log := { Log.reset with a := ⟨.empty, []⟩, b := ⟨.filling, lastRecords 11⟩ } } : State).LogOk := by
  and_intros <;> decide

/-- Causes whose mask bit is set, or clear, and the two that no mask holds back. -/
theorem witness_Marks_masks :
    ((Cause.clockDisagree, 21) ∈ causeCodes ∧ idle.log.mask.getLsbD 20 = true) ∧
      ((Cause.plugCold, 1) ∈ causeCodes ∧ { idle.log with mask := 0x1FFFFE#24 }.mask.getLsbD 0 = false) ∧
      (Cause.mark, 22) ∈ causeCodes ∧ (Cause.bayReset, 23) ∈ causeCodes ∧ (Cause.linkCrc, 24) ∈ causeCodes := by decide

theorem witness_MarksAreStoredAndRead :
    (lastRecords 11).length = 11 ∧ (withBanks ⟨.full, [record0]⟩ ⟨.full, [record0]⟩).log.a.state ≠ .filling ∧
      (withBanks ⟨.full, [record0]⟩ ⟨.full, [record0]⟩).log.a.records[0]? = some record0 ∧ 1 ≤ 1 ∧ 1 < 2 := by decide

theorem witness_BanksAreClosedAndReleased :
    (let s := withBanks ⟨.filling, [record0]⟩ ⟨.empty, []⟩
     s.log.a.state = .filling ∧ s.log.a.records ≠ [] ∧ s.log.b.state = .empty) ∧
      (let s := withBanks ⟨.empty, []⟩ ⟨.filling, [record0]⟩
       s.log.b.state = .filling ∧ s.log.b.records ≠ [] ∧ s.log.a.state = .empty) ∧
      (let s := State.reset
       ¬(s.log.a.state = .filling ∧ s.log.a.records ≠ [] ∧ s.log.b.state = .empty) ∧
         ¬(s.log.b.state = .filling ∧ s.log.b.records ≠ [] ∧ s.log.a.state = .empty) ∧ s.log.a.state ≠ .full) ∧
      (withBanks ⟨.filling, lastRecords 11⟩ ⟨.empty, []⟩).log.a.records.length = 11 ∧
      (withBanks ⟨.full, [record0]⟩ ⟨.full, [record0]⟩).log.a.state = .full := by decide

end Sys2Proof.Tests
end

section
/-!
The size of the peer table (R37): its entries stand for different bays among the 63 of 1..64 that are not the own bay.
-/
namespace Sys2Proof.Proofs.PeerTable

open Sys2Proof Sys2Proof.Machine

/-- The bays that may have an entry: 1..64 but the own bay (R37). -/
def otherBays (own : Nat) : Finset Nat := (Finset.Icc 1 64).erase own

/-- The bays that have an entry in the peer table. -/
def peerBays (s : State) : Finset Nat := (s.ptb.entries.map PeerEntry.bay).toFinset

@[simp] theorem mem_otherBays {own b : Nat} : b ∈ otherBays own ↔ b ≠ own ∧ 1 ≤ b ∧ b ≤ 64 := by
  simp [otherBays]

@[simp] theorem mem_peerBays {s : State} {b : Nat} : b ∈ peerBays s ↔ ∃ p ∈ s.ptb.entries, p.bay = b := by
  simp [peerBays]

theorem card_otherBays {own : Nat} (h1 : 1 ≤ own) (h64 : own ≤ 64) : (otherBays own).card = 63 := by
  have hmem : own ∈ Finset.Icc 1 64 := Finset.mem_Icc.mpr ⟨h1, h64⟩
  simp [otherBays, Finset.card_erase_of_mem hmem]

/-- Ascending bays are different bays, so the table has as many entries as bays. -/
theorem card_peerBays {s : State} (h : s.PeersOk) : (peerBays s).card = s.ptb.entries.length := by
  obtain ⟨-, -, -, hascending, -⟩ := h
  calc (peerBays s).card = (s.ptb.entries.map PeerEntry.bay).length := List.toFinset_card_of_nodup hascending.nodup
    _ = s.ptb.entries.length := List.length_map _

theorem peerBays_subset_otherBays {s : State} (h : s.PeersOk) : peerBays s ⊆ otherBays s.ownBay := by
  obtain ⟨-, -, -, -, hentries, -⟩ := h
  intro b hb
  obtain ⟨p, hp, rfl⟩ := mem_peerBays.mp hb
  obtain ⟨⟨hrange, -⟩, hown⟩ := hentries p hp
  exact mem_otherBays.mpr ⟨hown, hrange⟩

/-- Settles O33: the bays of the table are a subset of 63 bays, a proper one while some other bay has no entry. -/
theorem peerTableNeverNeedsRoom : Obligations.PeerTableNeverNeedsRoom := by
  intro s hok h1 h64
  have hsub := peerBays_subset_otherBays hok
  have hall := card_otherBays h1 h64
  rw [← card_peerBays hok, ← hall]
  refine ⟨Finset.card_le_card hsub, fun b hb1 hb64 hown habsent => ?_, fun hfull b hb1 hb64 hown => ?_⟩
  · have hnew : b ∉ peerBays s := by simpa using habsent
    exact Finset.card_lt_card (Finset.ssubset_iff_of_subset hsub |>.mpr ⟨b, mem_otherBays.mpr ⟨hown, hb1, hb64⟩, hnew⟩)
  · have heq : peerBays s = otherBays s.ownBay := Finset.eq_of_subset_of_card_le hsub hfull.ge
    exact mem_peerBays.mp (heq ▸ mem_otherBays.mpr ⟨hown, hb1, hb64⟩)

end Sys2Proof.Proofs.PeerTable
end

section
/-!
The commands of the capture log that change it (R168, R169, R173), and the order of a capture and such a command.
-/
namespace Sys2Proof.Proofs.LogCommands

open Sys2Proof Sys2Proof.Machine

/-! ## The stages of a command (R179) -/

theorem command_taken (s : State) (kind : Nat) (effect : State → State) (payload : State → List Byte) :
    s.command kind true none effect payload = (effect s.counted).answerWith kind .ok (payload (effect s.counted)) := rfl

theorem command_state (s : State) (kind : Nat) (fail : Option Nat) (effect : State → State) (payload : State → List Byte) :
    s.command kind false fail effect payload = s.counted.answerWith kind .state s.statePayload := rfl

/-- CLOSE_BANK and RELEASE_BANK answer with the banks as they leave them (R193). -/
def banksAnswer (kind : Nat) (t : State) : State := t.answerWith kind .ok t.banksPayload

@[simp] theorem banksAnswer_log (kind : Nat) (t : State) : (banksAnswer kind t).log = t.log := rfl

@[simp] theorem counted_log (s : State) : s.counted.log = s.log := rfl

/-! ## The commands, as their stages -/

theorem exec_mark (s : State) (tag : BitVec 32) : exec (.mark tag) s =
    .next ((s.counted.capture .mark tag none).bumpChoices.answerWith 8 .ok s.markPayload) := rfl

theorem exec_closeBank (s : State) : exec .closeBank s =
    .next (s.command 9 (canClose s.log.a s.log.b || canClose s.log.b s.log.a) none State.closeFilling State.banksPayload) := rfl

theorem exec_releaseBank (s : State) (n : Nat) : exec (.releaseBank n) s =
    .next (s.command 10 (!bankOk n || (s.log.bank n).state == .full) (firstFail [(1, bankOk n)])
      (fun t => t.releaseFull n) State.banksPayload) := rfl

theorem exec_clearCounters (s : State) :
    exec .clearCounters s = .next (s.counted.zeroCounters.answerWith 19 .ok []) := rfl

/-! ## One bank (R166, R168, R169) -/

theorem canClose_iff {b o : Bank} : canClose b o = true ↔ b.state = .filling ∧ b.records ≠ [] ∧ o.state = .empty := by
  simp [canClose, and_assoc]

theorem canClose_eq_false_iff {b o : Bank} :
    canClose b o = false ↔ ¬(b.state = .filling ∧ b.records ≠ [] ∧ o.state = .empty) := by
  rw [← canClose_iff, Bool.not_eq_true]

theorem start_of_empty {b : Bank} (h : b.state = .empty) : b.start = { b with state := .filling } := by
  simp [Bank.start, h]

@[simp] theorem push_records (b : Bank) (r : LogRecord) : (b.push r).records = b.records ++ [r] := rfl

theorem push_state_of_length_eq_11 {b : Bank} (r : LogRecord) (h : b.records.length = 11) : (b.push r).state = .full := by
  simp [Bank.push, h, Config.bankRecords]

theorem releasedBank_eq (o : Bank) :
    releasedBank o = { state := if o.state = .filling then .empty else .filling, records := [] } := by
  simp [releasedBank]

theorem releasedBank_code (o : Bank) : (releasedBank o).state.code = if o.state = .filling then 0 else 1 := by
  rw [releasedBank_eq]
  split <;> rfl

/-! ## A capture that is stored or lost (R161, R165 to R167) -/

theorem store_of_a_filling {s : State} (r : LogRecord) (ha : s.log.a.state = .filling) :
    (s.store r).log.a = s.log.a.push r ∧ (s.store r).log.lost = s.log.lost ∧
      ((s.log.a.push r).state = .full → (s.store r).log.b = s.log.b.start) := by
  by_cases hf : (s.log.a.push r).state = .full <;> simp [State.store, ha, hf]

theorem store_of_b_filling {s : State} (r : LogRecord) (ha : s.log.a.state ≠ .filling) (hb : s.log.b.state = .filling) :
    (s.store r).log.b = s.log.b.push r := by
  by_cases hf : (s.log.b.push r).state = .full <;> simp [State.store, ha, hb, hf]

theorem store_of_none_filling {s : State} (r : LogRecord) (ha : s.log.a.state ≠ .filling) (hb : s.log.b.state ≠ .filling) :
    (s.store r).log = { s.log with lost := min 255 (s.log.lost + 1) } := by
  simp [State.store, ha, hb]

/-- MARK stores a record whatever the mask (R161). -/
theorem capture_mark (s : State) (detail : BitVec 32) (bus : Option Nat) : s.capture .mark detail bus =
    (s.setLog (s.log.count .mark)).store ((s.setLog (s.log.count .mark)).record .mark detail bus) := rfl

theorem mark_stores (s : State) (tag : BitVec 32) : Answers (.mark tag) s fun t =>
    ∃ r, t.log = ((s.counted.setLog (s.log.count .mark)).store r).log := by
  refine ⟨_, exec_mark s tag, (s.counted.setLog (s.log.count .mark)).record .mark tag none, ?_⟩
  rw [State.answerWith, State.setPrt_log, State.bumpChoices, State.setChoices_log, capture_mark]
  rfl

theorem mark_of_a_filling {s : State} (tag : BitVec 32) (ha : s.log.a.state = .filling) : Answers (.mark tag) s fun t =>
    ∃ r, t.log.a = s.log.a.push r ∧ t.log.lost = s.log.lost ∧
      ((s.log.a.push r).state = .full → t.log.b = s.log.b.start) := by
  obtain ⟨t, ht, r, hlog⟩ := mark_stores s tag
  exact ⟨t, ht, r, hlog ▸ store_of_a_filling r ha⟩

theorem mark_of_b_filling {s : State} (tag : BitVec 32) (ha : s.log.a.state ≠ .filling) (hb : s.log.b.state = .filling) :
    Answers (.mark tag) s fun t => ∃ r, t.log.b = s.log.b.push r := by
  obtain ⟨t, ht, r, hlog⟩ := mark_stores s tag
  exact ⟨t, ht, r, hlog ▸ store_of_b_filling r ha hb⟩

theorem mark_of_none_filling {s : State} (tag : BitVec 32) (ha : s.log.a.state ≠ .filling) (hb : s.log.b.state ≠ .filling) :
    Answers (.mark tag) s fun t => t.log = { s.log.count .mark with lost := min 255 (s.log.lost + 1) } := by
  obtain ⟨t, ht, r, hlog⟩ := mark_stores s tag
  exact ⟨t, ht, hlog.trans (store_of_none_filling r ha hb)⟩

/-! ## CLOSE_BANK (R169) -/

theorem closeFilling_of_a {s : State} (h : canClose s.log.a s.log.b = true) : s.closeFilling =
    (s.setLog { s.log with a := s.log.a.closed, b := s.log.b.start }).raise .bankAFull := by
  simp [State.closeFilling, h]

theorem closeFilling_of_b {s : State} (h : canClose s.log.a s.log.b = false) : s.closeFilling =
    (s.setLog { s.log with b := s.log.b.closed, a := s.log.a.start }).raise .bankBFull := by
  simp [State.closeFilling, h]

theorem closeBank_taken {s : State} (h : (canClose s.log.a s.log.b || canClose s.log.b s.log.a) = true) :
    exec .closeBank s = .next (banksAnswer 9 s.counted.closeFilling) := by
  rw [exec_closeBank, h, command_taken, banksAnswer]

theorem closeBank_of_a {s : State} (h : canClose s.log.a s.log.b = true) (hb : s.log.b.state = .empty) :
    exec .closeBank s = .next (banksAnswer 9 ((s.counted.setLog
      { s.log with a := s.log.a.closed, b := { s.log.b with state := .filling } }).raise .bankAFull)) := by
  rw [closeBank_taken (by simp [h]), closeFilling_of_a (s := s.counted) h, ← start_of_empty hb]
  rfl

theorem closeBank_of_b {s : State} (h : canClose s.log.b s.log.a = true) (ha : s.log.a.state = .empty) :
    exec .closeBank s = .next (banksAnswer 9 ((s.counted.setLog
      { s.log with b := s.log.b.closed, a := { s.log.a with state := .filling } }).raise .bankBFull)) := by
  have hother : canClose s.log.a s.log.b = false := by simp [canClose, ha]
  rw [closeBank_taken (by simp [h]), closeFilling_of_b (s := s.counted) hother, ← start_of_empty ha]
  rfl

theorem closeBank_refused {s : State} (ha : canClose s.log.a s.log.b = false) (hb : canClose s.log.b s.log.a = false) :
    Refused .closeBank s 9 .state s.statePayload := by
  rw [Refused, exec_closeBank, ha, hb, Bool.or_false, command_state]
  rfl

/-- The twelfth record fills bank A before the close, which then finds bank B without a record. -/
theorem closeBank_after_filling_mark {s : State} (tag : BitVec 32) (ha : s.log.a.state = .filling)
    (hlen : s.log.a.records.length = 11) (hb : s.log.b = { state := .empty, records := [] }) :
    Answers (.mark tag) s fun t => t.log.b.state = .filling ∧ Refused .closeBank t 9 .state t.statePayload := by
  obtain ⟨t, ht, r, hta, -, hstart⟩ := mark_of_a_filling tag ha
  have hfull := push_state_of_length_eq_11 r hlen
  have htb : t.log.b = { state := .filling, records := [] } := by rw [hstart hfull, hb]; rfl
  exact ⟨t, ht, by rw [htb], closeBank_refused (by simp [canClose, hta, hfull]) (by simp [canClose, htb])⟩

/-- The close hands over to bank B before the capture, which is stored there. -/
theorem mark_after_closeBank {s : State} (tag : BitVec 32) (ha : s.log.a.state = .filling)
    (hlen : s.log.a.records.length = 11) (hb : s.log.b = { state := .empty, records := [] }) :
    ∃ t u, exec .closeBank s = .next t ∧ exec (.mark tag) t = .next u ∧ u.log.b.records.length = 1 := by
  have hne : s.log.a.records ≠ [] := List.ne_nil_of_length_pos (by omega)
  have h : canClose s.log.a s.log.b = true := canClose_iff.mpr ⟨ha, hne, by rw [hb]⟩
  obtain ⟨t, ht, hlog⟩ : Answers .closeBank s fun t =>
      t.log = { s.log with a := { s.log.a with state := .full }, b := { state := .filling, records := [] } } :=
    ⟨_, closeBank_of_a h (by rw [hb]), by rw [hb]; rfl⟩
  obtain ⟨u, hu, r, hub⟩ := mark_of_b_filling (s := t) tag (by simp [hlog]) (by rw [hlog])
  exact ⟨t, u, ht, hu, by simp [hub, hlog]⟩

/-! ## RELEASE_BANK (R168) -/

@[simp] theorem releaseFull_zero_log (s : State) : (s.releaseFull 0).log = { s.log with a := releasedBank s.log.b } := rfl

theorem releaseBank_of_full {s : State} {n : Nat} (hn : n ≤ 1) (h : (s.log.bank n).state = .full) :
    exec (.releaseBank n) s = .next (banksAnswer 10 (s.counted.releaseFull n)) := by
  have hok : bankOk n = true := by simp [bankOk, hn]
  have hfull : ((s.log.bank n).state == .full) = true := by rw [h]; rfl
  rw [exec_releaseBank, hok, hfull]
  rfl

theorem releaseBank_refused_state {s : State} {n : Nat} (hn : n ≤ 1) (h : (s.log.bank n).state ≠ .full) :
    Refused (.releaseBank n) s 10 .state s.statePayload := by
  have hbad : (!bankOk n || (s.log.bank n).state == .full) = false := by simp [bankOk, hn, h]
  rw [Refused, exec_releaseBank, hbad, command_state]
  rfl

theorem releaseBank_refused_range (s : State) {n : Nat} (hn : 1 < n) : Refused (.releaseBank n) s 10 .range [1#8] := by
  have hbad : bankOk n = false := by simp [bankOk, hn]
  rw [Refused, exec_releaseBank, hbad]
  rfl

/-- Released in overflow, bank A fills at once, and the next record goes to its index 0. -/
theorem mark_after_releaseBank {s : State} (tag : BitVec 32) (ha : s.log.a.state = .full) (hb : s.log.b.state = .full) :
    ∃ t u, exec (.releaseBank 0) s = .next t ∧ exec (.mark tag) t = .next u ∧ u.log.a.records.length = 1 ∧
      u.log.lost = s.log.lost := by
  obtain ⟨t, ht, hlog⟩ : Answers (.releaseBank 0) s fun t =>
      t.log = { s.log with a := { state := .filling, records := [] } } :=
    ⟨_, releaseBank_of_full zero_le_one ha, by simp [releasedBank_eq, hb]⟩
  obtain ⟨u, hu, r, hua, hlost, -⟩ := mark_of_a_filling (s := t) tag (by rw [hlog])
  exact ⟨t, u, ht, hu, by simp [hua, hlog], by rw [hlost, hlog]⟩

/-- In overflow the capture is lost before the release, which then discards bank A's records. -/
theorem releaseBank_after_mark {s : State} (tag : BitVec 32) (ha : s.log.a.state = .full) (hb : s.log.b.state = .full) :
    ∃ t u, exec (.mark tag) s = .next t ∧ exec (.releaseBank 0) t = .next u ∧ u.log.a.records = [] ∧
      u.log.lost = min 255 (s.log.lost + 1) := by
  obtain ⟨t, ht, hlog⟩ := mark_of_none_filling (s := s) tag (by simp [ha]) (by simp [hb])
  have hfull : t.log.a.state = .full := by rw [hlog]; exact ha
  exact ⟨t, _, ht, releaseBank_of_full zero_le_one hfull, rfl, congrArg Log.lost hlog⟩

/-- Settles O59: each clause is one outcome of the STATE and RANGE stages, or one order of a capture and a command. -/
theorem banksAreClosedAndReleased : Obligations.BanksAreClosedAndReleased := by
  intro s
  refine ⟨fun ha hne hb => ?_, fun hb hne ha => ?_,
    fun hna hnb => closeBank_refused (canClose_eq_false_iff.mpr hna) (canClose_eq_false_iff.mpr hnb),
    fun tag ha hlen hb => ⟨closeBank_after_filling_mark tag ha hlen hb, mark_after_closeBank tag ha hlen hb⟩,
    fun ha => ?_, fun hb => ?_,
    releaseBank_refused_state zero_le_one, releaseBank_refused_state le_rfl,
    fun n => releaseBank_refused_range s,
    fun tag ha hb => ⟨mark_after_releaseBank tag ha hb, releaseBank_after_mark tag ha hb⟩⟩
  · rw [closeBank_of_a (canClose_iff.mpr ⟨ha, hne, hb⟩) hb]
    rfl
  · rw [closeBank_of_b (canClose_iff.mpr ⟨hb, hne, ha⟩) ha]
    rfl
  · rw [releaseBank_of_full zero_le_one ha, ← releasedBank_code, ← releasedBank_eq]
    rfl
  · rw [releaseBank_of_full le_rfl hb, ← releasedBank_code, ← releasedBank_eq]
    rfl

/-! ## CLEAR_COUNTERS (R173) -/

theorem counter_of_zeroed {s : State} (h : s.log.counters = List.replicate 24 0) (c : Cause) : s.counter c = 0 := by
  rw [State.counter, h, List.getD_eq_getElem?_getD, List.getElem?_getD_replicate_default_eq]

theorem capture_counter_of_zeroed {s : State} (h : s.log.counters = List.replicate 24 0) (c : Cause) (detail : BitVec 32)
    (bus : Option Nat) : (s.capture c detail bus).counter c = 1 := by
  have hlen : s.log.counters.length = 24 := by rw [h, List.length_replicate]
  rw [State.capture_counter _ _ _ _ _ hlen, if_pos rfl, counter_of_zeroed h]
  rfl

/-- Settles O60: what CLEAR_COUNTERS leaves has every counter at 0, whatever was captured before; a capture then counts 1. -/
theorem clearCountersZeroesTheCounters : Obligations.ClearCountersZeroesTheCounters := by
  intro s
  refine ⟨exec_clearCounters s, fun c detail bus => ⟨?_, ?_⟩⟩
  · exact ⟨_, exec_clearCounters s, capture_counter_of_zeroed rfl c detail bus⟩
  · exact ⟨_, exec_clearCounters _, counter_of_zeroed rfl c⟩

end Sys2Proof.Proofs.LogCommands
end

section
/-!
The notice mask (R185): what SET_NOTICE_MASK stores and answers, and what the two resets do with the mask.
-/
namespace Sys2Proof.Proofs.NoticeMask

open Sys2Proof Sys2Proof.Machine

/-- The flags of a set are its 20 low bits: the other positions name no flag and read as clear. -/
theorem flagSet_testBit (set : BitVec 24) (i : Nat) :
    (flagSet set).toNat.testBit i = (decide (i < 20) && set.getLsbD i) := by
  rw [flagSet, BitVec.testBit_toNat, BitVec.getLsbD_setWidth]

/-- The command is taken in every station state, and answered with the mask it has just stored. -/
theorem exec_setNoticeMask (set : BitVec 24) (s : State) : exec (.setNoticeMask set) s =
    .next ((s.counted.setMask set).answerWith 18 .ok (u24 (flagSet set).toNat)) := rfl

theorem exec_powerOnReset (s : State) : exec .powerOnReset s = .next s.powerOn := rfl

theorem exec_bayReset (s : State) : exec .bayReset s = .next s.resetBay := rfl

/-- Power-on starts the port from its reset value and keeps nothing of the state before. -/
theorem powerOn_prt (s : State) : s.powerOn.prt = State.reset.prt := rfl

/-- Taking the command writes the port alone: its answer count, its mask and its response, and no flag. -/
theorem setNoticeMask_effect (set : BitVec 24) (s : State) : Answers (.setNoticeMask set) s fun t =>
    t = { s with prt := t.prt } ∧ t.prt.flags = s.prt.flags ∧ t.prt.mask = flagSet set ∧
      Responds s t 18 .ok (u24 t.prt.mask.toNat) :=
  ⟨_, exec_setNoticeMask set s, rfl, rfl, rfl, rfl, rfl⟩

theorem powerOnReset_mask (s : State) : Answers .powerOnReset s fun t => t.prt.mask = 0#20 :=
  ⟨_, exec_powerOnReset s, congrArg Prt.mask (powerOn_prt s)⟩

theorem bayReset_mask (s : State) : Answers .bayReset s fun t => t.prt.mask = s.prt.mask :=
  ⟨_, exec_bayReset s, by simp only [State.resetBay_keeps]⟩

/-- Settles O21: the stored mask is the set's flags, read bit by bit; the resets are their own lemmas. -/
theorem setNoticeMaskReplacesTheMask : Obligations.SetNoticeMaskReplacesTheMask := by
  refine ⟨fun set s => ?_, powerOnReset_mask, bayReset_mask⟩
  obtain ⟨t, hexec, hframe, hflags, hmask, hresponse⟩ := setNoticeMask_effect set s
  refine ⟨t, hexec, hframe, hflags, fun i => ?_, hresponse⟩
  rw [hmask, flagSet_testBit]

end Sys2Proof.Proofs.NoticeMask
end

section
/-!
From a command to a step: what every command keeps, a step keeps.
-/
namespace Sys2Proof.Proofs.Step

open Sys2Proof Sys2Proof.Machine

/-- A step is nothing, or the front command on the state with the queue's rest. -/
theorem step_cases {s t : State} (h : step s = .next t) :
    t = s ∨ ∃ i rest, s.pending = i :: rest ∧ exec i (s.setPending rest) = .next t := by
  unfold step at h
  split at h
  · injection h with h
    exact .inl h.symm
  · exact .inr ⟨_, _, ‹_›, h⟩

/-- A property that does not read the queue and that every command keeps is kept by every step. -/
theorem step_preserves {P : State → Prop} (pending : ∀ s x, P s → P (s.setPending x))
    (command : ∀ i s t, P s → exec i s = .next t → P t) {s t : State} (h : P s) (ht : step s = .next t) : P t := by
  obtain rfl | ⟨i, rest, -, hi⟩ := step_cases ht
  · exact h
  · exact command i _ t (pending s rest h) hi

end Sys2Proof.Proofs.Step
end

section
/-!
What the operations do to the log and the flags: they reach them through captures and notices alone, and each through captures
of its own causes (section 9.2).
-/
namespace Sys2Proof.Proofs.Acts

open Sys2Proof Sys2Proof.Machine

/-- Causes of which a capture is none of those left out. -/
abbrev Spares (out causes : List Cause) : Prop := ∀ c ∈ causes, c ∉ out

theorem Spares.sub {out es fs : List Cause} (h : Spares out es) (hsub : fs ⊆ es) : Spares out fs := fun c hc => h c (hsub hc)

theorem Spares.nil (es : List Cause) : Spares [] es := fun _ _ => List.not_mem_nil

/-- A property of the log and the flags that every notice keeps, and every capture but of the causes left out. -/
structure KeptByActs (out : List Cause) (P : State → Prop) : Prop where
  congr : ∀ {s t : State}, P s → t.log = s.log → t.prt.flags = s.prt.flags → P t
  capture : ∀ {s : State} (c : Cause) (d : BitVec 32) (b : Option Nat), c ∉ out → P s → P (s.capture c d b)
  raise : ∀ {s : State} (n : Notice), P s → P (s.raise n)

/-- A property of the log alone that every capture keeps. -/
theorem keptByActs_of_log {P : State → Prop} (congr : ∀ s t : State, P s → t.log = s.log → P t)
    (capture : ∀ (s : State) (c : Cause) (d : BitVec 32) (b : Option Nat), P s → P (s.capture c d b)) : KeptByActs [] P where
  congr h hlog _ := congr _ _ h hlog
  capture c d b _ h := capture _ c d b h
  raise _ h := congr _ _ h rfl

/-- A flag once set stays through every capture and notice. -/
theorem keptByActs_flagged (n : Notice) : KeptByActs [] fun s => s.flagged n = true where
  congr h _ hflags := by rw [State.flagged_congr hflags, h]
  capture c d b _ h := by
    have hstore : ∀ (s : State) (r : LogRecord), s.flagged n = true → (s.store r).flagged n = true := by
      intro s r h
      have hset (g : Log) : (s.setLog g).flagged n = s.flagged n := rfl
      unfold State.store
      dsimp only
      (repeat' split) <;> simp [hset, h]
    unfold State.capture
    dsimp only
    split
    · exact hstore _ _ h
    · exact h
  raise m h := by simp [h]

/-- What a cause's counter shows stands through every capture of other causes. -/
theorem keptByActs_counter (c : Cause) (k : Nat) :
    KeptByActs [c] fun s => s.log.counters.length = 24 ∧ s.counter c = k where
  congr h hlog _ := by
    exact ⟨by rw [hlog]; exact h.1, (State.counter_congr (by rw [hlog]) c).trans h.2⟩
  capture e d b he h := by
    have hother : c ≠ e := fun hc => he (by simp [hc])
    rw [State.capture_counters_length, State.capture_counter _ _ _ _ _ h.1, if_neg hother]
    exact h
  raise n h := h

/-- A cause's counter falls at no capture (R172). -/
theorem keptByActs_counter_ge (c : Cause) {k : Nat} (hk : k ≤ 63) :
    KeptByActs [] fun s => s.log.counters.length = 24 ∧ k ≤ s.counter c where
  congr h hlog _ := ⟨by rw [hlog]; exact h.1, h.2.trans_eq (State.counter_congr (by rw [hlog]) c).symm⟩
  capture e d b _ h := by
    refine ⟨by rw [State.capture_counters_length, h.1], ?_⟩
    rw [State.capture_counter _ _ _ _ _ h.1]
    obtain ⟨-, hge⟩ := h
    split <;> omega
  raise _ h := h

namespace KeptByActs

variable {out : List Cause} {P : State → Prop} {s : State}

/-! ## The causes that each part may capture -/

/-- The causes of the event state. -/
def eventCauses : List Cause := [.eventTaken, .eventChanged, .eventEnded]

/-- The causes of a session's boundary. -/
def readyCauses : List Cause := [.legMissed, .atRisk]

/-- The causes of a session's end. -/
def endCauses : List Cause := [.withdrawn, .dupBus]

/-- The causes of a window's close. -/
def windowCauses : List Cause := [.plugRestored, .plugCold, .withdrawn, .dupBus]

/-- The causes of an epoch boundary. -/
def boundaryCauses : List Cause := [.isolated, .dupBus, .eventTaken, .eventChanged, .eventEnded, .withdrawn, .legMissed, .atRisk,
  .plugRestored, .plugCold, .contextExpired]

/-- The causes of a tick's work. -/
def tickCauses : List Cause := [.meterLost, .senseFault, .eventTaken, .eventChanged, .eventEnded]

/-! ## Single acts -/

theorem captureNat (hP : KeptByActs out P) (c : Cause) (d : Nat) (hc : c ∉ out) (h : P s) : P (s.captureNat c d) :=
  hP.capture _ _ _ hc h

/-- A condition that begins: its cause captured, then its notice raised. -/
theorem begins (hP : KeptByActs out P) (c : Cause) (d : Nat) (n : Notice) (hc : c ∉ out) (h : P s) :
    P ((s.captureNat c d).raise n) := hP.raise _ (hP.captureNat _ _ hc h)

/-! ## The link (R26, R30 to R32) -/

theorem enterIsolated (hP : KeptByActs out P) (hc : Spares out [.isolated]) (h : P s) : P s.enterIsolated :=
  hP.begins _ _ _ (hc _ (by simp)) (hP.congr h (by simp) (by simp))

theorem missEpoch (hP : KeptByActs out P) (hc : Spares out [.isolated]) (h : P s) : P s.missEpoch := by
  unfold State.missEpoch
  dsimp only
  split
  · exact hP.enterIsolated hc (hP.congr h rfl rfl)
  · exact hP.congr h rfl rfl

theorem listeningBoundary (hP : KeptByActs out P) (hc : Spares out [.isolated]) (h : P s) : P s.listeningBoundary := by
  unfold State.listeningBoundary
  split
  · dsimp only
    split
    · exact hP.enterIsolated hc (hP.congr h rfl rfl)
    · exact hP.congr h rfl rfl
  · exact hP.congr h rfl rfl

theorem claimBoundary (hP : KeptByActs out P) (hc : Spares out [.isolated]) (h : P s) : P s.claimBoundary := by
  obtain ⟨e, -⟩ | ⟨e, -⟩ | ⟨e, -⟩ := s.claimBoundary_cases <;> rw [e]
  · exact h
  · exact hP.missEpoch hc h
  · exact hP.missEpoch hc (hP.congr h (by simp) (by simp))

theorem lnkBoundary (hP : KeptByActs out P) (hc : Spares out [.isolated]) (h : P s) : P s.lnkBoundary :=
  State.lnkBoundary_preserves (fun _ h => hP.congr h rfl rfl) (fun _ h => hP.congr h (by simp) (by simp))
    (fun _ _ h => hP.listeningBoundary hc h) (fun _ _ h => hP.claimBoundary hc h) (fun _ h => hP.congr h (by simp) (by simp)) s h

theorem hearOwnBay (hP : KeptByActs out P) (hc : Spares out [.dupBay, .isolated]) (h : P s) : P s.hearOwnBay := by
  have hbegun : P (((s.setLnk { s.lnk with dupBay := true }).captureNat .dupBay 0).raise .dupBay) :=
    hP.begins _ _ _ (hc _ (by simp)) (hP.congr h rfl rfl)
  unfold State.hearOwnBay
  split
  · exact h
  · dsimp only
    split
    · exact hP.enterIsolated (hc.sub (by simp)) hbegun
    · exact hbegun

theorem collided (hP : KeptByActs out P) (hc : Spares out [.isolated]) (h : P s) : P s.collided := by
  unfold State.collided
  split
  · dsimp only
    split
    · exact hP.missEpoch hc (hP.congr h (by simp) (by simp))
    · exact hP.congr h (by simp) (by simp)
  · exact h

/-! ## The peer table (R41 to R43) -/

theorem evalLimits (hP : KeptByActs out P) (h : P s) : P s.evalLimits := by
  unfold State.evalLimits
  dsimp only
  split
  · exact hP.raise _ (hP.congr h rfl rfl)
  · exact hP.congr h rfl rfl

theorem evalDupBus (hP : KeptByActs out P) (hc : Spares out [.dupBus]) (h : P s) : P s.evalDupBus := by
  unfold State.evalDupBus
  split
  · exact hP.congr h rfl rfl
  · dsimp only
    split
    · exact hP.congr h rfl rfl
    · exact hP.begins _ _ _ (hc _ (by simp)) (hP.congr h rfl rfl)

theorem reevaluate (hP : KeptByActs out P) (hc : Spares out [.dupBus]) (h : P s) : P s.reevaluate :=
  hP.evalDupBus hc (hP.evalLimits (hP.congr h (by simp) (by simp)))

/-! ## The stage line and the sensing (R97, R98, R113, R114) -/

theorem altTick (hP : KeptByActs out P) (h : P s) : P s.altTick := hP.congr h (by simp) (by simp)

theorem closeExchange (hP : KeptByActs out P) (hc : Spares out [.meterLost]) (h : P s) : P s.closeExchange := by
  unfold State.closeExchange
  split
  · exact h
  · exact h
  all_goals
    dsimp only
    split
    · exact hP.begins _ _ _ (hc _ (by simp)) (hP.congr h (by simp) (by simp))
    · exact hP.congr h rfl rfl

theorem judgeMeasure (hP : KeptByActs out P) (hc : Spares out [.stageFault]) (m : Measure) (h : P s) : P (s.judgeMeasure m) := by
  unfold State.judgeMeasure
  split
  · split
    · unfold State.takeMeasure State.takeStageFlags
      dsimp only
      split
      · exact hP.begins _ _ _ (hc _ (by simp)) (hP.congr h (by simp) (by simp))
      · exact hP.congr h (by simp) (by simp)
    · split
      · exact h
      · exact hP.congr h rfl rfl
  all_goals exact h

theorem beginSenseFault (hP : KeptByActs out P) (hc : Spares out [.senseFault]) (h : P s) : P s.beginSenseFault := by
  unfold State.beginSenseFault
  split
  · exact h
  · exact hP.begins _ _ _ (hc _ (by simp)) (hP.congr h rfl rfl)

theorem gridEdge (hP : KeptByActs out P) (hc : Spares out [.senseFault]) (n : Nat) (h : P s) : P (s.gridEdge n) := by
  unfold State.gridEdge
  dsimp only
  split
  · exact hP.congr h rfl rfl
  · split
    · exact hP.congr h rfl rfl
    · exact hP.beginSenseFault hc (hP.congr h rfl rfl)

theorem watchEdges (hP : KeptByActs out P) (hc : Spares out [.senseFault]) (h : P s) : P s.watchEdges := by
  unfold State.watchEdges
  dsimp only
  split
  · exact hP.beginSenseFault hc (hP.congr h rfl rfl)
  · exact hP.congr h rfl rfl

/-! ## Events (R123 to R137) -/

theorem computeShares (hP : KeptByActs out P) (taking : Bool) (h : P s) : P (s.computeShares taking) := by
  unfold State.computeShares
  dsimp only
  split
  · exact hP.congr (hP.raise .shortfall h) rfl rfl
  · exact hP.congr h rfl rfl

theorem changeDemand (hP : KeptByActs out P) (hc : Spares out [.eventChanged]) (origin d : Nat) (h : P s) :
    P (s.changeDemand origin d) :=
  hP.captureNat _ _ (hc _ (by simp)) (hP.computeShares (s := s.setRsv { s.rsv with dActive := d }) false (hP.congr h rfl rfl))

theorem endEvent (hP : KeptByActs out P) (hc : Spares out [.eventEnded]) (h : P s) : P s.endEvent :=
  hP.congr (hP.raise .eventEnded (hP.capture .eventEnded s.responseDetail none (hc _ (by simp)) h)) rfl rfl

theorem takeEvent (hP : KeptByActs out P) (hc : Spares out [.eventTaken]) (o q d r : Nat) (h : P s) : P (s.takeEvent o q d r) := by
  unfold State.takeEvent
  dsimp only
  generalize hx : s.setRsv _ = x
  have hset : P x := hP.congr h (by rw [← hx]; rfl) (by rw [← hx]; rfl)
  have hshares : P (x.computeShares true).altDiscard := hP.congr (hP.computeShares true hset) (by simp) (by simp)
  exact hP.begins _ _ _ (hc _ (by simp)) hshares

theorem judgeEvent (hP : KeptByActs out P) (hc : Spares out eventCauses) (origin seq d remaining : Nat) (h : P s) :
    P (s.judgeEvent origin seq d remaining) := by
  have hchange := hc.sub (fs := [.eventChanged]) (by simp [eventCauses])
  unfold State.judgeEvent
  split
  · split
    · split
      · split
        · exact hP.endEvent (hc.sub (by simp [eventCauses])) h
        · unfold State.holderUpdate
          dsimp only
          split
          · exact hP.congr h rfl rfl
          · exact hP.changeDemand hchange _ _ (hP.congr h rfl rfl)
      · exact h
    · split
      · exact hP.changeDemand hchange _ _ (hP.congr h rfl rfl)
      · exact h
  · split
    · exact hP.takeEvent (hc.sub (by simp [eventCauses])) _ _ _ _ h
    · exact h

theorem sendEvent (hP : KeptByActs out P) (hc : Spares out eventCauses) (d remaining : Nat) (h : P s) : P (s.sendEvent d remaining) :=
  hP.judgeEvent hc _ _ _ _ (hP.congr h (by simp) (by simp))

theorem dispatchDemand (hP : KeptByActs out P) (hc : Spares out eventCauses) (d m : Nat) (h : P s) : P (s.dispatchDemand d m) := by
  unfold State.dispatchDemand
  dsimp only
  split
  · exact hP.sendEvent hc _ _ (hP.congr h (by simp) (by simp))
  · exact hP.congr h (by simp) (by simp)

theorem rsvCountdown (hP : KeptByActs out P) (hc : Spares out eventCauses) (h : P s) : P s.rsvCountdown := by
  unfold State.rsvCountdown State.refreshBoundary
  split
  · exact h
  · dsimp only
    split
    · exact hP.endEvent (hc.sub (by simp [eventCauses])) (hP.congr h rfl rfl)
    · split
      · split
        · exact hP.sendEvent hc _ _ (hP.congr h rfl rfl)
        · exact hP.congr h rfl rfl
      · exact hP.congr h rfl rfl

theorem withdraw (hP : KeptByActs out P) (hc : Spares out [.withdrawn]) (h : P s) : P s.withdraw :=
  hP.begins _ _ _ (hc _ (by simp)) (hP.congr h rfl rfl)

/-! ## The session (R60, R64, R72) -/

theorem missLegs (hP : KeptByActs out P) (hc : Spares out [.legMissed]) (window fuel : Nat) (h : P s) : P (s.missLegs window fuel) := by
  induction fuel generalizing s with
  | zero => exact h
  | succ fuel ih =>
    unfold State.missLegs
    split
    · exact h
    · split
      · exact ih (hP.begins _ _ _ (hc _ (by simp)) (hP.congr h rfl rfl))
      · exact h

theorem readySession (hP : KeptByActs out P) (hc : Spares out [.atRisk]) (c : ConfigRecord) (h : P s) : P (s.readySession c) := by
  unfold State.readySession
  split
  · exact h
  · dsimp only
    have atRisk : ∀ (w : Option Session) (b : Bool),
        P (if b then ((s.setSes w).captureNat .atRisk 0).raise .atRisk else s.setSes w) := by
      intro w b
      split
      · exact hP.begins _ _ _ (hc _ (by simp)) (hP.congr h rfl rfl)
      · exact hP.congr h rfl rfl
    split
    · exact hP.raise _ (atRisk _ _)
    · exact atRisk _ _

theorem sessionBoundary (hP : KeptByActs out P) (hc : Spares out readyCauses) (h : P s) : P s.sessionBoundary := by
  unfold State.sessionBoundary
  split
  · exact h
  · exact hP.readySession (hc.sub (by simp [readyCauses])) _ (hP.missLegs (hc.sub (by simp [readyCauses])) _ _ h)

theorem claimAndLatch (hP : KeptByActs out P) (h : P s) : P s.claimAndLatch := hP.congr h (by simp) (by simp)

theorem sesBoundary (hP : KeptByActs out P) (hc : Spares out readyCauses) (h : P s) : P s.sesBoundary :=
  hP.claimAndLatch (hP.sessionBoundary hc h)

theorem dropSession (hP : KeptByActs out P) (hc : Spares out endCauses) (h : P s) : P s.dropSession := by
  unfold State.dropSession State.rsvSessionEnd
  apply hP.evalDupBus (hc.sub (by simp [endCauses]))
  split
  · exact hP.withdraw (hc.sub (by simp [endCauses])) (hP.congr h (by simp) (by simp))
  · exact hP.congr h (by simp) (by simp)

theorem withdrawalCheck (hP : KeptByActs out P) (hc : Spares out [.withdrawn]) (h : P s) : P s.withdrawalCheck := by
  unfold State.withdrawalCheck
  split
  · exact hP.withdraw hc h
  · exact h

/-- The reserve unit and the session at an epoch boundary, in either order. -/
theorem reserveAndSession (hP : KeptByActs out P) (hc : Spares out (.withdrawn :: readyCauses ++ eventCauses)) (h : P s) :
    P s.reserveAndSession := by
  have hready := hc.sub (fs := readyCauses) (by simp [readyCauses])
  have hevent := hc.sub (fs := eventCauses) (by simp [eventCauses])
  unfold State.reserveAndSession State.reserveAndClaim
  refine hP.withdrawalCheck (hc.sub (by simp)) ?_
  split
  · exact hP.rsvCountdown hevent (hP.sesBoundary hready h)
  · exact hP.sesBoundary hready (hP.rsvCountdown hevent h)

/-! ## The park table (R142, R143, R149) -/

theorem evictOldest (hP : KeptByActs out P) (hc : Spares out [.contextEvicted]) (h : P s) : P s.evictOldest := by
  unfold State.evictOldest
  split
  · exact h
  · split
    · exact hP.capture _ _ _ (hc _ (by simp)) (hP.congr h (by simp) (by simp))
    · exact h

theorem park (hP : KeptByActs out P) (hc : Spares out [.contextEvicted]) (bus hold : Nat) (x : Context) (h : P s) :
    P (s.park bus hold x) :=
  hP.congr (hP.evictOldest (s := s.removePark bus) hc (hP.congr h (by simp) (by simp))) rfl rfl

theorem windowBoundary (hP : KeptByActs out P) (hc : Spares out windowCauses) (h : P s) : P s.windowBoundary := by
  unfold State.windowBoundary
  split
  · exact h
  · split
    · split
      · unfold State.closeRestored
        exact hP.captureNat _ _ (hc _ (by simp [windowCauses]))
          (hP.congr (hP.raise .handoverDone (s := s) h) (by simp) (by simp [State.raise]))
      · have hcold (w : WindowFigures) (r : Handover) :
            P (((((s.endWindow w).raise .handoverDone).recordHandover r).follow).captureNat .plugCold 0) := by
          have hended : P ((s.endWindow w).raise .handoverDone) := hP.raise _ (hP.congr h (by simp) (by simp))
          exact hP.captureNat _ _ (hc _ (by simp [windowCauses])) (hP.congr hended rfl rfl)
        unfold State.closeCold
        dsimp only
        split
        · exact hcold _ _
        · exact hP.dropSession (hc.sub (by simp [windowCauses, endCauses])) (hcold _ _)
    · exact hP.congr h rfl rfl

theorem foldl_expireContext (hP : KeptByActs out P) (hc : Spares out [.contextExpired]) (es : List ParkEntry) (h : P s) :
    P (es.foldl State.expireContext s) := by
  induction es generalizing s with
  | nil => exact h
  | cons e es ih => exact ih (hP.capture _ _ _ (hc _ (by simp)) (hP.congr h (by simp) (by simp)))

theorem waitsBoundary (hP : KeptByActs out P) (h : P s) : P s.waitsBoundary := hP.congr h (by simp) (by simp)

theorem holdsBoundary (hP : KeptByActs out P) (hc : Spares out [.contextExpired]) (h : P s) : P s.holdsBoundary :=
  hP.foldl_expireContext hc _ (hP.congr h rfl rfl)

theorem takeTaken (hP : KeptByActs out P) (hc : Spares out [.handoverOut]) (b bus x : Nat) (h : P s) : P (s.takeTaken b bus x) := by
  unfold State.takeTaken
  split
  · exact h
  · split
    · exact hP.capture _ _ _ (hc _ (by simp)) (hP.congr h (by simp) (by simp))
    · split
      · exact hP.congr h (by simp) (by simp)
      · exact h

/-! ## The occasions of many blocks (R1, R2, R8) -/

theorem boundary (hP : KeptByActs out P) (hc : Spares out boundaryCauses) (rollover restart : Bool) (h : P s) :
    P (s.boundary rollover restart) :=
  State.boundary_preserves (fun _ h => hP.congr h rfl rfl) (fun _ h => hP.congr h (by simp) (by simp))
    (fun _ h => hP.reevaluate (hc.sub (by simp [boundaryCauses])) (hP.congr h rfl rfl))
    (fun _ => hP.lnkBoundary (hc.sub (by simp [boundaryCauses]))) (fun _ h => hP.congr h rfl rfl)
    (fun _ => hP.rsvCountdown (hc.sub (by simp [boundaryCauses, eventCauses])))
    (fun _ => hP.sessionBoundary (hc.sub (by simp [boundaryCauses, readyCauses]))) (fun _ => hP.claimAndLatch)
    (fun _ _ => hP.withdraw (hc.sub (by simp [boundaryCauses])))
    (fun _ => hP.windowBoundary (hc.sub (by simp [boundaryCauses, windowCauses]))) (fun _ => hP.waitsBoundary)
    (fun _ => hP.holdsBoundary (hc.sub (by simp [boundaryCauses])))
    (fun _ h => hP.congr h (by simp) (by simp)) (fun _ h => hP.congr h (by simp) (by simp)) rollover restart s h

theorem tickWork (hP : KeptByActs out P) (hc : Spares out tickCauses) (h : P s) : P s.tickWork :=
  State.tickWork_preserves (P := P) (fun _ => hP.closeExchange (hc.sub (by simp [tickCauses])))
    (fun _ _ h => hP.congr h (by simp) (by simp)) (fun _ h => hP.congr h (by simp) (by simp))
    (fun _ h => hP.congr h rfl rfl) (fun _ _ => hP.sendEvent (hc.sub (by simp [tickCauses, eventCauses])) _ _)
    (fun _ => hP.watchEdges (hc.sub (by simp [tickCauses]))) (fun _ => hP.altTick)
    (fun _ h => hP.congr h (by simp) (by simp)) (fun _ h => hP.congr h (by simp) (by simp)) s h

theorem tickEvent (hP : KeptByActs out P) (htick : Spares out tickCauses) (hc : Spares out boundaryCauses) (h : P s) : P s.tickEvent := by
  unfold State.tickEvent
  split
  · exact hP.tickWork htick (hP.congr h rfl rfl)
  · split
    · exact hP.tickWork htick (hP.congr h rfl rfl)
    · exact hP.boundary hc _ _ (hP.tickWork htick (hP.congr h rfl rfl))

theorem epochBoundary (hP : KeptByActs out P) (hc : Spares out boundaryCauses) (h : P s) : P s.epochBoundary := by
  unfold State.epochBoundary
  split
  · exact hP.boundary hc _ _ (hP.congr h rfl rfl)
  · exact h

/-! ## The claims of other stations (R5, R6, R36) -/

theorem adopt (hP : KeptByActs out P) (hadopt : Spares out [.clockAdopt]) (hc : Spares out boundaryCauses) (e : Nat) (h : P s) :
    P (s.adopt e) :=
  hP.boundary hc _ _ (hP.captureNat _ _ (hadopt _ (by simp)) (hP.congr h rfl rfl))

theorem disagreeWith (hP : KeptByActs out P) (hc : Spares out [.clockDisagree]) (b : Nat) (h : P s) : P (s.disagreeWith b) := by
  unfold State.disagreeWith
  dsimp only
  split
  · exact hP.begins _ _ _ (hc _ (by simp)) (hP.congr h rfl rfl)
  · exact hP.congr h rfl rfl

theorem maxSync (hP : KeptByActs out P) (hsync : Spares out [.clockAdopt, .clockDisagree]) (hc : Spares out boundaryCauses) (b e : Nat)
    (h : P s) : P (s.maxSync b e) := by
  unfold State.maxSync
  dsimp only
  split
  · exact h
  · split
    · exact hP.adopt (hsync.sub (by simp)) hc e h
    · split
      · exact hP.disagreeWith (hsync.sub (by simp)) b h
      · exact h

theorem takeClaim (hP : KeptByActs out P) (hc : Spares out [.dupBus]) (own b e : Nat) (c : Claim) (h : P s) :
    P (s.takeClaim own b e c) := hP.reevaluate hc (hP.congr h rfl rfl)

theorem deliverClaim (hP : KeptByActs out P) (hsync : Spares out [.clockAdopt, .clockDisagree]) (hc : Spares out boundaryCauses)
    (b e : Nat) (c : Claim) (h : P s) : P (s.deliverClaim b e c) :=
  hP.takeClaim (hc.sub (by simp [boundaryCauses])) _ _ _ _ (hP.maxSync hsync hc b e h)

/-! ## A session's beginning and end (R51, R61, R72) -/

theorem plugIn (hP : KeptByActs out P) (hc : Spares out [.dupBus, .plugLocal]) (p : PlugFields) (h : P s) : P (s.plugIn p) := by
  have hbegun : P ((s.setSes (some (s.newSession p))).evalDupBus.rsvSessionBegin) :=
    hP.congr (hP.evalDupBus (s := s.setSes (some (s.newSession p))) (hc.sub (by simp)) (hP.congr h rfl rfl)) (by simp) (by simp)
  unfold State.plugIn
  dsimp only
  split
  · unfold State.restoreLocal
    exact hP.captureNat _ _ (hc _ (by simp)) (hP.congr hbegun (by simp) (by simp))
  · exact hP.congr hbegun (by simp) (by simp)

theorem unplugNow (hP : KeptByActs out P) (hc : Spares out [.unplug, .contextEvicted, .withdrawn, .dupBus]) (h : P s) : P s.unplugNow := by
  have hevicts := hc.sub (fs := [.contextEvicted]) (by simp)
  have unplugged : ∀ (u : State) (v : Session), P u → P ((u.captureUnplug v).dropSession) := fun u v h =>
    hP.dropSession (hc.sub (by simp [endCauses])) (hP.capture _ _ _ (hc _ (by simp)) (hP.capture _ _ _ (hc _ (by simp)) h))
  unfold State.unplugNow
  split
  · exact h
  · split
    · unfold State.unplugPending
      dsimp only
      apply unplugged
      split
      · exact hP.congr h (by simp) (by simp)
      · exact hP.park hevicts _ _ _ (hP.congr h (by simp) (by simp))
    · exact unplugged _ _ (hP.park hevicts _ _ _ (hP.congr h rfl rfl))

theorem parkAtReset (hP : KeptByActs out P) (hc : Spares out [.contextEvicted]) (hold : Nat) (h : P s) : P (s.parkAtReset hold) := by
  have hcancelled : P s.cancelWindow := hP.congr h (by simp) (by simp)
  unfold State.parkAtReset
  dsimp only
  split
  · exact hP.congr hcancelled (by simp) (by simp)
  · split
    · exact hP.congr hcancelled (by simp) (by simp)
    · rename_i v _ _
      exact hP.congr (hP.park hc v.busId hold v.context hcancelled) (by simp) (by simp)

end KeptByActs

end Sys2Proof.Proofs.Acts
end

section
/-!
The ranges of the clock (section 1.1): the local advance, the restarts and the disagreement age keep them.
-/
namespace Sys2Proof.Proofs.Clock

open Sys2Proof Sys2Proof.Machine

/-- CLK's ranges read the clock alone. -/
theorem clockOk_congr {s t : State} (h : s.ClockOk) (hc : t.clk = s.clk) : t.ClockOk := by
  unfold State.ClockOk
  rwa [hc]

/-- An epoch boundary moves the disagreement age alone, and an age of 15 becomes none (R6). -/
theorem clockOk_boundary {s : State} (rollover restart : Bool) (h : s.ClockOk) : (s.boundary rollover restart).ClockOk := by
  obtain ⟨hepoch, htick, hage, howed⟩ := h
  have hclk := s.boundary_clk rollover restart
  refine ⟨by simpa [hclk] using hepoch, by simpa [hclk] using htick, fun a ha => ?_, by simpa [hclk] using howed⟩
  simp only [hclk, Clk.aged, Option.mem_def, Option.bind_eq_some_iff] at ha
  obtain ⟨b, -, hb⟩ := ha
  split at hb
  · injection hb with hb
    omega
  · cases hb

theorem nextEpoch_lt (e : Nat) : nextEpoch e < 43200 := Nat.mod_lt _ (by decide)

theorem clockOk_restartAt {s : State} {e : Nat} (he : e < 43200) (h : s.ClockOk) : (s.restartAt e).ClockOk :=
  ⟨he, Nat.succ_pos 19, h.2.2.1, nofun⟩

theorem clockOk_tickWork {s : State} (h : s.ClockOk) : s.tickWork.ClockOk := clockOk_congr h (by simp)

theorem clockOk_tickEvent {s : State} (h : s.ClockOk) : s.tickEvent.ClockOk := by
  obtain ⟨hepoch, -, hage, howed⟩ := h
  unfold State.tickEvent
  split
  · exact clockOk_tickWork ⟨hepoch, Nat.succ_pos 19, hage, nofun⟩
  · rename_i hnotOwed
    split
    · rename_i hwithin
      exact clockOk_tickWork ⟨hepoch, hwithin, hage, fun h => absurd h hnotOwed⟩
    · exact clockOk_boundary _ _ (clockOk_tickWork ⟨nextEpoch_lt _, Nat.succ_pos 19, hage, fun h => absurd h hnotOwed⟩)

theorem clockOk_epochBoundary {s : State} (h : s.ClockOk) : s.epochBoundary.ClockOk := by
  unfold State.epochBoundary
  split
  · rename_i hdue
    have htick : s.clk.tick = 19 := by
      simp only [State.boundaryDue, Bool.and_eq_true, decide_eq_true_eq] at hdue
      exact Nat.succ.inj hdue.1
    obtain ⟨-, -, hage, -⟩ := h
    exact clockOk_boundary _ _ ⟨nextEpoch_lt _, by simp [htick], hage, fun _ => htick⟩
  · exact h

/-- The max-sync rule adopts a count in range, or makes the disagreement age 0, or moves nothing (R5, R6). -/
theorem clockOk_maxSync {s : State} (sender : Nat) {e : Nat} (he : e < 43200) (h : s.ClockOk) : (s.maxSync sender e).ClockOk := by
  unfold State.maxSync
  dsimp only
  split
  · exact h
  · split
    · exact clockOk_boundary _ _ (clockOk_congr (clockOk_restartAt he h) (by simp))
    · split
      · obtain ⟨hepoch, htick, -, howed⟩ := h
        refine clockOk_congr (s := s.setClk { s.clk with disagree := some 0 }) ⟨hepoch, htick, ?_, howed⟩ ?_
        · rintro a ⟨⟩
          decide
        · unfold State.disagreeWith
          split <;> simp
      · exact h

theorem clockOk_exec (i : Instr) (s t : State) (h : s.ClockOk) (ht : exec i s = .next t) : t.ClockOk := by
  refine exec_preserves (P := State.ClockOk) ?port ?choices ?powerOn (fun s => clockOk_tickEvent)
    (fun s => clockOk_epochBoundary) ?dropped ?own ?claim ?event ?query ?offer ?taken ?idle ?busy ?drive ?sent ?collided
    ?complete ?measure ?edge ?configure ?setTime ?plug ?vehicle ?chain ?unplug ?dispatch ?mark ?close ?release ?counters
    ?snapshot ?reset i s t h ht
  case powerOn => intro s _; exact ⟨Nat.succ_pos _, Nat.succ_pos _, nofun, nofun⟩
  case claim =>
    intro s b e c _ _ _ _ hfields h
    have he : e < 43200 := by
      simp only [claimFieldsOk, Bool.and_eq_true, decide_eq_true_eq] at hfields
      exact hfields.1.1.1
    exact clockOk_congr (clockOk_maxSync b he h) (by simp [State.deliverClaim])
  case setTime => 
    intro s e he h
    obtain ⟨hepoch, htick, hage, howed⟩ := clockOk_restartAt he h
    exact clockOk_boundary _ _ ⟨hepoch, htick, hage, howed⟩
  case reset =>
    intro s h
    obtain ⟨hepoch, htick, -, howed⟩ := h
    refine clockOk_congr (s := s.setClk { s.clk with disagree := none }) ⟨hepoch, htick, nofun, howed⟩ ?_
    simp [State.resetBay, State.resetBlocks]
  all_goals
    intros
    refine clockOk_congr ‹_› ?_
    simp

/-- Settles O5: no command takes the clock out of its ranges. -/
theorem clockRangesKept : Obligations.ClockRangesKept := fun _ _ h ht =>
  Step.step_preserves (fun _ _ h => clockOk_congr h rfl) clockOk_exec h ht

end Sys2Proof.Proofs.Clock
end

section
/-!
The setpoint (R99 to R101, R131): the bounds of R100's table, and what moves them or the setpoint ends in R101's rule.
-/
namespace Sys2Proof.Proofs.Setpoint

open Sys2Proof Sys2Proof.Machine

/-! ## The bounds (R100, R131) -/

theorem clampInt_eq_max_min {x a b : Int} (h : a ≤ b) : clampInt x a b = max a (min b x) := by
  unfold clampInt
  split
  · omega
  · split <;> omega

/-- The five forced-zero cases of R100's table. -/
theorem forcedZero_iff {s : State} : s.forcedZero = true ↔
    s.lnk.station = .unconfigured ∨ s.lnk.station = .listening ∨ s.ses = none ∨ s.prk.query ≠ none ∨
      s.stg.stageFault = true ∨ s.stg.meterLost = true := by
  have hclaiming : s.isClaiming = false ↔ s.lnk.station = .unconfigured ∨ s.lnk.station = .listening := by
    unfold State.isClaiming
    cases s.lnk.station <;> simp
  cases hses : s.ses <;> cases hquery : s.prk.query <;>
    simp [State.forcedZero, State.isPending, hclaiming, hses, hquery, or_assoc]

theorem bounds_of_forcedZero {s : State} (h : s.forcedZero = true) : s.lowerBound = 0 ∧ s.target = 0 := by
  have hlow : s.lowerBound = 0 := by simp [State.lowerBound, h]
  have hselected : s.selectedTarget = 0 := by simp [State.selectedTarget, h]
  refine ⟨hlow, ?_⟩
  rw [State.target, hlow, hselected, clampInt_of_within le_rfl (by omega)]

theorem lowerBound_of_session {s : State} {v : Session} (h : s.forcedZero = false) (hv : s.ses = some v) :
    s.lowerBound = if v.consent then -(v.dischargeLimit : Int) else 0 := by
  simp [State.lowerBound, h, hv]

theorem target_of_not_forcedZero {s : State} (h : s.forcedZero = false) :
    s.target = max s.lowerBound (min (s.alt.grant : Int)
      (if s.rsv.active = false then (s.alt.grant : Int)
       else if s.rsv.standing = some .withdrawn then (s.rsv.baseline : Int) else s.eventTarget)) := by
  have hle : s.lowerBound ≤ (s.alt.grant : Int) := s.lowerBound_nonpos.trans (Int.natCast_nonneg _)
  rw [State.target, clampInt_eq_max_min hle]
  congr 2
  cases hactive : s.rsv.active <;> simp [State.selectedTarget, State.isWithdrawn, h, hactive]

theorem eventTarget_of_session {s : State} {v : Session} (hactive : s.rsv.active = true) (hv : s.ses = some v) :
    s.eventTarget = max ((s.rsv.baseline : Int) - s.rsv.share) (if v.consent then -(v.dischargeLimit : Int) else 0) := by
  simp [State.eventTarget, hactive, hv]

/-! ## What leaves the setpoint and its bounds alone -/

/-- What the bounds read of a session: consent and discharge limit. -/
def limitsOf (v : Session) : Bool × Nat := (v.consent, v.dischargeLimit)

/-- A change of the session that leaves consent and discharge limit leaves the bounds. -/
theorem bounds_modSes (s : State) (f : Session → Session) (hf : ∀ v, limitsOf (f v) = limitsOf v) :
    (s.modSes f).lowerBound = s.lowerBound ∧ (s.modSes f).target = s.target := by
  simp only [limitsOf, Prod.mk.injEq] at hf
  cases hses : s.ses <;>
    simp [State.target, State.lowerBound, State.selectedTarget, State.eventTarget, State.forcedZero, State.isClaiming,
      State.isPending, State.isWithdrawn, State.modSes, hses, hf]

/-- The setpoint's rule reads these registers alone. -/
theorem setpointOk_frame {s t : State} (h : s.SetpointOk) (hstg : t.stg.applied = s.stg.applied ∧ t.stg.isOpen = s.stg.isOpen ∧
      t.stg.meterLost = s.stg.meterLost ∧ t.stg.stageFault = s.stg.stageFault)
    (hclaiming : t.isClaiming = s.isClaiming) (hses : t.ses = s.ses) (hquery : t.prk.query.isSome = s.prk.query.isSome)
    (hrsv : t.rsv.active = s.rsv.active ∧ t.rsv.standing = s.rsv.standing ∧ t.rsv.baseline = s.rsv.baseline ∧
      t.rsv.share = s.rsv.share) (hgrant : t.alt.grant = s.alt.grant) : t.SetpointOk := by
  obtain ⟨happlied, hopen, hmeter, hstage⟩ := hstg
  obtain ⟨hactive, hstanding, hbaseline, hshare⟩ := hrsv
  exact State.SetpointOk_congr h happlied hopen
    (State.bounds_congr hmeter hstage hclaiming hses hquery hactive hstanding hbaseline hshare hgrant)

theorem isClaiming_congr {s t : State} (h : t.lnk.station = s.lnk.station) : t.isClaiming = s.isClaiming := by
  simp [State.isClaiming, h]

theorem isClaiming_of_station {s : State} (h : s.lnk.station = .active ∨ s.lnk.station = .isolated) : s.isClaiming = true := by
  rcases h with h | h <;> simp [State.isClaiming, h]

/-! ## What changes them -/

theorem setpointOk_capIsolated {s : State} (h : s.SetpointOk) : s.capIsolated.SetpointOk := by
  unfold State.capIsolated
  split
  · exact State.setGrant_setpoint _ _
  · exact h

theorem setpointOk_capture {s : State} (c : Cause) (d : BitVec 32) (b : Option Nat) (h : s.SetpointOk) :
    (s.capture c d b).SetpointOk :=
  setpointOk_frame h (by simp) (isClaiming_congr (by simp)) (by simp) (by simp) (by simp) (by simp)

theorem setpointOk_captureNat {s : State} (c : Cause) (d : Nat) (h : s.SetpointOk) : (s.captureNat c d).SetpointOk :=
  setpointOk_capture c _ none h

theorem setpointOk_raise {s : State} (n : Notice) (h : s.SetpointOk) : (s.raise n).SetpointOk :=
  setpointOk_frame h (by simp) (isClaiming_congr (by simp)) (by simp) (by simp) (by simp) (by simp)

theorem setpointOk_altDiscard {s : State} (h : s.SetpointOk) : s.altDiscard.SetpointOk :=
  setpointOk_frame h (by simp) (isClaiming_congr (by simp)) (by simp) (by simp) (by simp) (by simp)

theorem setpointOk_evalDupBus {s : State} (h : s.SetpointOk) : s.evalDupBus.SetpointOk :=
  setpointOk_frame h (by simp) (isClaiming_congr (by simp)) (by simp) (by simp) (by simp) (by simp)

/-- Entry into ISOLATED from ACTIVE stays among the claiming states (R31). -/
theorem setpointOk_enterIsolated {s : State} (hclaiming : s.isClaiming = true) (h : s.SetpointOk) :
    s.enterIsolated.SetpointOk := by
  unfold State.enterIsolated
  refine setpointOk_raise _ (setpointOk_captureNat _ _ (setpointOk_capIsolated ?_))
  have : (s.setLnk { s.lnk with station := .isolated }).isClaiming = s.isClaiming := by
    rw [hclaiming]
    rfl
  exact setpointOk_frame h (by simp) this (by simp) (by simp) (by simp) (by simp)

theorem setpointOk_missEpoch {s : State} (h : s.SetpointOk) : s.missEpoch.SetpointOk := by
  have h1 : (s.setLnk { s.lnk with streak := min Config.isolationStreak (s.lnk.streak + 1) }).SetpointOk := h
  unfold State.missEpoch
  dsimp only
  split
  · rename_i hmiss
    exact setpointOk_enterIsolated (isClaiming_of_station (.inl hmiss.2)) h1
  · exact h1

theorem setpointOk_hearOwnBay {s : State} (h : s.SetpointOk) : s.hearOwnBay.SetpointOk := by
  have h1 : (((s.setLnk { s.lnk with dupBay := true }).captureNat .dupBay 0).raise .dupBay).SetpointOk :=
    setpointOk_raise _ (setpointOk_captureNat _ _ h)
  unfold State.hearOwnBay
  split
  · exact h
  · dsimp only
    split
    · exact setpointOk_enterIsolated (isClaiming_of_station (.inl ‹_›)) h1
    · exact h1

theorem setpointOk_reevaluate {s : State} (h : s.SetpointOk) : s.reevaluate.SetpointOk :=
  setpointOk_frame (setpointOk_capIsolated h) (by simp [State.reevaluate]) (isClaiming_congr (by simp))
    (by simp) (by simp) (by simp [State.reevaluate]) (by simp [State.reevaluate])

theorem setpointOk_boundary (s : State) (rollover restart : Bool) : (s.boundary rollover restart).SetpointOk :=
  State.follow_setpoint _

theorem setpointOk_tickWork (s : State) : s.tickWork.SetpointOk := State.follow_setpoint _

theorem setpointOk_tickEvent (s : State) : s.tickEvent.SetpointOk := by
  unfold State.tickEvent
  split
  · exact setpointOk_tickWork _
  · split
    · exact setpointOk_tickWork _
    · exact setpointOk_boundary _ _ _

theorem setpointOk_epochBoundary {s : State} (h : s.SetpointOk) : s.epochBoundary.SetpointOk := by
  unfold State.epochBoundary
  split
  · exact setpointOk_boundary _ _ _
  · exact h

theorem setpointOk_maxSync {s : State} (sender e : Nat) (h : s.SetpointOk) : (s.maxSync sender e).SetpointOk := by
  unfold State.maxSync
  dsimp only
  (repeat' split)
  · exact h
  · exact setpointOk_boundary _ _ _
  · exact setpointOk_frame h (by simp) (isClaiming_congr (by simp)) (by simp) (by simp) (by simp) (by simp)
  · exact h

theorem setpointOk_deliverClaim {s : State} (b e : Nat) (c : Claim) (h : s.SetpointOk) : (s.deliverClaim b e c).SetpointOk :=
  setpointOk_reevaluate (s := (s.maxSync b e).setPtb _) (setpointOk_maxSync b e h)

theorem setpointOk_changeDemand (s : State) (origin d : Nat) : (s.changeDemand origin d).SetpointOk :=
  setpointOk_captureNat _ _ (State.computeShares_setpoint _ _)

theorem setpointOk_takeEvent (s : State) (origin seq d remaining : Nat) : (s.takeEvent origin seq d remaining).SetpointOk := by
  unfold State.takeEvent
  exact setpointOk_raise _ (setpointOk_captureNat _ _ (setpointOk_altDiscard (State.computeShares_setpoint _ _)))

/-- Where the demand stands, an update of the holder moves nothing that the setpoint follows (R126). -/
theorem setpointOk_holderUpdate {s : State} (origin seq d remaining : Nat) (h : s.SetpointOk) :
    (s.holderUpdate origin seq d remaining).SetpointOk := by
  unfold State.holderUpdate
  dsimp only
  split
  · exact h
  · exact setpointOk_changeDemand _ _ _

theorem setpointOk_judgeEvent {s : State} (origin seq d remaining : Nat) (h : s.SetpointOk) :
    (s.judgeEvent origin seq d remaining).SetpointOk := by
  unfold State.judgeEvent
  split
  · split
    · split
      · split
        · exact State.follow_setpoint _
        · exact setpointOk_holderUpdate _ _ _ _ h
      · exact h
    · split
      · exact setpointOk_changeDemand _ _ _
      · exact h
  · split
    · exact setpointOk_takeEvent _ _ _ _ _
    · exact h

theorem setpointOk_sendDemand {s : State} (h : s.SetpointOk) : s.sendDemand.SetpointOk :=
  setpointOk_judgeEvent _ _ _ _
    (setpointOk_frame h (by simp) (isClaiming_congr (by simp)) (by simp) (by simp) (by simp) (by simp))

theorem setpointOk_dispatchDemand {s : State} (d m : Nat) (h : s.SetpointOk) : (s.dispatchDemand d m).SetpointOk := by
  have h1 : (s.setHostDemand d m).SetpointOk :=
    setpointOk_frame h (by simp) (isClaiming_congr (by simp)) (by simp) (by simp) (by simp) (by simp)
  unfold State.dispatchDemand
  dsimp only
  split
  · exact setpointOk_sendDemand h1
  · exact h1

theorem setpointOk_altComplete {s : State} (h : s.SetpointOk) : s.altComplete.SetpointOk := by
  unfold State.altComplete
  split
  · exact h
  · dsimp only
    split
    · exact h
    · exact State.setGrant_setpoint _ _

theorem setpointOk_judgeMeasure {s : State} (m : Measure) (h : s.SetpointOk) : (s.judgeMeasure m).SetpointOk := by
  unfold State.judgeMeasure
  split
  · split
    · unfold State.takeMeasure State.takeStageFlags
      dsimp only
      split
      · exact setpointOk_raise _ (setpointOk_captureNat _ _ (State.follow_setpoint _))
      · exact State.follow_setpoint _
    · split <;> exact h
  all_goals exact h

theorem setpointOk_rsvSessionEnd {s : State} (h : s.SetpointOk) : s.rsvSessionEnd.SetpointOk := by
  unfold State.rsvSessionEnd
  split
  · exact setpointOk_raise _ (setpointOk_captureNat _ _ (State.follow_setpoint _))
  · exact h

theorem setpointOk_dropSession (s : State) : s.dropSession.SetpointOk := by
  unfold State.dropSession
  exact setpointOk_evalDupBus (setpointOk_rsvSessionEnd (State.setGrant_setpoint _ 0))

theorem setpointOk_unplugNow {s : State} (h : s.SetpointOk) : s.unplugNow.SetpointOk := by
  unfold State.unplugNow
  split
  · exact h
  · split <;> exact setpointOk_dropSession _

theorem setpointOk_plugIn (s : State) (p : PlugFields) : (s.plugIn p).SetpointOk := by
  unfold State.plugIn
  dsimp only
  split
  · exact setpointOk_captureNat _ _ (State.follow_setpoint _)
  · exact State.follow_setpoint _

theorem setpointOk_claimSent {s : State} (h : s.SetpointOk) : s.claimSent.SetpointOk := by
  refine setpointOk_frame h (by simp) ?_ (by simp) (by simp) (by simp) (by simp)
  unfold State.claimSent
  dsimp only
  split
  · rename_i hisolated
    simp [State.isClaiming, hisolated.1]
  · rfl

theorem setpointOk_stopDriving {s : State} (q : List QEntry) (h : s.SetpointOk) : (s.stopDriving q).SetpointOk :=
  setpointOk_frame h (by simp) (isClaiming_congr (by simp)) (by simp) (by simp) (by simp) (by simp)

theorem setpointOk_sentWhole {s : State} (h : s.SetpointOk) : s.sentWhole.SetpointOk := by
  unfold State.sentWhole
  split
  · rename_i k _ held _
    have h1 : ((s.setLnk { s.lnk with lineIdle := false }).stopDriving (queueAfterSent s.lnk.queue k held)).SetpointOk :=
      setpointOk_stopDriving _ h
    dsimp only
    split
    · exact setpointOk_claimSent h1
    · exact h1
  · exact h

theorem setpointOk_collided {s : State} (h : s.SetpointOk) : s.collided.SetpointOk := by
  unfold State.collided
  split
  · dsimp only
    split
    · exact setpointOk_missEpoch (setpointOk_stopDriving _ h)
    · exact setpointOk_stopDriving _ h
  · exact h

theorem setpointOk_takeOffer {s : State} (b : Nat) (o : Offer) (h : s.SetpointOk) : (s.takeOffer b o).SetpointOk :=
  setpointOk_frame h (by simp) (isClaiming_congr (by simp)) (by simp) (by simp [State.takeOffer]) (by simp) (by simp)

theorem setpointOk_loadChain {s : State} (ls : List NewLeg) (h : s.SetpointOk) : (s.loadChain ls).SetpointOk :=
  State.SetpointOk_congr h rfl rfl (bounds_modSes s _ fun _ => rfl)

theorem setpointOk_powerOn (s : State) : s.powerOn.SetpointOk := by
  have h : State.reset.SetpointOk := by decide
  exact h

theorem setpointOk_exec (i : Instr) (s t : State) (h : s.SetpointOk) (ht : exec i s = .next t) : t.SetpointOk := by
  refine exec_preserves (P := State.SetpointOk) ?port ?choices (fun s _ => setpointOk_powerOn s)
    (fun s _ => setpointOk_tickEvent s) (fun s => setpointOk_epochBoundary) ?dropped (fun s _ => setpointOk_hearOwnBay)
    (fun s b e c _ _ _ _ _ => setpointOk_deliverClaim b e c) (fun s b q d n _ _ _ _ _ => setpointOk_judgeEvent b q d n)
    ?query (fun s b o _ _ _ _ _ => setpointOk_takeOffer b o) ?taken ?idle ?busy ?drive (fun s => setpointOk_sentWhole)
    (fun s => setpointOk_collided) (fun s => setpointOk_altComplete) (fun s m => setpointOk_judgeMeasure m) ?edge
    (fun s r _ _ _ => State.follow_setpoint _) (fun s e _ _ => setpointOk_boundary _ _ _)
    (fun s p _ _ _ _ => setpointOk_plugIn s p) (fun s a d c _ => State.follow_setpoint _)
    (fun s v ls _ _ _ => setpointOk_loadChain ls) (fun s => setpointOk_unplugNow)
    (fun s d m _ => setpointOk_dispatchDemand d m) ?mark ?close ?release ?counters ?snapshot ?reset i s t h ht
  case reset =>
    intro s _
    have hpark : ∀ u : State, ∀ hold, (u.parkAtReset hold).SetpointOk := fun u hold => State.follow_setpoint _
    exact hpark _ _
  all_goals
    intros
    exact setpointOk_frame ‹_› (by simp) (isClaiming_congr (by simp)) (by simp) (by simp) (by simp) (by simp)

/-- Settles O6: the bounds by R100's table, and each operation either leaves what the rule reads or ends in R101's rule. -/
theorem setpointBoundsKept : Obligations.SetpointBoundsKept := by
  refine ⟨fun s => ⟨fun h => bounds_of_forcedZero (forcedZero_iff.mpr h), fun h => ?_, fun v hv =>
    ⟨fun hactive => eventTarget_of_session hactive hv, fun h => ?_⟩⟩, fun s t h ht =>
      Step.step_preserves (fun _ _ h => h) setpointOk_exec h ht⟩
  · rcases h with h | h <;> simp [State.eventTarget, h]
  · have hforced : s.forcedZero = false := by rwa [← forcedZero_iff, Bool.not_eq_true] at h
    have hlow := lowerBound_of_session hforced hv
    exact ⟨hlow, hlow ▸ target_of_not_forcedZero hforced⟩

end Sys2Proof.Proofs.Setpoint
end

section
/-!
The capture log (sections 9.3 to 9.6): the operations of the machine reach the log through captures alone, and a capture keeps
the banks, numbers, counters and mask within their rules.
-/
namespace Sys2Proof.Proofs.LogRules

open Sys2Proof Sys2Proof.Machine Sys2Proof.Proofs.Acts

/-! ## Records that run on (R165) -/

theorem consecutive_concat {rs : List LogRecord} {r : LogRecord} (h : consecutive rs = true)
    (hr : ∀ q ∈ rs.getLast?, r.seq = (q.seq + 1) % 65536) : consecutive (rs ++ [r]) = true := by
  induction rs with
  | nil => rfl
  | cons a rs ih =>
    cases rs with
    | nil => simpa [consecutive] using hr a rfl
    | cons b rest =>
      simp only [consecutive, Bool.and_eq_true, List.cons_append] at h ⊢
      exact ⟨h.1, ih h.2 (by simpa using hr)⟩

/-! ## One bank (section 9.4) -/

/-- A record with the next number keeps a filling bank within its rules (R165, R166). -/
theorem bankOk_push {b : Bank} {r : LogRecord} (h : b.Ok) (hfilling : b.state = .filling) (hseq : b.Follows r.seq) :
    (b.push r).Ok := by
  obtain ⟨-, hlen, -, hrun⟩ := h
  have hlen := hlen hfilling
  have hrun := consecutive_concat hrun (hseq hfilling)
  unfold Bank.push
  split
  · exact ⟨nofun, nofun, fun _ => by simp; omega, hrun⟩
  · rename_i hnotFull
    exact ⟨nofun, fun _ => by simp [Config.bankRecords] at hnotFull ⊢; omega, nofun, hrun⟩

theorem follows_push (b : Bank) (r : LogRecord) : (b.push r).Follows ((r.seq + 1) % 65536) := by
  intro _ q hq
  simp only [Bank.push, List.getLast?_concat, Option.mem_some_iff] at hq
  rw [hq]

theorem bankOk_start {b : Bank} (h : b.Ok) : b.start.Ok := by
  unfold Bank.start
  split
  · rename_i hempty
    simp [Bank.Ok, h.1 (by simpa using hempty), consecutive]
  · exact h

theorem start_state_ne_empty (b : Bank) : b.start.state ≠ .empty := by
  unfold Bank.start
  split <;> simp_all

/-- A bank that was not filling starts without a record, so every number follows. -/
theorem follows_start {b : Bank} (h : b.Ok) (hfilling : b.state ≠ .filling) (seq : Nat) : b.start.Follows seq := by
  unfold Bank.start
  split
  · rename_i hempty
    intro _ r hr
    simp [h.1 (by simpa using hempty)] at hr
  · exact fun hf => absurd hf hfilling

theorem follows_of_not_filling {b : Bank} (h : b.state ≠ .filling) (seq : Nat) : b.Follows seq := fun hf => absurd hf h

theorem push_state_filling_or_full (b : Bank) (r : LogRecord) : (b.push r).state = .filling ∨ (b.push r).state = .full := by
  simp only [Bank.push]
  split <;> simp

/-! ## The two banks -/

/-- What the rules say of the two banks and the next number. -/
structure BanksOk (a b : Bank) (seq : Nat) : Prop where
  aOk : a.Ok
  bOk : b.Ok
  aFollows : a.Follows seq
  bFollows : b.Follows seq
  notBoth : ¬(a.state = .filling ∧ b.state = .filling)
  bothFull : a.state ≠ .filling → b.state ≠ .filling → a.state = .full ∧ b.state = .full

theorem BanksOk.swap {a b : Bank} {seq : Nat} (h : BanksOk a b seq) : BanksOk b a seq :=
  ⟨h.bOk, h.aOk, h.bFollows, h.aFollows, fun hf => h.notBoth hf.symm, fun h1 h2 => (h.bothFull h2 h1).symm⟩

/-- A bank that is full beside one that has just been started, where it was empty (R166, R169). -/
theorem banksOk_handOver {a b : Bank} (seq : Nat) (ha : a.Ok) (hfull : a.state = .full) (hb : b.Ok) (hidle : b.state ≠ .filling) :
    BanksOk a b.start seq where
  aOk := ha
  bOk := bankOk_start hb
  aFollows := follows_of_not_filling (by simp [hfull]) seq
  bFollows := follows_start hb hidle seq
  notBoth := by simp [hfull]
  bothFull _ hnot := ⟨hfull, by
    have := start_state_ne_empty b
    cases hs : b.start.state <;> simp_all⟩

/-- A record goes into the filling bank, and a bank that it fills hands over (R165, R166). -/
theorem BanksOk.push {a b : Bank} {r : LogRecord} (h : BanksOk a b r.seq) (hfilling : a.state = .filling) :
    BanksOk (a.push r) (if (a.push r).state = .full then b.start else b) ((r.seq + 1) % 65536) := by
  have hidle : b.state ≠ .filling := fun hb => h.notBoth ⟨hfilling, hb⟩
  have hok := bankOk_push h.aOk hfilling h.aFollows
  split
  · rename_i hfull
    exact banksOk_handOver _ hok hfull h.bOk hidle
  · rename_i hnotFull
    exact ⟨hok, h.bOk, follows_push a r, follows_of_not_filling hidle _, fun hf => hidle hf.2,
      fun hna _ => absurd ((push_state_filling_or_full a r).resolve_right hnotFull) hna⟩

/-- A released bank takes no part in a gap: it has no record, and fills where the other does not (R168). -/
theorem banksOk_released {a b : Bank} {seq : Nat} (h : BanksOk a b seq) (hfull : a.state = .full) :
    BanksOk (releasedBank b) b seq := by
  unfold releasedBank
  by_cases hb : b.state = .filling
  · exact ⟨by simp [Bank.Ok, hb, consecutive], h.bOk, by simp [Bank.Follows], h.bFollows, by simp [hb], by simp [hb]⟩
  · have := h.bothFull (by simp [hfull]) hb
    exact ⟨by simp [Bank.Ok, this.2, consecutive], h.bOk, by simp [Bank.Follows], h.bFollows, by simp [this.2], by simp [this.2]⟩

/-! ## The log -/

/-- The counters, the lost count and the mask within their rules (R164, R167, R172). -/
structure FiguresOk (g : Log) : Prop where
  seq : g.seq < 65536
  length : g.counters.length = 24
  counters : ∀ n ∈ g.counters, n ≤ 63
  lost : g.lost ≤ 255
  mask : g.mask &&& ~~~Log.fullMask = 0#24

theorem logOk_iff {s : State} : s.LogOk ↔ BanksOk s.log.a s.log.b s.log.seq ∧ FiguresOk s.log := by
  constructor
  · rintro ⟨h1, h2, h3, h4, h5, h6, h7, h8, h9, h10, h11⟩
    exact ⟨⟨h1, h2, h3, h4, h5, h6⟩, ⟨h7, h8, h9, h10, h11⟩⟩
  · rintro ⟨⟨h1, h2, h3, h4, h5, h6⟩, ⟨h7, h8, h9, h10, h11⟩⟩
    exact ⟨h1, h2, h3, h4, h5, h6, h7, h8, h9, h10, h11⟩

theorem logOk_congr {s t : State} (h : s.LogOk) (hlog : t.log = s.log) : t.LogOk := by
  unfold State.LogOk
  rwa [hlog]

theorem nextSeq_lt (g : Log) : g.nextSeq < 65536 := Nat.mod_lt _ (by decide)

theorem logOk_count {s : State} (c : Cause) (h : s.LogOk) : (s.setLog (s.log.count c)).LogOk := by
  obtain ⟨hbanks, hseq, hlength, hcounters, hlost, hmask⟩ := logOk_iff.mp h
  refine logOk_iff.mpr ⟨hbanks, hseq, by simpa [Log.count] using hlength, fun n hn => ?_, hlost, hmask⟩
  obtain ⟨i, hi⟩ := List.mem_iff_getElem?.mp hn
  simp only [State.setLog_log, Log.count, List.getElem?_modify, Option.map_eq_map, Option.map_eq_some_iff] at hi
  obtain ⟨m, hm, rfl⟩ := hi
  split
  · exact Nat.min_le_left _ _
  · exact hcounters m (List.mem_of_getElem? hm)

/-- A record with the next number is stored, or lost and counted (R165 to R167). -/
theorem logOk_store {s : State} {r : LogRecord} (hr : r.seq = s.log.seq) (h : s.LogOk) : (s.store r).LogOk := by
  obtain ⟨hbanks, hfigures⟩ := logOk_iff.mp h
  obtain ⟨-, hlength, hcounters, hlost, hmask⟩ := hfigures
  rw [← hr] at hbanks
  have hnext : s.log.nextSeq = (r.seq + 1) % 65536 := by rw [hr, Log.nextSeq]
  rw [logOk_iff]
  unfold State.store
  dsimp only
  split
  · rename_i ha
    have hpush := hbanks.push (r := r) (by simpa using ha)
    rw [← hnext] at hpush
    split
    · rename_i hfull
      rw [if_pos (by simpa using hfull)] at hpush
      exact ⟨hpush, nextSeq_lt _, hlength, hcounters, hlost, hmask⟩
    · rename_i hfull
      rw [if_neg (by simpa using hfull)] at hpush
      exact ⟨hpush, nextSeq_lt _, hlength, hcounters, hlost, hmask⟩
  · split
    · rename_i hb
      have hpush := hbanks.swap.push (r := r) (by simpa using hb)
      rw [← hnext] at hpush
      split
      · rename_i hfull
        rw [if_pos (by simpa using hfull)] at hpush
        exact ⟨hpush.swap, nextSeq_lt _, hlength, hcounters, hlost, hmask⟩
      · rename_i hfull
        rw [if_neg (by simpa using hfull)] at hpush
        exact ⟨hpush.swap, nextSeq_lt _, hlength, hcounters, hlost, hmask⟩
    · rw [hr] at hbanks
      exact ⟨hbanks, (logOk_iff.mp h).2.seq, hlength, hcounters, Nat.min_le_left _ _, hmask⟩

theorem logOk_capture (s : State) (c : Cause) (d : BitVec 32) (b : Option Nat) (h : s.LogOk) : (s.capture c d b).LogOk := by
  unfold State.capture
  dsimp only
  split
  · exact logOk_store rfl (logOk_count c h)
  · exact logOk_count c h

theorem logOk_keptByActs : KeptByActs [] State.LogOk := keptByActs_of_log (fun _ _ => logOk_congr) logOk_capture

/-! ## The commands of the log -/

theorem bankOk_closed {b : Bank} (h : b.Ok) (hclose : b.state = .filling ∧ b.records ≠ []) : b.closed.Ok := by
  obtain ⟨-, hlen, -, hrun⟩ := h
  have hpos := List.length_pos_iff.mpr hclose.2
  have hlen := hlen hclose.1
  exact ⟨nofun, nofun, fun _ => ⟨hpos, by simp only [Bank.closed]; omega⟩, hrun⟩

theorem banksOk_close {a b : Bank} {seq : Nat} (h : BanksOk a b seq) (hclose : canClose a b = true) :
    BanksOk a.closed b.start seq := by
  obtain ⟨hfilling, hne, hempty⟩ := LogCommands.canClose_iff.mp hclose
  exact banksOk_handOver seq (bankOk_closed h.aOk ⟨hfilling, hne⟩) rfl h.bOk (by simp [hempty])

theorem logOk_closeFilling {s : State} (h : (canClose s.log.a s.log.b || canClose s.log.b s.log.a) = true) (hok : s.LogOk) :
    s.closeFilling.LogOk := by
  obtain ⟨hbanks, hseq, hlength, hcounters, hlost, hmask⟩ := logOk_iff.mp hok
  rw [logOk_iff]
  unfold State.closeFilling
  split
  · rename_i ha
    exact ⟨banksOk_close hbanks ha, hseq, hlength, hcounters, hlost, hmask⟩
  · rename_i ha
    simp only [ha, Bool.false_or] at h
    exact ⟨(banksOk_close hbanks.swap h).swap, hseq, hlength, hcounters, hlost, hmask⟩

theorem logOk_releaseFull {s : State} {n : Nat} (hn : n ≤ 1) (hfull : (s.log.bank n).state = .full) (h : s.LogOk) :
    (s.releaseFull n).LogOk := by
  obtain ⟨hbanks, hseq, hlength, hcounters, hlost, hmask⟩ := logOk_iff.mp h
  rw [logOk_iff]
  unfold State.releaseFull
  split
  · rename_i hzero
    subst hzero
    exact ⟨banksOk_released hbanks hfull, hseq, hlength, hcounters, hlost, hmask⟩
  · rename_i hzero
    obtain rfl : n = 1 := by omega
    exact ⟨(banksOk_released hbanks.swap hfull).swap, hseq, hlength, hcounters, hlost, hmask⟩

/-- The mask in force is the one given but for codes outside 1..21 (R164), or the full one (R175). -/
theorem logOk_setMask {s : State} (m : BitVec 24) (h : s.LogOk) : (s.setLog { s.log with mask := m &&& Log.fullMask }).LogOk := by
  obtain ⟨hbanks, hseq, hlength, hcounters, hlost, -⟩ := logOk_iff.mp h
  exact logOk_iff.mpr ⟨hbanks, hseq, hlength, hcounters, hlost, by simp [BitVec.and_assoc]⟩

theorem logOk_resetBay {s : State} (h : s.LogOk) : s.resetBay.LogOk := by
  have hcaptured : ((s.setPrt { s.prt with flags := 0#20 }).capture .bayReset 0#32 none).LogOk :=
    logOk_capture _ _ _ _ h
  have hblocks : ∀ u : State, u.LogOk → u.resetBlocks.LogOk := fun u hu => by
    have hmask := logOk_setMask Log.fullMask hu
    rw [BitVec.and_self] at hmask
    exact logOk_congr hmask (by simp [State.resetBlocks])
  have hparked := logOk_keptByActs.parkAtReset (Spares.nil _) s.holdBoundaries (hblocks _ hcaptured)
  exact logOk_congr hparked (by simp [State.resetBay])

theorem logOk_exec (i : Instr) (s t : State) (h : s.LogOk) (ht : exec i s = .next t) : t.LogOk := by
  have hP := logOk_keptByActs
  have hall {es : List Cause} : Spares [] es := Spares.nil es
  refine exec_preserves (P := State.LogOk) ?port ?choices ?powerOn (fun _ => hP.tickEvent hall hall)
    (fun _ => hP.epochBoundary hall) (fun _ => logOk_capture _ _ _ _) (fun _ _ => hP.hearOwnBay hall)
    (fun _ b e c _ _ _ _ _ => hP.deliverClaim hall hall b e c) (fun _ b q d n _ _ _ _ _ => hP.judgeEvent hall b q d n) ?query
    ?offer (fun _ b bus x _ _ => hP.takeTaken hall b bus x) ?idle ?busy ?drive ?sent (fun _ => hP.collided hall) ?complete
    (fun _ m => hP.judgeMeasure hall m) (fun _ n => hP.gridEdge hall n) ?configure ?setTime
    (fun _ p _ _ _ => hP.plugIn hall p) ?vehicle ?chain (fun _ => hP.unplugNow hall) (fun _ d m _ => hP.dispatchDemand hall d m)
    (fun _ tag => logOk_capture _ _ _ _) (fun _ => logOk_closeFilling) (fun _ _ => logOk_releaseFull) ?counters ?snapshot
    (fun _ => logOk_resetBay) i s t h ht
  case powerOn =>
    intro s _
    have hreset : State.reset.LogOk := by decide
    exact logOk_congr hreset rfl
  case configure => intro s r _ _ h; exact logOk_congr (logOk_setMask r.mask h) (by simp [State.configureWith])
  case setTime => intro s e _ h; exact hP.boundary hall _ _ (logOk_congr h rfl)
  case counters =>
    intro s h
    obtain ⟨hbanks, hseq, -, -, -, hmask⟩ := logOk_iff.mp h
    have hzero : ∀ n ∈ List.replicate 24 0, n ≤ 63 := fun n hn => by simp [List.eq_of_mem_replicate hn]
    exact logOk_iff.mpr ⟨hbanks, hseq, by simp [State.zeroCounters], hzero, Nat.zero_le _, hmask⟩
  all_goals
    intros
    exact logOk_congr ‹_› (by simp)

/-- Settles O7: a capture keeps the rules of the log, and so do the commands that change its banks, counters and mask. -/
theorem logKept : Obligations.LogKept := fun _ _ h ht =>
  Step.step_preserves (fun _ _ h => logOk_congr h rfl) logOk_exec h ht

end Sys2Proof.Proofs.LogRules
end

section
/-!
Trip chains (section 4.4): every operation that changes a chain keeps its shape around the cursor, and the operations that only
carry chains between the live session, the park table and the candidate lose nothing.
-/
namespace Sys2Proof.Proofs.Chains

open Sys2Proof Sys2Proof.Machine

/-! ## One chain -/

/-- The shape of a chain, leg by leg. -/
theorem chainOk_iff_getElem {c : Chain} : c.Ok ↔ c.legs.length ≤ 8 ∧ c.cursor ≤ c.legs.length ∧
    ∀ (i : Nat) (l : Leg), c.legs[i]? = some l → (i < c.cursor → l.state ≠ .pending) ∧ (c.cursor ≤ i → l.state = .pending) := by
  refine ⟨fun ⟨hlen, hcursor, hbefore, hafter⟩ => ⟨hlen, hcursor, fun i l hl => ⟨fun hi => ?_, fun hi => ?_⟩⟩,
    fun ⟨hlen, hcursor, hlegs⟩ => ⟨hlen, hcursor, fun l hl => ?_, fun l hl => ?_⟩⟩
  · exact hbefore l (List.mem_of_getElem? (i := i) (by rw [List.getElem?_take_of_lt hi, hl]))
  · exact hafter l (List.mem_of_getElem? (i := i - c.cursor) (by rw [List.getElem?_drop, Nat.add_sub_cancel' hi, hl]))
  · obtain ⟨i, hi⟩ := List.mem_iff_getElem?.mp hl
    rw [List.getElem?_take] at hi
    split at hi
    · exact (hlegs i l hi).1 ‹_›
    · cases hi
  · obtain ⟨i, hi⟩ := List.mem_iff_getElem?.mp hl
    rw [List.getElem?_drop] at hi
    exact (hlegs _ l hi).2 (Nat.le_add_right _ _)

/-- The shape of a chain, as the legs before the cursor and those from it on. -/
theorem chainOk_append {xs ys : List Leg} : Chain.Ok { legs := xs ++ ys, cursor := xs.length } ↔
    xs.length + ys.length ≤ 8 ∧ (∀ l ∈ xs, l.state ≠ .pending) ∧ ∀ l ∈ ys, l.state = .pending := by
  simp [Chain.Ok]

/-- A chain is its legs before the cursor and those from it on. -/
theorem eq_append {c : Chain} (h : c.Ok) :
    c = { legs := c.legs.take c.cursor ++ c.legs.drop c.cursor, cursor := (c.legs.take c.cursor).length } := by
  obtain ⟨-, hcursor, -⟩ := h
  simp [hcursor]

theorem chainOk_empty : Chain.Ok { legs := [], cursor := 0 } := by simp [Chain.Ok]

/-- Legs changed in anything but their states (R52). -/
theorem chainOk_map {c : Chain} {f : Leg → Leg} (hf : ∀ l, (f l).state = l.state) (h : c.Ok) :
    Chain.Ok { c with legs := c.legs.map f } := by
  obtain ⟨hlen, hcursor, hlegs⟩ := chainOk_iff_getElem.mp h
  refine chainOk_iff_getElem.mpr ⟨by simpa using hlen, by simpa using hcursor, fun i l hl => ?_⟩
  simp only [List.getElem?_map, Option.map_eq_some_iff] at hl
  obtain ⟨m, hm, rfl⟩ := hl
  rw [hf]
  exact hlegs i m hm

theorem chainOk_clampTo {c : Chain} (cap : Nat) (h : c.Ok) : (c.clampTo cap).Ok := chainOk_map (fun _ => rfl) h

/-- A rollover drops legs before the cursor alone, and moves the cursor with them (R58, R144). -/
theorem chainOk_rolled {c : Chain} (h : c.Ok) : c.rolled.Ok := by
  have hc := eq_append h
  rw [hc] at h
  obtain ⟨hlen, hbefore, hafter⟩ := chainOk_append.mp h
  have hfewer := List.length_filter_le (fun l : Leg => decide (l.dep ≠ Config.minDeparture)) (c.legs.take c.cursor)
  have hkept := chainOk_append (xs := (c.legs.take c.cursor).filter fun l => decide (l.dep ≠ Config.minDeparture))
    (ys := c.legs.drop c.cursor)
  refine chainOk_map (f := fun l => { l with dep := shiftDeparture l.dep }) (fun _ => rfl)
    (hkept.mpr ⟨by omega, fun l hl => ?_, hafter⟩)
  exact hbefore l (List.mem_of_mem_filter hl)

/-- The cursor leg takes a state but PENDING, and the cursor passes it (R59, R61). -/
theorem chainOk_markCursor {c : Chain} {l : Leg} {st : LegState} (h : c.Ok) (hl : c.cursorLeg = some l) (hst : st ≠ .pending) :
    (c.markCursor st).Ok := by
  obtain ⟨hlen, -, hlegs⟩ := chainOk_iff_getElem.mp h
  have hlt : c.cursor < c.legs.length := (List.getElem?_eq_some_iff.mp hl).1
  refine chainOk_iff_getElem.mpr ⟨by simpa [Chain.markCursor] using hlen, by simpa [Chain.markCursor] using hlt, ?_⟩
  intro i m hm
  simp only [Chain.markCursor, List.getElem?_modify, Option.map_eq_map, Option.map_eq_some_iff] at hm ⊢
  obtain ⟨n, hn, rfl⟩ := hm
  obtain ⟨hbefore, hafter⟩ := hlegs i n hn
  by_cases hi : c.cursor = i
  · simp only [hi, if_pos]
    exact ⟨fun _ => hst, fun hle => by omega⟩
  · simp only [if_neg hi]
    exact ⟨fun hlt => hbefore (by omega), fun hle => hafter (by omega)⟩

/-- New legs that pass R57's check fit beside those kept. -/
theorem length_le_of_legFail {cap kept i : Nat} {prev : Option Int} {ls : List NewLeg} (hkept : kept ≤ 8)
    (h : legFail cap prev kept i ls = none) : kept + ls.length ≤ 8 := by
  induction ls generalizing prev kept i with
  | nil => exact hkept
  | cons l ls ih =>
    rw [legFail] at h
    split at h
    · rename_i hok
      simp only [newLegOk, Bool.and_eq_true, decide_eq_true_eq] at hok
      have := ih hok.2 h
      rw [List.length_cons]
      omega
    · cases h

/-- CHAIN_LOAD puts PENDING legs after those before the cursor (R57). -/
theorem chainOk_load {v : Session} {ls : List NewLeg} (h : v.chain.Ok) (hfail : chainFail v ls = none) : (v.chain.load ls).Ok := by
  obtain ⟨hlen, hcursor, hbefore, -⟩ := h
  have hkept : v.chain.kept.length = v.chain.cursor := List.length_take_of_le hcursor
  unfold chainFail at hfail
  split at hfail
  · cases hfail
  · have hfit := length_le_of_legFail (by omega) hfail
    have hload := chainOk_append (xs := v.chain.kept)
      (ys := ls.map fun l => { dep := newDeparture l, req := l.req, state := .pending })
    rw [hkept] at hload
    exact hload.mpr ⟨by simpa [hkept] using hfit, hbefore, by simp⟩

theorem legStateOf_eq_pending_iff {n : Nat} : legStateOf n = .pending ↔ n = 0 := by
  unfold legStateOf
  split <;> simp_all

/-- An OFFER in range, brought into the own day and cut at its first leg past 86399 (R147). -/
theorem chainOk_convertChain {o : Offer} (own : Nat) (h : offerFieldsOk o = true) : (convertChain own o).Ok := by
  simp only [offerFieldsOk, Bool.and_eq_true, decide_eq_true_eq, List.all_eq_true] at h
  obtain ⟨⟨⟨⟨⟨-, hlen⟩, -⟩, -⟩, -⟩, hlegs⟩ := h
  unfold convertChain
  dsimp only
  generalize hk : (o.legs.map (convertLeg (dayShift own (statedTime o)))).takeWhile
    (fun l => decide (l.dep ≤ Config.maxDeparture)) = legs
  have hprefix : legs <+: o.legs.map (convertLeg (dayShift own (statedTime o))) := hk ▸ List.takeWhile_prefix _
  have hshort : legs.length ≤ o.legs.length := by simpa using hprefix.length_le
  refine chainOk_iff_getElem.mpr ⟨by simp only; omega, Nat.min_le_right _ _, fun i l hl => ?_⟩
  have hi : i < legs.length := (List.getElem?_eq_some_iff.mp hl).1
  have hraw : (o.legs.map (convertLeg (dayShift own (statedTime o))))[i]? = some l := by
    obtain ⟨rest, hrest⟩ := hprefix
    rw [← hrest, List.getElem?_append_left hi, hl]
  simp only [List.getElem?_map, Option.map_eq_some_iff] at hraw
  obtain ⟨r, hr, rfl⟩ := hraw
  have hok := hlegs (rawLegOk o.cap o.cursor i r) (List.mem_mapIdx.mpr ⟨i, (List.getElem?_eq_some_iff.mp hr).1, by
    rw [(List.getElem?_eq_some_iff.mp hr).2]⟩)
  simp only [id, rawLegOk, Bool.and_eq_true] at hok
  have hstate := hok.2
  constructor
  · intro hlt
    rw [if_pos (lt_of_lt_of_le hlt (Nat.min_le_left _ _))] at hstate
    simp only [decide_eq_true_eq] at hstate
    simp only [convertLeg, ne_eq, legStateOf_eq_pending_iff]
    omega
  · intro hle
    have hle : min o.cursor legs.length ≤ i := hle
    rw [if_neg (by omega)] at hstate
    simp only [decide_eq_true_eq] at hstate
    simp only [convertLeg, legStateOf_eq_pending_iff]
    exact hstate

/-! ## The chains that the station holds -/

/-- The candidate's chain, where a window has a candidate. -/
def bestChain (s : State) : Option Chain := (s.prk.query.bind Query.best).map fun c => c.ctx.chain

theorem chainsOk_iff {s : State} : s.ChainsOk ↔ (∀ c ∈ s.ses.map Session.chain, c.Ok) ∧
    (∀ c ∈ s.prk.entries.map fun e => e.ctx.chain, c.Ok) ∧ ∀ c ∈ bestChain s, c.Ok := by
  cases hses : s.ses <;> cases hquery : s.prk.query <;> simp [State.ChainsOk, bestChain, hses, hquery]

/-- The station holds no chain that it did not hold. -/
structure NoNewChain (s t : State) : Prop where
  session : ∀ c ∈ t.ses.map Session.chain, c ∈ s.ses.map Session.chain
  entries : ∀ c ∈ t.prk.entries.map fun e => e.ctx.chain, c ∈ s.prk.entries.map fun e => e.ctx.chain
  best : ∀ c ∈ bestChain t, c ∈ bestChain s

theorem chainsOk_of_noNewChain {s t : State} (h : s.ChainsOk) (hn : NoNewChain s t) : t.ChainsOk := by
  obtain ⟨hses, hentries, hbest⟩ := chainsOk_iff.mp h
  exact chainsOk_iff.mpr ⟨fun c hc => hses c (hn.session c hc), fun c hc => hentries c (hn.entries c hc),
    fun c hc => hbest c (hn.best c hc)⟩

theorem chainsOk_congr {s t : State} (h : s.ChainsOk) (hses : t.ses = s.ses) (hprk : t.prk = s.prk) : t.ChainsOk := by
  unfold State.ChainsOk
  rwa [hses, hprk]

/-- A change of the session leaves the park table's chains and the candidate's. -/
theorem chainsOk_setSes {s : State} {w : Option Session} (h : s.ChainsOk) (hw : ∀ v ∈ w, v.chain.Ok) : (s.setSes w).ChainsOk :=
  ⟨hw, h.2⟩

theorem chainsOk_modSes {s : State} {f : Session → Session} (h : s.ChainsOk) (hf : ∀ v : Session, v.chain.Ok → (f v).chain.Ok) :
    (s.modSes f).ChainsOk := by
  refine chainsOk_setSes h fun w hw => ?_
  obtain ⟨v, hv, rfl⟩ := Option.map_eq_some_iff.mp hw
  exact hf v (h.1 v hv)

theorem withoutBus_subset (es : List ParkEntry) (bus : Nat) : withoutBus es bus ⊆ es := List.filter_subset_self es

theorem evicted_subset (es : List ParkEntry) : evicted es ⊆ es := by
  unfold evicted
  split
  · exact List.tail_subset es
  · exact List.Subset.refl es

theorem chainsOk_removePark {s : State} (bus : Nat) (h : s.ChainsOk) : (s.removePark bus).ChainsOk := by
  obtain ⟨hses, hentries, hbest⟩ := h
  refine ⟨by simpa using hses, fun e he => ?_, by simpa using hbest⟩
  rw [State.removePark_entries] at he
  exact hentries e (withoutBus_subset _ _ he)

theorem chainsOk_park {s : State} (bus hold : Nat) {x : Context} (h : s.ChainsOk) (hx : x.chain.Ok) :
    (s.park bus hold x).ChainsOk := by
  obtain ⟨hses, hentries, hbest⟩ := h
  refine ⟨by simpa using hses, fun e he => ?_, by simpa using hbest⟩
  rw [State.park_entries, List.mem_append, List.mem_singleton] at he
  obtain he | rfl := he
  · exact hentries e (withoutBus_subset _ _ (evicted_subset _ he))
  · exact hx

/-! ## The operations -/

theorem chainsOk_dayRollover {s : State} (h : s.ChainsOk) : s.dayRollover.ChainsOk := by
  obtain ⟨hses, hentries, hbest⟩ := h
  refine ⟨fun v hv => ?_, fun e he => ?_, fun q hq c hc => ?_⟩
  · simp only [State.dayRollover, State.prkRollover, State.modSes, State.setPrk_ses, State.setSes_ses, State.ptbRollover_frame,
      Option.mem_def, Option.map_eq_some_iff] at hv
    obtain ⟨w, hw, rfl⟩ := hv
    exact chainOk_rolled (hses w hw)
  · simp only [State.dayRollover, State.prkRollover, State.setPrk_prk, State.modSes_frame, State.ptbRollover_frame,
      List.mem_map] at he
    obtain ⟨d, hd, rfl⟩ := he
    exact chainOk_rolled (hentries d hd)
  · simp only [State.dayRollover, State.prkRollover, State.setPrk_prk, State.modSes_frame, State.ptbRollover_frame,
      Option.mem_def, Option.map_eq_some_iff] at hq
    obtain ⟨p, hp, rfl⟩ := hq
    simp only [Option.mem_def, Option.map_eq_some_iff] at hc
    obtain ⟨b, hb, rfl⟩ := hc
    exact chainOk_rolled (hbest p hp b hb)

theorem chainsOk_missLeg {s : State} {v : Session} {now window : Nat} (h : s.ChainsOk) (hv : s.ses = some v)
    (hpast : v.legIsPast now window = true) : (s.missLeg v).ChainsOk := by
  have hchain := h.1 v hv
  unfold Session.legIsPast at hpast
  split at hpast
  · cases hpast
  · rename_i l hl
    refine chainsOk_congr (chainsOk_setSes (w := some { v with chain := v.chain.markCursor .missed }) h ?_)
      (by simp [State.missLeg]) (by simp)
    rintro w ⟨⟩
    exact chainOk_markCursor hchain hl (by decide)

theorem chainsOk_missLegs {s : State} (window fuel : Nat) (h : s.ChainsOk) : (s.missLegs window fuel).ChainsOk := by
  induction fuel generalizing s with
  | zero => exact h
  | succ fuel ih =>
    unfold State.missLegs
    split
    · exact h
    · split
      · exact ih (chainsOk_missLeg h ‹_› ‹_›)
      · exact h

theorem chainsOk_sessionBoundary {s : State} (h : s.ChainsOk) : s.sessionBoundary.ChainsOk := by
  unfold State.sessionBoundary
  split
  · exact h
  · rename_i c _
    have hmissed := chainsOk_missLegs c.window ((s.ses.map fun v => v.chain.legs.length).getD 0) h
    generalize s.missLegs _ _ = u at hmissed
    exact chainsOk_of_noNewChain hmissed ⟨by simp [State.readySession_chain], by simp, by simp [bestChain]⟩

theorem chainsOk_dropSession {s : State} (h : s.ChainsOk) : s.dropSession.ChainsOk :=
  ⟨by simp, by simpa using h.2⟩

theorem chainsOk_endWindow {s : State} (w : WindowFigures) (h : s.ChainsOk) : (s.endWindow w).ChainsOk :=
  ⟨by simpa using h.1, by simpa [State.endWindow] using h.2.1, by simp [State.endWindow]⟩

theorem chainsOk_windowBoundary {s : State} (h : s.ChainsOk) : s.windowBoundary.ChainsOk := by
  unfold State.windowBoundary
  split
  · exact h
  · rename_i q hq
    have hended := chainsOk_endWindow q.closed h
    split
    · split
      · rename_i c hc
        have hrestored := chainsOk_modSes (f := fun v => v.restored c.ctx .restored) hended
          fun _ _ => chainOk_clampTo _ (h.2.2 q hq c hc)
        exact chainsOk_of_noNewChain hrestored
          ⟨by simp [State.closeRestored], by simp [State.closeRestored, State.recordHandover],
            by simp [bestChain, State.closeRestored, State.recordHandover]⟩
      · have hclosed : ∀ x, ((((s.endWindow q.closed).raise .handoverDone).recordHandover x).follow.captureNat
            .plugCold 0).ChainsOk := fun x => chainsOk_of_noNewChain hended
              ⟨by simp, by simp [State.recordHandover], by simp [bestChain, State.recordHandover]⟩
        unfold State.closeCold
        dsimp only
        split
        · exact hclosed _
        · exact chainsOk_dropSession (hclosed _)
    · exact chainsOk_of_noNewChain h ⟨by simp, by simp, by simp [bestChain, hq]⟩

theorem chainsOk_waitsBoundary {s : State} (h : s.ChainsOk) : s.waitsBoundary.ChainsOk :=
  chainsOk_of_noNewChain h ⟨by simp, by simp [State.waitsBoundary_prk, Function.comp_def],
    by simp [bestChain, State.waitsBoundary_prk]⟩

theorem chainsOk_holdsBoundary {s : State} (h : s.ChainsOk) : s.holdsBoundary.ChainsOk := by
  refine chainsOk_of_noNewChain h ⟨by simp, fun c hc => ?_, by simp [bestChain, State.holdsBoundary_prk]⟩
  simp only [State.holdsBoundary_prk, List.map_map, List.mem_map, List.mem_filter] at hc ⊢
  obtain ⟨e, ⟨he, -⟩, rfl⟩ := hc
  exact ⟨e, he, rfl⟩

theorem chainsOk_boundary {s : State} (rollover restart : Bool) (h : s.ChainsOk) : (s.boundary rollover restart).ChainsOk := by
  refine State.boundary_preserves (P := State.ChainsOk) ?clock (fun _ => chainsOk_dayRollover) ?ptb ?lnk ?abandon ?countdown
    (fun _ => chainsOk_sessionBoundary) ?claim ?withdraw (fun _ => chainsOk_windowBoundary) (fun _ => chainsOk_waitsBoundary)
    (fun _ => chainsOk_holdsBoundary) ?choices ?follow rollover restart s h
  all_goals
    intros
    exact chainsOk_congr ‹_› (by simp) (by simp)

/-- MTR alone touches the session at a tick event, and not its chain. -/
theorem chainsOk_tickWork {s : State} (h : s.ChainsOk) : s.tickWork.ChainsOk := by
  refine State.tickWork_preserves (P := State.ChainsOk) ?close (fun s p h => chainsOk_modSes h fun _ hv => hv) ?openx ?bands
    ?send ?watch ?alt ?choices ?follow s h
  all_goals
    intros
    exact chainsOk_congr ‹_› (by simp) (by simp)

theorem chainsOk_tickEvent {s : State} (h : s.ChainsOk) : s.tickEvent.ChainsOk := by
  unfold State.tickEvent
  split
  · exact chainsOk_tickWork (s := s.setClk { s.clk with tick := 0, tickOwed := false }) h
  · split
    · exact chainsOk_tickWork (s := s.setClk { s.clk with tick := s.clk.tick + 1 }) h
    · exact chainsOk_boundary _ _ (chainsOk_tickWork (s := s.advanced) h)

theorem chainsOk_epochBoundary {s : State} (h : s.ChainsOk) : s.epochBoundary.ChainsOk := by
  unfold State.epochBoundary
  split
  · exact chainsOk_boundary _ _ (chainsOk_congr h rfl rfl)
  · exact h

theorem chainsOk_deliverClaim {s : State} (b e : Nat) (c : Claim) (h : s.ChainsOk) : (s.deliverClaim b e c).ChainsOk := by
  have hsync : (s.maxSync b e).ChainsOk := by
    unfold State.maxSync
    dsimp only
    split
    · exact h
    · split
      · exact chainsOk_boundary _ _ (chainsOk_congr h (by simp) (by simp))
      · split
        · exact chainsOk_congr h (by simp) (by simp)
        · exact h
  exact chainsOk_congr hsync (by simp [State.deliverClaim]) (by simp [State.deliverClaim])

theorem chainsOk_takeQuery {s : State} (bus : Nat) (h : s.ChainsOk) : (s.takeQuery bus).ChainsOk := by
  obtain ⟨hses, hentries, hbest⟩ := h
  unfold State.takeQuery
  split
  · exact ⟨hses, hentries, hbest⟩
  · refine ⟨by simpa using hses, fun e he => ?_, by simpa using hbest⟩
    simp only [State.enqueue_frame, State.setPrk_prk, List.mem_map] at he
    obtain ⟨d, hd, rfl⟩ := he
    split
    · exact hentries d hd
    · exact hentries d hd

theorem chainsOk_takeOffer {s : State} (b : Nat) {o : Offer} (ho : offerFieldsOk o = true) (h : s.ChainsOk) :
    (s.takeOffer b o).ChainsOk := by
  obtain ⟨hses, hentries, hbest⟩ := h
  refine ⟨hses, fun e he => ?_, fun q hq c hc => ?_⟩
  · simp only [State.takeOffer, State.setPrk_prk, List.mem_map] at he
    obtain ⟨d, hd, rfl⟩ := he
    split
    · exact hentries d hd
    · exact hentries d hd
  · simp only [State.takeOffer, State.setPrk_prk, Option.mem_def, Option.map_eq_some_iff] at hq
    obtain ⟨p, hp, rfl⟩ := hq
    split at hc
    · simp only [Query.hear] at hc
      split at hc
      · cases hc
        exact chainOk_convertChain _ ho
      · exact hbest p hp c hc
    · exact hbest p hp c hc

theorem chainsOk_takeTaken {s : State} (b bus x : Nat) (h : s.ChainsOk) : (s.takeTaken b bus x).ChainsOk := by
  unfold State.takeTaken
  split
  · exact h
  · split
    · exact chainsOk_congr (chainsOk_removePark bus h) (by simp) (by simp)
    · split
      · exact chainsOk_removePark bus h
      · exact h

theorem chainsOk_plugIn {s : State} (p : PlugFields) (h : s.ChainsOk) : (s.plugIn p).ChainsOk := by
  have hbegun : ((s.setSes (some (s.newSession p))).evalDupBus.rsvSessionBegin).ChainsOk := by
    refine chainsOk_congr (chainsOk_setSes (w := some (s.newSession p)) h ?_) (by simp) (by simp)
    rintro v ⟨⟩
    exact chainOk_empty
  unfold State.plugIn
  dsimp only
  split
  · rename_i e he
    have hctx := hbegun.2.1 e (List.mem_of_find?_eq_some he)
    have hrestored := chainsOk_modSes (f := fun v => v.restored e.ctx .locally) (chainsOk_removePark e.busId hbegun)
      fun _ _ => chainOk_clampTo _ hctx
    exact chainsOk_of_noNewChain hrestored ⟨by simp [State.restoreLocal], by simp [State.restoreLocal, State.recordHandover],
      by simp [bestChain, State.restoreLocal, State.recordHandover]⟩
  · exact chainsOk_of_noNewChain hbegun ⟨by simp, by simp [State.openWindow], by simp [bestChain, State.openWindow]⟩

theorem chainOk_legDone {v : Session} (now window : Nat) (h : v.chain.Ok) : (v.legDone now window).chain.Ok := by
  unfold Session.legDone
  split
  · exact h
  · split
    · exact chainOk_markCursor h ‹_› (by decide)
    · exact h

theorem chainsOk_cancelWindow {s : State} (h : s.ChainsOk) : s.cancelWindow.ChainsOk := by
  unfold State.cancelWindow
  split
  · exact h
  · exact chainsOk_endWindow _ h

theorem chainsOk_unplugNow {s : State} (h : s.ChainsOk) : s.unplugNow.ChainsOk := by
  unfold State.unplugNow
  split
  · exact h
  · rename_i v hv
    have hchain := h.1 v hv
    split
    · unfold State.unplugPending
      dsimp only
      refine chainsOk_dropSession (chainsOk_congr ?_ (by simp; rfl) (by simp))
      split
      · exact chainsOk_cancelWindow h
      · exact chainsOk_park _ _ (chainsOk_cancelWindow h) hchain
    · unfold State.unplugSettled
      have hdone := chainOk_legDone s.clk.epoch s.window hchain
      dsimp only
      refine chainsOk_dropSession (chainsOk_congr (chainsOk_park (v.legDone s.clk.epoch s.window).busId s.holdBoundaries
        (x := (v.legDone s.clk.epoch s.window).context)
        (chainsOk_setSes (w := some (v.legDone s.clk.epoch s.window)) h ?_) hdone) (by simp) (by simp))
      rintro w ⟨⟩
      exact hdone

theorem chainsOk_parkAtReset {s : State} (hold : Nat) (h : s.ChainsOk) : (s.parkAtReset hold).ChainsOk := by
  have hcancelled := chainsOk_cancelWindow h
  unfold State.parkAtReset
  dsimp only
  have hparked : ∀ u : State, u.ChainsOk → ((u.withdrawOffers.setSes none).follow).ChainsOk := fun u hu =>
    chainsOk_of_noNewChain hu ⟨by simp, by simp [State.withdrawOffers, Function.comp_def],
      by simp [bestChain, State.withdrawOffers]⟩
  apply hparked
  split
  · exact hcancelled
  · rename_i v hv
    split
    · exact hcancelled
    · exact chainsOk_park _ _ hcancelled (hcancelled.1 v hv)

theorem chainsOk_exec (i : Instr) (s t : State) (h : s.ChainsOk) (ht : exec i s = .next t) : t.ChainsOk := by
  refine exec_preserves (P := State.ChainsOk) ?port ?choices ?powerOn (fun _ => chainsOk_tickEvent)
    (fun _ => chainsOk_epochBoundary) ?dropped ?own (fun _ b e c _ _ _ _ _ => chainsOk_deliverClaim b e c) ?event
    (fun _ bus _ _ => chainsOk_takeQuery bus) (fun _ b o _ _ _ _ => chainsOk_takeOffer b)
    (fun _ b bus x _ _ => chainsOk_takeTaken b bus x) ?idle ?busy ?drive ?sent ?collided ?complete ?measure ?edge ?configure
    (fun s e _ h => chainsOk_boundary _ _ (chainsOk_congr h rfl rfl)) (fun _ p _ _ _ => chainsOk_plugIn p)
    (fun s a d c h => chainsOk_modSes (s := s) h fun _ hv => hv) ?chain
    (fun _ => chainsOk_unplugNow) ?dispatch ?mark ?close ?release ?counters ?snapshot ?reset i s t h ht
  case powerOn =>
    intro s _
    have hreset : State.reset.ChainsOk := ⟨nofun, nofun, nofun⟩
    exact hreset
  case chain =>
    intro s v ls hv _ hfail h
    refine chainsOk_setSes h fun w hw => ?_
    simp only [hv, Option.map_some, Option.mem_some_iff] at hw
    subst hw
    exact chainOk_load (h.1 v hv) hfail
  case reset =>
    intro s h
    have hblocks : ((s.setPrt { s.prt with flags := 0#20 }).capture .bayReset 0#32 none).resetBlocks.ChainsOk :=
      chainsOk_congr h (by simp) (by simp)
    exact chainsOk_congr (chainsOk_parkAtReset s.holdBoundaries hblocks) (by simp [State.resetBay]) (by simp [State.resetBay])
  all_goals
    intros
    exact chainsOk_congr ‹_› (by simp) (by simp)

/-- Settles O12: each operation on a chain keeps its shape, and the others carry the chains that stand. -/
theorem chainsKept : Obligations.ChainsKept := fun _ _ h ht =>
  Step.step_preserves (fun _ _ h => chainsOk_congr h rfl rfl) chainsOk_exec h ht

end Sys2Proof.Proofs.Chains
end

section
/-!
The accounts (section 6.3): the integrator's law (R104), the battery estimate (R106), and that nothing but MTR moves an account
of a session that goes on.
-/
namespace Sys2Proof.Proofs.Accounts

open Sys2Proof Sys2Proof.Machine

/-! ## The integrator (R104) -/

theorem add_of_inRange {i : Integrator} {x : Int} (h : inInt32 (i.wh + ((i.ws : Int) + x) / 3600) = true) :
    i.add x = { wh := i.wh + ((i.ws : Int) + x) / 3600, ws := (((i.ws : Int) + x) % 3600).toNat } := by
  simp [Integrator.add, h]

theorem add_of_outOfRange {i : Integrator} {x : Int} (h : inInt32 (i.wh + ((i.ws : Int) + x) / 3600) = false) :
    i.add x = i := by
  simp [Integrator.add, h]

/-- Whole counts and residue together take the increment (R104). -/
theorem add_total {i : Integrator} {x : Int} (h : inInt32 (i.wh + ((i.ws : Int) + x) / 3600) = true) :
    (i.add x).wh * 3600 + (i.add x).ws = i.wh * 3600 + i.ws + x ∧ (i.add x).ws < 3600 := by
  rw [add_of_inRange h]
  constructor <;> dsimp only <;> omega

/-- An integrator within its ranges (section 6.3). -/
def InRange (i : Integrator) : Prop := i.ws < 3600 ∧ inInt32 i.wh = true

theorem inRange_zero : InRange zeroIntegrator := ⟨by decide, by decide⟩

theorem inRange_add {i : Integrator} (x : Int) (h : InRange i) : InRange (i.add x) := by
  cases hr : inInt32 (i.wh + ((i.ws : Int) + x) / 3600)
  · rwa [add_of_outOfRange hr]
  · exact ⟨(add_total hr).2, by rw [add_of_inRange hr]; exact hr⟩

/-! ## The battery estimate (R106) -/

theorem energy_eq (v : Session) : (v.energy : Int) = max 0 (min (v.cap : Int) (v.e0 + v.imp.wh - v.exp.wh)) := by
  unfold Session.energy clampInt
  split
  · omega
  · split <;> omega

/-! ## The figures of a session that an epoch boundary carries over -/

/-- The bus, the plug time, the vehicle figures and the accounts of a session. -/
def carried (v : Session) : Nat × Nat × Nat × Bool × Nat × Integrator × Integrator × Integrator :=
  (v.busId, v.plugEpoch, v.pAccept, v.consent, v.dischargeLimit, v.imp, v.exp, v.resp)

/-- A session live in `t` is the one of `s` in these figures. -/
def SameSession (s t : State) : Prop := ∀ w ∈ t.ses, ∃ v ∈ s.ses, carried w = carried v

theorem SameSession.refl (s : State) : SameSession s s := fun w hw => ⟨w, hw, rfl⟩

theorem SameSession.congr {s t u : State} (h : SameSession s t) (hses : u.ses = t.ses) : SameSession s u := by
  unfold SameSession
  rwa [hses]

theorem SameSession.trans {s t u : State} (h : SameSession s t) (h' : SameSession t u) : SameSession s u := by
  intro w hw
  obtain ⟨v, hv, hwv⟩ := h' w hw
  obtain ⟨x, hx, hvx⟩ := h v hv
  exact ⟨x, hx, hwv.trans hvx⟩

theorem SameSession.modSes {s t : State} {f : Session → Session} (h : SameSession s t) (hf : ∀ v, carried (f v) = carried v) :
    SameSession s (t.modSes f) := by
  intro w hw
  obtain ⟨v, hv, rfl⟩ := Option.map_eq_some_iff.mp hw
  obtain ⟨x, hx, hvx⟩ := h v hv
  exact ⟨x, hx, (hf v).trans hvx⟩

theorem SameSession.of_none {s t : State} (h : t.ses = none) : SameSession s t := by
  intro w hw
  rw [h] at hw
  cases hw

theorem SameSession.setSes {s t : State} {v w : Session} (h : SameSession s t) (hv : t.ses = some v) (hw : carried w = carried v) :
    SameSession s (t.setSes (some w)) := by
  rintro _ ⟨⟩
  obtain ⟨x, hx, hvx⟩ := h v hv
  exact ⟨x, hx, hw.trans hvx⟩

theorem SameSession.missLegs {s t : State} (window fuel : Nat) (h : SameSession s t) : SameSession s (t.missLegs window fuel) := by
  induction fuel generalizing t with
  | zero => exact h
  | succ fuel ih =>
    unfold State.missLegs
    split
    · exact h
    · split
      · rename_i v hv _
        exact ih ((h.setSes (w := { v with chain := v.chain.markCursor .missed }) hv rfl).congr (by simp [State.missLeg]))
      · exact h

theorem SameSession.sessionBoundary {s t : State} (h : SameSession s t) : SameSession s t.sessionBoundary := by
  unfold State.sessionBoundary
  split
  · exact h
  · rename_i c _
    have hmissed := h.missLegs c.window ((t.ses.map fun v => v.chain.legs.length).getD 0)
    generalize t.missLegs _ _ = u at hmissed
    unfold State.readySession
    split
    · exact hmissed
    · rename_i v hv
      refine (hmissed.setSes (w := v.readied c u.clk.epoch u.alt.grant u.isPending) hv rfl).congr ?_
      dsimp only
      (repeat' split) <;> simp

theorem SameSession.windowBoundary {s t : State} (h : SameSession s t) : SameSession s t.windowBoundary := by
  unfold State.windowBoundary
  split
  · exact h
  · split
    · split
      · rename_i q _ _ _ c _
        refine ((h.congr (u := t.endWindow q.closed) (by simp)).modSes (f := fun v => v.restored c.ctx .restored)
          fun _ => rfl).congr ?_
        simp [State.closeRestored]
      · unfold State.closeCold
        dsimp only
        split
        · exact h.congr (by simp)
        · exact .of_none (by simp)
    · exact h.congr rfl

/-- An epoch boundary begins no session, and moves none of these figures of the one that goes on. -/
theorem boundary_sameSession (s : State) (rollover restart : Bool) : SameSession s (s.boundary rollover restart) := by
  refine State.boundary_preserves (P := SameSession s) ?clock ?roll ?ptb ?lnk ?abandon ?countdown
    (fun _ => SameSession.sessionBoundary) ?claim ?withdraw (fun _ => SameSession.windowBoundary) ?waits ?holds ?choices ?follow
    rollover restart s (SameSession.refl s)
  case roll =>
    intro t h
    exact (h.modSes (f := fun v => { v with chain := v.chain.rolled }) fun _ => rfl).congr (by simp [State.dayRollover]; rfl)
  all_goals
    intros
    exact SameSession.congr ‹_› (by simp)

/-! ## The accounts -/

theorem accountsOk_iff {s : State} : s.AccountsOk ↔ ∀ v ∈ s.ses, InRange v.imp ∧ InRange v.exp ∧ InRange v.resp := by
  simp [State.AccountsOk, InRange]

theorem accountsOk_congr {s t : State} (h : s.AccountsOk) (hses : t.ses = s.ses) : t.AccountsOk := by
  unfold State.AccountsOk
  rwa [hses]

theorem accountsOk_of_sameSession {s t : State} (h : s.AccountsOk) (hs : SameSession s t) : t.AccountsOk := by
  refine accountsOk_iff.mpr fun w hw => ?_
  obtain ⟨v, hv, hwv⟩ := hs w hw
  have hv := accountsOk_iff.mp h v hv
  simp only [carried, Prod.mk.injEq] at hwv
  obtain ⟨-, -, -, -, -, himp, hexp, hresp⟩ := hwv
  rwa [himp, hexp, hresp]

theorem accountsOk_of_none {s : State} (h : s.ses = none) : s.AccountsOk := by
  intro v hv
  rw [h] at hv
  cases hv

/-- A change of the session that leaves its accounts. -/
theorem accountsOk_modSes {s : State} {f : Session → Session} (h : s.AccountsOk)
    (hf : ∀ v, ((f v).imp, (f v).exp, (f v).resp) = (v.imp, v.exp, v.resp)) : (s.modSes f).AccountsOk := by
  refine accountsOk_iff.mpr fun w hw => ?_
  obtain ⟨v, hv, rfl⟩ := Option.map_eq_some_iff.mp hw
  have hfv := hf v
  simp only [Prod.mk.injEq] at hfv
  obtain ⟨himp, hexp, hresp⟩ := hfv
  rw [himp, hexp, hresp]
  exact accountsOk_iff.mp h v hv

theorem accountsOk_meter {s : State} (p : Int) (h : s.AccountsOk) : (s.meter p).AccountsOk := by
  refine accountsOk_iff.mpr fun w hw => ?_
  obtain ⟨v, hv, rfl⟩ := Option.map_eq_some_iff.mp hw
  obtain ⟨himp, hexp, hresp⟩ := accountsOk_iff.mp h v hv
  exact ⟨inRange_add _ himp, inRange_add _ hexp, inRange_add _ hresp⟩

theorem accountsOk_boundary {s : State} (rollover restart : Bool) (h : s.AccountsOk) :
    (s.boundary rollover restart).AccountsOk := accountsOk_of_sameSession h (boundary_sameSession s _ _)

theorem accountsOk_tickWork {s : State} (h : s.AccountsOk) : s.tickWork.AccountsOk := by
  refine State.tickWork_preserves (P := State.AccountsOk) ?close (fun _ p => accountsOk_meter p) ?openx ?bands ?send ?watch ?alt
    ?choices ?follow s h
  all_goals
    intros
    exact accountsOk_congr ‹_› (by simp)

theorem accountsOk_tickEvent {s : State} (h : s.AccountsOk) : s.tickEvent.AccountsOk := by
  unfold State.tickEvent
  split
  · exact accountsOk_tickWork (s := s.setClk { s.clk with tick := 0, tickOwed := false }) h
  · split
    · exact accountsOk_tickWork (s := s.setClk { s.clk with tick := s.clk.tick + 1 }) h
    · exact accountsOk_boundary _ _ (accountsOk_tickWork (s := s.advanced) h)

theorem accountsOk_epochBoundary {s : State} (h : s.AccountsOk) : s.epochBoundary.AccountsOk := by
  unfold State.epochBoundary
  split
  · exact accountsOk_boundary _ _ (accountsOk_congr h rfl)
  · exact h

theorem accountsOk_deliverClaim {s : State} (b e : Nat) (c : Claim) (h : s.AccountsOk) : (s.deliverClaim b e c).AccountsOk := by
  have hsync : (s.maxSync b e).AccountsOk := by
    unfold State.maxSync
    dsimp only
    split
    · exact h
    · split
      · exact accountsOk_boundary _ _ (accountsOk_congr h (by simp))
      · split
        · exact accountsOk_congr h (by simp)
        · exact h
  exact accountsOk_congr hsync (by simp [State.deliverClaim])

/-- A session starts with empty accounts, whether or not it is restored (R51, R52). -/
theorem accountsOk_plugIn (s : State) (p : PlugFields) : (s.plugIn p).AccountsOk := by
  have hbegun : (s.setSes (some (s.newSession p))).AccountsOk := by
    refine accountsOk_iff.mpr ?_
    rintro v ⟨⟩
    exact ⟨inRange_zero, inRange_zero, inRange_zero⟩
  unfold State.plugIn
  dsimp only
  split
  · rename_i e _
    have hrestored := accountsOk_modSes (f := fun v => v.restored e.ctx .locally) hbegun fun _ => rfl
    exact accountsOk_congr hrestored (by simp [State.restoreLocal, State.modSes])
  · exact accountsOk_congr hbegun (by simp)

theorem accountsOk_unplugNow {s : State} (h : s.AccountsOk) : s.unplugNow.AccountsOk := by
  unfold State.unplugNow
  split
  · exact h
  · split <;> exact accountsOk_of_none (State.dropSession_ses _)

theorem accountsOk_exec (i : Instr) (s t : State) (h : s.AccountsOk) (ht : exec i s = .next t) : t.AccountsOk := by
  refine exec_preserves (P := State.AccountsOk) ?port ?choices (fun _ _ => accountsOk_of_none rfl)
    (fun _ => accountsOk_tickEvent) (fun _ => accountsOk_epochBoundary) ?dropped ?own
    (fun _ b e c _ _ _ _ _ => accountsOk_deliverClaim b e c) ?event ?query ?offer ?taken ?idle ?busy ?drive ?sent ?collided
    ?complete ?measure ?edge ?configure (fun s e _ h => accountsOk_boundary _ _ (accountsOk_congr h rfl))
    (fun s p _ _ _ _ => accountsOk_plugIn s p) (fun s a d c h => accountsOk_modSes (s := s) h fun _ => rfl)
    (fun s v ls _ _ _ h => accountsOk_modSes h fun _ => rfl) (fun _ => accountsOk_unplugNow) ?dispatch ?mark ?close ?release
    ?counters ?snapshot ?reset i s t h ht
  case reset => intro s _; exact accountsOk_of_none (by simp [State.resetBay, State.parkAtReset])
  all_goals
    intros
    exact accountsOk_congr ‹_› (by simp)

/-- Settles O13: the integrator's law, the accounts that only MTR moves, and the battery estimate from them. -/
theorem accountsAddUpAndStayInRange : Obligations.AccountsAddUpAndStayInRange := by
  refine ⟨fun i x _ => ⟨add_total, add_of_outOfRange⟩, fun s t h ht => ?_, energy_eq, fun s => ⟨fun h => ?_, fun v h => ?_⟩⟩
  · exact Step.step_preserves (fun _ _ h => accountsOk_congr h rfl) accountsOk_exec h ht
  · simp [State.energy, h]
  · simp [State.energy, h]

end Sys2Proof.Proofs.Accounts
end

section
/-!
The park table (R142, R146): entries come by parking alone, which makes room first; a bus is either live or parked; a window is
open for a live session only.
-/
namespace Sys2Proof.Proofs.ParkTable

open Sys2Proof Sys2Proof.Machine

/-- The buses of park entries, in parking order. -/
def buses (es : List ParkEntry) : List Nat := es.map ParkEntry.busId

/-- The live session's bus, where there is one. -/
def liveBus? (s : State) : Option Nat := s.ses.map Session.busId

theorem mem_buses_iff {es : List ParkEntry} {bus : Nat} : bus ∈ buses es ↔ ∃ e ∈ es, e.busId = bus := by simp [buses]

/-! ## The table alone -/

/-- At most 4 entries, at most one for each bus (R142). -/
structure TableOk (es : List ParkEntry) : Prop where
  length : (buses es).length ≤ 4
  nodup : (buses es).Nodup

theorem TableOk.sublist {es ds : List ParkEntry} (h : TableOk es) (hs : (buses ds).Sublist (buses es)) : TableOk ds :=
  ⟨hs.length_le.trans h.length, h.nodup.sublist hs⟩

theorem buses_withoutBus_sublist (es : List ParkEntry) (bus : Nat) : (buses (withoutBus es bus)).Sublist (buses es) :=
  (List.filter_sublist).map _

theorem notMem_buses_withoutBus (es : List ParkEntry) (bus : Nat) : bus ∉ buses (withoutBus es bus) := by
  simp [buses, withoutBus]

theorem evicted_sublist (es : List ParkEntry) : (evicted es).Sublist es := by
  unfold evicted
  split
  · exact List.tail_sublist es
  · exact List.Sublist.refl es

/-- Eviction leaves room for one entry (R142). -/
theorem length_evicted_le {es : List ParkEntry} (h : es.length ≤ 4) : (evicted es).length ≤ 3 := by
  unfold evicted
  split
  · rw [List.length_tail]
    omega
  · omega

theorem tableOk_removePark {s : State} (bus : Nat) (h : TableOk s.prk.entries) : TableOk (s.removePark bus).prk.entries := by
  rw [State.removePark_entries]
  exact h.sublist (buses_withoutBus_sublist _ _)

/-- Parking replaces the bus's own entry, and otherwise makes room by evicting the oldest (R141, R142). -/
theorem tableOk_park {s : State} (bus hold : Nat) (x : Context) (h : TableOk s.prk.entries) :
    TableOk (s.park bus hold x).prk.entries := by
  have hothers : TableOk (withoutBus s.prk.entries bus) := h.sublist (buses_withoutBus_sublist _ _)
  have hsub : (buses (evicted (withoutBus s.prk.entries bus))).Sublist (buses (withoutBus s.prk.entries bus)) :=
    (evicted_sublist _).map _
  have hroom := length_evicted_le (es := withoutBus s.prk.entries bus) (by simpa [buses] using hothers.length)
  rw [State.park_entries]
  constructor
  · simp only [buses, List.map_append, List.length_append, List.length_map, List.map_cons, List.map_nil, List.length_singleton]
    omega
  · simp only [buses, List.map_append, List.map_cons, List.map_nil, List.nodup_append, List.mem_singleton]
    refine ⟨hothers.nodup.sublist hsub, List.nodup_singleton _, ?_⟩
    rintro a ha b rfl rfl
    exact notMem_buses_withoutBus _ _ (hsub.subset ha)

/-! ## The table beside the live session -/

theorem parkOk_iff {s : State} : s.ParkOk ↔ TableOk s.prk.entries ∧ (∀ b ∈ liveBus? s, b ∉ buses s.prk.entries) ∧
    (liveBus? s = none → s.prk.query.isSome = false) := by
  constructor
  · rintro ⟨hlength, hnodup, hlive, hquery⟩
    refine ⟨⟨by simpa [buses] using hlength, hnodup⟩, fun b hb he => ?_, fun hnone => ?_⟩
    · obtain ⟨v, hv, rfl⟩ := Option.map_eq_some_iff.mp hb
      obtain ⟨e, he, hbus⟩ := mem_buses_iff.mp he
      exact hlive v hv e he hbus
    · simp [hquery (by simpa [liveBus?] using hnone)]
  · rintro ⟨⟨hlength, hnodup⟩, hlive, hquery⟩
    refine ⟨by simpa [buses] using hlength, hnodup, fun v hv e he hbus => ?_, fun hnone => ?_⟩
    · exact hlive v.busId (Option.mem_map.mpr ⟨v, hv, rfl⟩) (mem_buses_iff.mpr ⟨e, he, hbus⟩)
    · simpa using hquery (by simp [liveBus?, hnone])

/-- The invariant reads the buses of the entries, the live bus and whether a window is open; entries may go. -/
theorem parkOk_of_sublist {s t : State} (h : s.ParkOk) (hbuses : (buses t.prk.entries).Sublist (buses s.prk.entries))
    (hlive : liveBus? t = liveBus? s) (hquery : t.prk.query.isSome = true → s.prk.query.isSome = true) : t.ParkOk := by
  obtain ⟨htable, hfree, hwindow⟩ := parkOk_iff.mp h
  refine parkOk_iff.mpr ⟨htable.sublist hbuses, fun b hb he => ?_, fun hnone => ?_⟩
  · exact hfree b (hlive ▸ hb) (hbuses.subset he)
  · have hclosed := hwindow (hlive ▸ hnone)
    cases hq : t.prk.query.isSome
    · rfl
    · exact absurd (hquery hq) (by simp [hclosed])

theorem parkOk_congr {s t : State} (h : s.ParkOk) (hses : t.ses = s.ses) (hprk : t.prk = s.prk) : t.ParkOk := by
  unfold State.ParkOk
  rwa [hses, hprk]

theorem parkOk_noSession {s : State} (htable : TableOk s.prk.entries) (hses : s.ses = none) (hquery : s.prk.query = none) :
    s.ParkOk :=
  parkOk_iff.mpr ⟨htable, by simp [liveBus?, hses], fun _ => by simp [hquery]⟩

/-! ## The operations -/

theorem rolled_busId (e : ParkEntry) : e.rolled.busId = e.busId := rfl

theorem buses_map {f : ParkEntry → ParkEntry} (hf : ∀ e, (f e).busId = e.busId) (es : List ParkEntry) :
    buses (es.map f) = buses es := by
  simp [buses, Function.comp_def, hf]

theorem liveBus_missLegs (s : State) (window fuel : Nat) : liveBus? (s.missLegs window fuel) = liveBus? s := by
  induction fuel generalizing s with
  | zero => rfl
  | succ fuel ih =>
    unfold State.missLegs
    split
    · rfl
    · split
      · rename_i v hv _
        rw [ih]
        simp [liveBus?, State.missLeg, hv]
      · rfl

theorem liveBus_readySession (s : State) (c : ConfigRecord) : liveBus? (s.readySession c) = liveBus? s := by
  unfold State.readySession liveBus?
  split
  · rfl
  · rename_i v hv
    dsimp only
    (repeat' split) <;> simp [hv, Session.readied]

theorem liveBus_sessionBoundary (s : State) : liveBus? s.sessionBoundary = liveBus? s := by
  unfold State.sessionBoundary
  split
  · rfl
  · rw [liveBus_readySession, liveBus_missLegs]

theorem parkOk_windowBoundary {s : State} (h : s.ParkOk) : s.windowBoundary.ParkOk := by
  have htable := (parkOk_iff.mp h).1
  unfold State.windowBoundary
  split
  · exact h
  · rename_i q hq
    split
    · split
      · refine parkOk_of_sublist h ?_ ?_ (by simp [hq])
        · simp [State.closeRestored, State.recordHandover, State.endWindow]
        · simp [liveBus?, State.closeRestored, State.modSes, Session.restored, Function.comp_def]
      · unfold State.closeCold
        dsimp only
        split
        · exact parkOk_of_sublist h (by simp [State.recordHandover, State.endWindow]) (by simp [liveBus?]) (by simp [hq])
        · refine parkOk_noSession ?_ (State.dropSession_ses _) (by simp [State.recordHandover, State.endWindow])
          simpa [State.recordHandover, State.endWindow] using htable
    · exact parkOk_of_sublist h (by simp) (by simp [liveBus?]) (by simp [hq])

theorem parkOk_dayRollover {s : State} (h : s.ParkOk) : s.dayRollover.ParkOk := by
  refine parkOk_of_sublist h ?_ ?_ ?_
  · simp [State.dayRollover, State.prkRollover, buses_map rolled_busId]
  · simp [liveBus?, State.dayRollover, State.modSes, Function.comp_def]
  · simp [State.dayRollover, State.prkRollover]

theorem parkOk_waitsBoundary {s : State} (h : s.ParkOk) : s.waitsBoundary.ParkOk :=
  parkOk_of_sublist h (by simp [State.waitsBoundary_prk, buses_map ParkEntry.waited_busId]) (by simp [liveBus?])
    (by simp [State.waitsBoundary_prk])

theorem parkOk_holdsBoundary {s : State} (h : s.ParkOk) : s.holdsBoundary.ParkOk := by
  refine parkOk_of_sublist h ?_ (by simp [liveBus?]) (by simp [State.holdsBoundary_prk])
  rw [State.holdsBoundary_prk]
  dsimp only
  rw [buses_map (f := fun e => { e with hold := e.hold - 1 }) fun _ => rfl]
  exact (List.filter_sublist).map _

theorem parkOk_boundary {s : State} (rollover restart : Bool) (h : s.ParkOk) : (s.boundary rollover restart).ParkOk := by
  refine State.boundary_preserves (P := State.ParkOk) ?clock (fun _ => parkOk_dayRollover) ?ptb ?lnk ?abandon ?countdown
    (fun s h => parkOk_of_sublist h (by simp) (liveBus_sessionBoundary s) (by simp)) ?claim ?withdraw
    (fun _ => parkOk_windowBoundary) (fun _ => parkOk_waitsBoundary) (fun _ => parkOk_holdsBoundary) ?choices ?follow
    rollover restart s h
  all_goals
    intros
    exact parkOk_congr ‹_› (by simp) (by simp)

theorem parkOk_modSes {s : State} {f : Session → Session} (hf : ∀ v, (f v).busId = v.busId) (h : s.ParkOk) :
    (s.modSes f).ParkOk :=
  parkOk_of_sublist h (by simp) (by simp [liveBus?, State.modSes, Function.comp_def, hf]) (by simp)

theorem parkOk_tickWork {s : State} (h : s.ParkOk) : s.tickWork.ParkOk := by
  refine State.tickWork_preserves (P := State.ParkOk) ?close (fun _ p h => parkOk_modSes (fun _ => rfl) h) ?openx ?bands ?send
    ?watch ?alt ?choices ?follow s h
  all_goals
    intros
    exact parkOk_congr ‹_› (by simp) (by simp)

theorem parkOk_tickEvent {s : State} (h : s.ParkOk) : s.tickEvent.ParkOk := by
  unfold State.tickEvent
  split
  · exact parkOk_tickWork (s := s.setClk { s.clk with tick := 0, tickOwed := false }) h
  · split
    · exact parkOk_tickWork (s := s.setClk { s.clk with tick := s.clk.tick + 1 }) h
    · exact parkOk_boundary _ _ (parkOk_tickWork (s := s.advanced) h)

theorem parkOk_epochBoundary {s : State} (h : s.ParkOk) : s.epochBoundary.ParkOk := by
  unfold State.epochBoundary
  split
  · exact parkOk_boundary _ _ (parkOk_congr h rfl rfl)
  · exact h

theorem parkOk_deliverClaim {s : State} (b e : Nat) (c : Claim) (h : s.ParkOk) : (s.deliverClaim b e c).ParkOk := by
  have hsync : (s.maxSync b e).ParkOk := by
    unfold State.maxSync
    dsimp only
    split
    · exact h
    · split
      · exact parkOk_boundary _ _ (parkOk_congr h (by simp) (by simp))
      · split
        · exact parkOk_congr h (by simp) (by simp)
        · exact h
  exact parkOk_congr hsync (by simp [State.deliverClaim]) (by simp [State.deliverClaim])

theorem parkOk_takeQuery {s : State} (bus : Nat) (h : s.ParkOk) : (s.takeQuery bus).ParkOk := by
  unfold State.takeQuery
  split
  · exact h
  · refine parkOk_of_sublist h ?_ (by simp [liveBus?]) (by simp)
    simp only [State.enqueue_frame, State.setPrk_prk]
    rw [buses_map fun e => by split <;> rfl]

theorem parkOk_takeOffer {s : State} (b : Nat) (o : Offer) (h : s.ParkOk) : (s.takeOffer b o).ParkOk := by
  refine parkOk_of_sublist h ?_ (by simp [liveBus?]) (by simp [State.takeOffer])
  simp only [State.takeOffer, State.setPrk_prk]
  rw [buses_map fun e => by split <;> rfl]

theorem parkOk_removePark {s : State} (bus : Nat) (h : s.ParkOk) : (s.removePark bus).ParkOk := by
  refine parkOk_of_sublist h ?_ (by simp [liveBus?]) (by simp)
  rw [State.removePark_entries]
  exact buses_withoutBus_sublist _ _

theorem parkOk_takeTaken {s : State} (b bus x : Nat) (h : s.ParkOk) : (s.takeTaken b bus x).ParkOk := by
  unfold State.takeTaken
  split
  · exact h
  · split
    · exact parkOk_congr (parkOk_removePark bus h) (by simp) (by simp)
    · split
      · exact parkOk_removePark bus h
      · exact h

/-- A bus that a new session takes leaves the park table, or was not in it (R52, R145). -/
theorem parkOk_plugIn {s : State} (p : PlugFields) (hnone : s.ses = none) (h : s.ParkOk) : (s.plugIn p).ParkOk := by
  obtain ⟨htable, -, hquery⟩ := parkOk_iff.mp h
  have hquery : s.prk.query = none := by simpa using hquery (by simp [liveBus?, hnone])
  unfold State.plugIn
  dsimp only
  split
  · rename_i e he
    have hbus : e.busId = p.busId := by simpa using List.find?_some he
    refine parkOk_iff.mpr ⟨?_, fun b hb => ?_, fun hn => ?_⟩
    · have hbegun : TableOk (s.setSes (some (s.newSession p))).evalDupBus.rsvSessionBegin.prk.entries := by simpa using htable
      simpa [State.restoreLocal, State.recordHandover] using tableOk_removePark e.busId hbegun
    · obtain rfl : p.busId = b := by
        simpa [liveBus?, State.restoreLocal, State.modSes, Session.restored, State.newSession] using hb
      rw [← hbus]
      simpa [State.restoreLocal, State.recordHandover, State.removePark_entries] using notMem_buses_withoutBus _ _
    · simp [liveBus?, State.restoreLocal, State.modSes] at hn
  · rename_i he
    refine parkOk_iff.mpr ⟨by simpa [State.openWindow] using htable, fun b hb => ?_, fun hn => ?_⟩
    · obtain rfl : p.busId = b := by simpa [liveBus?, State.newSession] using hb
      simpa [Prk.entryOf, buses, State.openWindow] using he
    · simp [liveBus?] at hn

theorem cancelWindow_query (s : State) : s.cancelWindow.prk.query = none := by
  unfold State.cancelWindow
  split
  · assumption
  · simp [State.endWindow]

theorem cancelWindow_entries (s : State) : s.cancelWindow.prk.entries = s.prk.entries := by
  unfold State.cancelWindow
  split
  · rfl
  · simp [State.endWindow]

theorem parkOk_unplugNow {s : State} (h : s.ParkOk) : s.unplugNow.ParkOk := by
  have htable := (parkOk_iff.mp h).1
  unfold State.unplugNow
  split
  · exact h
  · rename_i v hv
    split
    · unfold State.unplugPending
      dsimp only
      have hcancelled : TableOk s.cancelWindow.prk.entries := by rwa [cancelWindow_entries]
      split
      · exact parkOk_noSession (by simpa using hcancelled) (State.dropSession_ses _) (by simp [cancelWindow_query])
      · exact parkOk_noSession (by simpa using tableOk_park _ _ _ hcancelled) (State.dropSession_ses _)
          (by simp [cancelWindow_query])
    · rename_i hsettled
      have hquery : s.prk.query = none := by simpa [State.isPending, hv] using hsettled
      unfold State.unplugSettled
      dsimp only
      exact parkOk_noSession
        (by simpa using tableOk_park (s := s.setSes (some (v.legDone s.clk.epoch s.window))) _ _ _ htable) (State.dropSession_ses _) (by simp [hquery])

theorem parkOk_parkAtReset {s : State} (hold : Nat) (h : TableOk s.prk.entries) : (s.parkAtReset hold).ParkOk := by
  have hcancelled : TableOk s.cancelWindow.prk.entries := by rwa [cancelWindow_entries]
  have hwithdrawn : ∀ u : State, TableOk u.prk.entries → u.prk.query = none →
      ((u.withdrawOffers.setSes none).follow).ParkOk := by
    intro u hu hq
    refine parkOk_noSession ?_ (by simp) (by simpa [State.withdrawOffers] using hq)
    refine hu.sublist ?_
    simp only [State.withdrawOffers, State.follow_frame, State.setSes_prk, State.setPrk_prk]
    rw [buses_map (f := fun e => { e with offered := none }) fun _ => rfl]
  unfold State.parkAtReset
  dsimp only
  apply hwithdrawn
  · split
    · exact hcancelled
    · split
      · exact hcancelled
      · exact tableOk_park _ _ _ hcancelled
  · (repeat' split) <;> simp [cancelWindow_query]

theorem parkOk_exec (i : Instr) (s t : State) (h : s.ParkOk) (ht : exec i s = .next t) : t.ParkOk := by
  refine exec_preserves (P := State.ParkOk) ?port ?choices ?powerOn (fun _ => parkOk_tickEvent) (fun _ => parkOk_epochBoundary)
    ?dropped ?own (fun _ b e c _ _ _ _ _ => parkOk_deliverClaim b e c) ?event (fun _ bus _ _ => parkOk_takeQuery bus)
    (fun _ b o _ _ _ _ _ => parkOk_takeOffer b o) (fun _ b bus x _ _ => parkOk_takeTaken b bus x) ?idle ?busy ?drive ?sent
    ?collided ?complete ?measure ?edge ?configure (fun s e _ h => parkOk_boundary _ _ (parkOk_congr h rfl rfl))
    (fun _ p _ hnone _ => parkOk_plugIn p hnone) (fun s a d c h => parkOk_modSes (s := s) (fun _ => rfl) h)
    (fun s v ls _ _ _ h => parkOk_modSes (fun _ => rfl) h) (fun _ => parkOk_unplugNow) ?dispatch ?mark ?close ?release ?counters
    ?snapshot ?reset i s t h ht
  case powerOn =>
    intro s _
    have hreset : State.reset.ParkOk := by decide
    exact hreset
  case reset =>
    intro s h
    have hblocks : TableOk ((s.setPrt { s.prt with flags := 0#20 }).capture .bayReset 0#32 none).resetBlocks.prk.entries := by
      simpa using (parkOk_iff.mp h).1
    exact parkOk_congr (parkOk_parkAtReset s.holdBoundaries hblocks) (by simp [State.resetBay]) (by simp [State.resetBay])
  all_goals
    intros
    exact parkOk_congr ‹_› (by simp) (by simp)

/-- Settles O10: parking makes room and replaces, a new session's bus leaves the table, and a window ends with its session. -/
theorem parkTableKept : Obligations.ParkTableKept := fun _ _ h ht =>
  Step.step_preserves (fun _ _ h => parkOk_congr h rfl rfl) parkOk_exec h ht

end Sys2Proof.Proofs.ParkTable
end

section
/-!
The transmit queue and the station state (sections 2.3 and 2.5, R91): what LNK's operations do to the queue and the access, and
what the station state says of the own grant and a computation.
-/
namespace Sys2Proof.Proofs.Station

open Sys2Proof Sys2Proof.Machine

/-! ## The queue (R20, R21, R26) -/

/-- The places of queued frames. -/
def keys (q : List QEntry) : List FrameKey := q.map fun e => keyOf e.frame

theorem hasKey_iff {k : FrameKey} {e : QEntry} : e.hasKey k = true ↔ keyOf e.frame = k := by simp [QEntry.hasKey]

theorem any_hasKey_iff {k : FrameKey} {q : List QEntry} : q.any (QEntry.hasKey k) = true ↔ k ∈ keys q := by
  simp [keys, hasKey_iff]

theorem keys_removeAt_sublist (q : List QEntry) (k : FrameKey) : (keys (removeAt q k)).Sublist (keys q) :=
  (List.filter_sublist).map _

/-- A frame put in the place of its own keeps the places. -/
theorem keys_replaceAt (q : List QEntry) (f : Frame) : keys (replaceAt q (keyOf f) f) = keys q := by
  simp only [keys, replaceAt, List.map_map, List.map_inj_left, Function.comp_apply]
  intro e _
  split
  · rename_i h
    exact (hasKey_iff.mp h).symm
  · rfl

/-- Which queues a station may hold: one frame for each place, attempt counts within 0..12, nothing while UNCONFIGURED, and no
CLAIM outside ACTIVE and ISOLATED. -/
structure QueueFits (st : Station) (q : List QEntry) : Prop where
  nodup : (keys q).Nodup
  attempts : ∀ e ∈ q, e.attempts ≤ 12
  empty : st = .unconfigured → q = []
  noClaim : st = .unconfigured ∨ st = .listening → .claim ∉ keys q

theorem QueueFits.nil (st : Station) : QueueFits st [] :=
  ⟨List.nodup_nil, by simp, fun _ => rfl, fun _ => by simp [keys]⟩

/-- Entries that go, or that change but for their places and with attempt counts in range. -/
theorem QueueFits.sublist {st : Station} {q r : List QEntry} (h : QueueFits st q) (hkeys : (keys r).Sublist (keys q))
    (hattempts : ∀ e ∈ r, e.attempts ≤ 12) : QueueFits st r where
  nodup := h.nodup.sublist hkeys
  attempts := hattempts
  empty hst := by
    have hnil : keys r = [] := by simpa [h.empty hst, keys] using hkeys
    simpa [keys] using hnil
  noClaim hst hmem := h.noClaim hst (hkeys.subset hmem)

theorem QueueFits.removeAt {st : Station} {q : List QEntry} (h : QueueFits st q) (k : FrameKey) : QueueFits st (removeAt q k) :=
  h.sublist (keys_removeAt_sublist q k) fun e he => h.attempts e (List.mem_of_mem_filter he)

theorem QueueFits.replaceAt {st : Station} {q : List QEntry} (h : QueueFits st q) (f : Frame) :
    QueueFits st (replaceAt q (keyOf f) f) := by
  refine h.sublist (by rw [keys_replaceAt]) fun e he => ?_
  obtain ⟨d, hd, rfl⟩ := List.mem_map.mp he
  split
  · exact Nat.zero_le _
  · exact h.attempts d hd

theorem QueueFits.append {st : Station} {q : List QEntry} (h : QueueFits st q) {f : Frame} (hst : st ≠ .unconfigured)
    (hnew : keyOf f ∉ keys q) (hclaim : st = .listening → keyOf f ≠ .claim) : QueueFits st (q ++ [freshEntry f]) where
  nodup := by
    simp only [keys, List.map_append, List.map_cons, List.map_nil, List.nodup_append, List.mem_singleton]
    refine ⟨h.nodup, List.nodup_singleton _, ?_⟩
    rintro a ha b rfl rfl
    exact hnew ha
  attempts e he := by
    rcases List.mem_append.mp he with he | he
    · exact h.attempts e he
    · rw [List.mem_singleton.mp he]
      exact Nat.zero_le _
  empty hu := absurd hu hst
  noClaim hu hmem := by
    have hl : st = .listening := hu.resolve_left hst
    simp only [keys, List.map_append, List.mem_append, List.map_cons, List.map_nil, List.mem_singleton] at hmem
    exact hmem.elim (h.noClaim hu) fun hc => hclaim hl hc.symm

theorem QueueFits.mapSameKey {st : Station} {q : List QEntry} (h : QueueFits st q) {f : QEntry → QEntry}
    (hkey : ∀ e, (f e).frame = e.frame) (hattempts : ∀ e, e.attempts ≤ 12 → (f e).attempts ≤ 12) : QueueFits st (q.map f) := by
  refine h.sublist (by simp [keys, Function.comp_def, hkey]) fun e he => ?_
  obtain ⟨d, hd, rfl⟩ := List.mem_map.mp he
  exact hattempts d (h.attempts d hd)

theorem QueueFits.afterSent {st : Station} {q : List QEntry} (h : QueueFits st q) {k : FrameKey} {bytes : List Byte}
    {held : Option Held} (hheld : (Access.sending k bytes held).heldFits = true) : QueueFits st (queueAfterSent q k held) := by
  unfold queueAfterSent
  split
  · rename_i f
    obtain rfl : keyOf f = k := by simpa [Access.heldFits] using hheld
    exact h.replaceAt f
  · exact h.removeAt k

theorem QueueFits.afterCollision {st : Station} {q : List QEntry} (h : QueueFits st q) {k : FrameKey} {bytes : List Byte}
    {held : Option Held} (hheld : (Access.sending k bytes held).heldFits = true) :
    QueueFits st (queueAfterCollision q k held) := by
  unfold queueAfterCollision
  split
  · rename_i f
    obtain rfl : keyOf f = k := by simpa [Access.heldFits] using hheld
    exact h.replaceAt f
  · exact h.removeAt k
  · refine h.mapSameKey (fun e => ?_) fun e he => ?_
    · split <;> rfl
    · split
      · exact Nat.min_le_left _ _
      · exact he

/-! ## The access (R24, R25) -/

/-- Which access states a station may be in: what is held back is of the place being driven (R21), and no CLAIM is driven outside
ACTIVE and ISOLATED. -/
structure AccessFits (st : Station) (a : Access) : Prop where
  held : a.heldFits = true
  noClaim : st = .unconfigured ∨ st = .listening → a.drives .claim = false

theorem AccessFits.of_not_sending {st : Station} {a : Access} (h : a.isSending = false) : AccessFits st a := by
  cases a
  case sending => cases h
  all_goals exact ⟨rfl, fun _ => rfl⟩

theorem accessChosen_not_sending (l : Lnk) (bay : Nat) : (accessChosen l bay).isSending = false := by
  unfold accessChosen
  split
  · rfl
  · split <;> rfl

/-! ## LNK -/

/-- What section 2.5 says of LNK alone. -/
structure LinkOk (l : Lnk) : Prop where
  streak : l.streak ≤ 8
  active : l.station = .active → l.dupBay = false ∧ l.streak < 8
  listening : l.station = .listening → 1 ≤ l.listening ∧ l.listening ≤ 3
  idle : l.station = .unconfigured ∨ l.station = .listening → l.streak = 0
  queue : QueueFits l.station l.queue
  access : AccessFits l.station l.access

/-- What it says of the own grant and a computation (R74, R91, R93). -/
structure GrantOk (s : State) : Prop where
  idle : s.lnk.station = .unconfigured ∨ s.lnk.station = .listening → s.alt.grant = 0 ∧ s.alt.flight = none
  isolated : s.lnk.station = .isolated → s.alt.grant ≤ s.fairShare

/-- The two invariants together. -/
structure StationFits (s : State) : Prop where
  link : LinkOk s.lnk
  grant : GrantOk s

theorem isClaiming_eq_false_iff {s : State} :
    s.isClaiming = false ↔ s.lnk.station = .unconfigured ∨ s.lnk.station = .listening := by
  unfold State.isClaiming
  cases s.lnk.station <;> simp

theorem stationFits_iff {s : State} : StationFits s ↔ s.StationOk ∧ s.QueueOk := by
  unfold State.StationOk State.QueueOk
  rw [isClaiming_eq_false_iff]
  constructor
  · rintro ⟨⟨hstreak, hactive, hlistening, hidle, hqueue, haccess⟩, hgrant⟩
    refine ⟨⟨hstreak, hactive, hqueue.empty, hlistening, fun h => ⟨(hgrant.idle h).1, (hgrant.idle h).2, hidle h,
      haccess.noClaim h, fun e he hc => hqueue.noClaim h ?_⟩, hgrant.isolated⟩, hqueue.nodup, hqueue.attempts, haccess.held⟩
    exact List.mem_map.mpr ⟨e, he, hc⟩
  · rintro ⟨⟨hstreak, hactive, hempty, hlistening, hidle, hisolated⟩, hnodup, hattempts, hheld⟩
    refine ⟨⟨hstreak, hactive, hlistening, fun h => (hidle h).2.2.1, ⟨hnodup, hattempts, hempty, fun h hc => ?_⟩,
      ⟨hheld, fun h => (hidle h).2.2.2.1⟩⟩, ⟨fun h => ⟨(hidle h).1, (hidle h).2.1⟩, hisolated⟩⟩
    obtain ⟨e, he, hk⟩ := List.mem_map.mp hc
    exact (hidle h).2.2.2.2 e he hk

/-- A new queue and access for the same station. -/
theorem LinkOk.withQueue {l : Lnk} (h : LinkOk l) {q : List QEntry} {a : Access} (hq : QueueFits l.station q)
    (ha : AccessFits l.station a) : LinkOk { l with queue := q, access := a } :=
  ⟨h.streak, h.active, h.listening, h.idle, hq, ha⟩

theorem LinkOk.rechoose {s : State} (h : LinkOk s.lnk) : LinkOk s.rechoose.lnk := by
  unfold State.rechoose
  split
  · exact h
  · exact h.withQueue h.queue (.of_not_sending (accessChosen_not_sending _ _))

theorem LinkOk.queueChanged {s : State} (k : FrameKey) (h : LinkOk s.lnk) : LinkOk (s.queueChanged k).lnk := by
  unfold State.queueChanged
  split
  · split
    · exact h.rechoose
    · exact h
  · exact h.rechoose

/-- A block other than SES hands over no CLAIM, and SES only in ACTIVE and ISOLATED. -/
theorem LinkOk.enqueue {s : State} (f : Frame) (hclaim : s.lnk.station = .listening → keyOf f ≠ .claim) (h : LinkOk s.lnk) :
    LinkOk (s.enqueue f).lnk := by
  unfold State.enqueue
  dsimp only
  split
  · exact h
  · rename_i hst
    have hfresh : s.lnk.queue.any (QEntry.hasKey (keyOf f)) ≠ true →
        QueueFits s.lnk.station (s.lnk.queue ++ [freshEntry f]) := fun hnew =>
      h.queue.append hst (fun hmem => hnew (any_hasKey_iff.mpr hmem)) hclaim
    split
    · rename_i k bytes held hsending
      split
      · rename_i hk
        refine h.withQueue h.queue ⟨by simp [Access.heldFits, hk], fun hidle => ?_⟩
        have := h.access.noClaim hidle
        rwa [hsending] at this
      · split
        · exact h.withQueue (h.queue.replaceAt f) h.access
        · exact h.withQueue (hfresh ‹_›) (hsending ▸ h.access)
    · split
      · exact LinkOk.queueChanged _ (h.withQueue (h.queue.replaceAt f) h.access)
      · exact LinkOk.queueChanged _ (h.withQueue (hfresh ‹_›) h.access)

theorem LinkOk.dequeue {s : State} (k : FrameKey) (h : LinkOk s.lnk) : LinkOk (s.dequeue k).lnk := by
  unfold State.dequeue
  split
  · rename_i k' bytes held hsending
    split
    · refine h.withQueue h.queue ⟨rfl, fun hidle => ?_⟩
      have := h.access.noClaim hidle
      rwa [hsending] at this
    · exact h.withQueue (h.queue.removeAt k) h.access
  · exact LinkOk.queueChanged _ (h.withQueue (h.queue.removeAt k) h.access)

/-! ## What leaves the station, the grant and the limits alone -/

theorem fairShare_congr {s t : State} (hentries : t.ptb.entries = s.ptb.entries) (hcfg : t.cfg = s.cfg) :
    t.fairShare = s.fairShare := by
  simp [State.fairShare, State.lEff, State.bayCount, State.ownService, hentries, hcfg]

theorem GrantOk.congr {s t : State} (h : GrantOk s) (hstation : t.lnk.station = s.lnk.station)
    (hgrant : t.alt.grant = s.alt.grant) (hflight : t.alt.flight = s.alt.flight)
    (hentries : t.ptb.entries = s.ptb.entries) (hcfg : t.cfg = s.cfg) : GrantOk t where
  idle hst := by
    rw [hgrant, hflight]
    exact h.idle (hstation ▸ hst)
  isolated hst := by
    rw [hgrant, fairShare_congr hentries hcfg]
    exact h.isolated (hstation ▸ hst)

theorem StationFits.congr {s t : State} (h : StationFits s) (hlnk : t.lnk = s.lnk) (hgrant : t.alt.grant = s.alt.grant)
    (hflight : t.alt.flight = s.alt.flight) (hentries : t.ptb.entries = s.ptb.entries) (hcfg : t.cfg = s.cfg) :
    StationFits t :=
  ⟨hlnk ▸ h.link, h.grant.congr (by rw [hlnk]) hgrant hflight hentries hcfg⟩

/-- An operation on the queue and the access alone. -/
theorem StationFits.ofLink {s t : State} (h : StationFits s) (hlink : LinkOk t.lnk) (hstation : t.lnk.station = s.lnk.station)
    (halt : t.alt = s.alt) (hptb : t.ptb = s.ptb) (hcfg : t.cfg = s.cfg) : StationFits t :=
  ⟨hlink, h.grant.congr hstation (by rw [halt]) (by rw [halt]) (by rw [hptb]) hcfg⟩

theorem StationFits.rechoose {s : State} (h : StationFits s) : StationFits s.rechoose :=
  h.ofLink h.link.rechoose (by simp) (by simp) (by simp) (by simp)

theorem StationFits.dequeue {s : State} (k : FrameKey) (h : StationFits s) : StationFits (s.dequeue k) :=
  h.ofLink (h.link.dequeue k) (by simp) (by simp) (by simp) (by simp)

theorem StationFits.enqueue {s : State} (f : Frame) (hf : keyOf f ≠ .claim) (h : StationFits s) : StationFits (s.enqueue f) :=
  h.ofLink (h.link.enqueue f fun _ => hf) (by simp) (by simp) (by simp) (by simp)

theorem StationFits.capture {s : State} (c : Cause) (d : BitVec 32) (b : Option Nat) (h : StationFits s) :
    StationFits (s.capture c d b) :=
  h.congr (by simp) (by simp) (by simp) (by simp) (by simp)

theorem StationFits.captureNat {s : State} (c : Cause) (d : Nat) (h : StationFits s) : StationFits (s.captureNat c d) :=
  h.capture c _ none

theorem StationFits.raise {s : State} (n : Notice) (h : StationFits s) : StationFits (s.raise n) :=
  h.congr rfl rfl rfl rfl rfl

/-! ## The own grant (R91) -/

/-- A grant of 0 suits every station state. -/
theorem StationFits.zeroGrant {s : State} (h : StationFits s) : StationFits (s.setGrant 0) where
  link := by simpa using h.link
  grant := {
    idle := fun hst => ⟨by simp, by simpa using (h.grant.idle (by simpa using hst)).2⟩
    isolated := fun _ => by simp }

theorem capIsolated_of_isolated {s : State} (h : s.lnk.station = .isolated) :
    s.capIsolated = s.setGrant (min s.alt.grant s.fairShare) := by
  simp [State.capIsolated, h]

theorem capIsolated_of_not_isolated {s : State} (h : s.lnk.station ≠ .isolated) : s.capIsolated = s := by
  simp [State.capIsolated, h]

/-- The cap holds whatever the limits in effect have become (R91). -/
theorem grantOk_capIsolated {s : State}
    (h : s.lnk.station = .unconfigured ∨ s.lnk.station = .listening → s.alt.grant = 0 ∧ s.alt.flight = none) :
    GrantOk s.capIsolated := by
  by_cases hst : s.lnk.station = .isolated
  · rw [capIsolated_of_isolated hst]
    refine ⟨fun hidle => ?_, fun _ => ?_⟩
    · simp [hst] at hidle
    · have hfair : (s.setGrant (min s.alt.grant s.fairShare)).fairShare = s.fairShare := fairShare_congr (by simp) (by simp)
      rw [State.setGrant_grant, hfair]
      exact Nat.min_le_right _ _
  · rw [capIsolated_of_not_isolated hst]
    exact ⟨h, fun hiso => absurd hiso hst⟩

/-- The peer table changed: the cap of R91 comes before the conditions. -/
theorem StationFits.reevaluate {s : State} (e : List PeerEntry) (h : StationFits s) :
    StationFits (s.setPtb { s.ptb with entries := e }).reevaluate := by
  have hcapped : GrantOk (s.setPtb { s.ptb with entries := e }).capIsolated := grantOk_capIsolated h.grant.idle
  exact ⟨by simpa using h.link,
    hcapped.congr (by simp) (by simp [State.reevaluate]) (by simp [State.reevaluate]) (by simp) (by simp)⟩

/-! ## The station state (R28 to R32) -/

/-- A queue and an access that fit some station state fit the claiming ones. -/
theorem QueueFits.isolated {st : Station} {q : List QEntry} (h : QueueFits st q) : QueueFits .isolated q :=
  ⟨h.nodup, h.attempts, nofun, by simp⟩

theorem QueueFits.ofActive {st : Station} {q : List QEntry} (h : QueueFits st q) : QueueFits .active q :=
  ⟨h.nodup, h.attempts, nofun, by simp⟩

/-- Entry into ISOLATED, from whatever state the streak and the queue allow it (R31). -/
theorem stationFits_enterIsolated {s : State} (hstreak : s.lnk.streak ≤ 8) (hqueue : QueueFits s.lnk.station s.lnk.queue)
    (haccess : AccessFits s.lnk.station s.lnk.access) : StationFits s.enterIsolated := by
  have hcapped : GrantOk (s.setLnk { s.lnk with station := .isolated }).capIsolated := grantOk_capIsolated (by simp)
  have hlink : LinkOk { s.lnk with station := .isolated } :=
    ⟨hstreak, nofun, nofun, by simp, hqueue.isolated, ⟨haccess.held, by simp⟩⟩
  have hisolated : StationFits (s.setLnk { s.lnk with station := .isolated }).capIsolated := ⟨by simpa using hlink, hcapped⟩
  exact (hisolated.captureNat _ _).raise _

/-- A station that claims counts a missed epoch, and at the eighth an ACTIVE one goes into ISOLATED (R30). -/
theorem StationFits.missEpoch {s : State} (hst : s.isClaiming = true) (h : StationFits s) : StationFits s.missEpoch := by
  have hnotIdle : ¬(s.lnk.station = .unconfigured ∨ s.lnk.station = .listening) := by
    rw [← isClaiming_eq_false_iff, hst]
    nofun
  unfold State.missEpoch
  dsimp only
  split
  · exact stationFits_enterIsolated (Nat.min_le_left _ _) h.link.queue h.link.access
  · rename_i hstay
    refine ⟨⟨Nat.min_le_left _ _, fun ha => ⟨(h.link.active ha).1, ?_⟩, h.link.listening, fun hi => absurd hi hnotIdle,
      h.link.queue, h.link.access⟩, h.grant.congr rfl rfl rfl rfl rfl⟩
    exact lt_of_le_of_ne (Nat.min_le_left _ _) fun heq => hstay ⟨heq, ha⟩

theorem StationFits.listeningBoundary {s : State} (hst : s.lnk.station = .listening) (h : StationFits s) :
    StationFits s.listeningBoundary := by
  have hzero : s.lnk.streak = 0 := h.link.idle (.inr hst)
  obtain ⟨-, hmax⟩ := h.link.listening hst
  unfold State.listeningBoundary
  split
  · dsimp only
    split
    · exact stationFits_enterIsolated h.link.streak h.link.queue h.link.access
    · rename_i hdup
      refine ⟨⟨h.link.streak, fun _ => ⟨by simpa using hdup, by simp [hzero]⟩, nofun, by simp, h.link.queue.ofActive,
        ⟨h.link.access.held, by simp⟩⟩, ⟨by simp, by simp⟩⟩
  · rename_i hmore
    exact ⟨⟨h.link.streak, h.link.active, fun _ => ⟨by simp only [State.setLnk_lnk]; omega, by simp only [State.setLnk_lnk]; omega⟩,
      h.link.idle, h.link.queue, h.link.access⟩, h.grant.congr rfl rfl rfl rfl rfl⟩

theorem isClaiming_of_station {s : State} (h : s.lnk.station = .active ∨ s.lnk.station = .isolated) : s.isClaiming = true := by
  rcases h with h | h <;> simp [State.isClaiming, h]

theorem StationFits.claimBoundary {s : State} (hst : s.lnk.station = .active ∨ s.lnk.station = .isolated) (h : StationFits s) :
    StationFits s.claimBoundary := by
  obtain ⟨e, -⟩ | ⟨e, -⟩ | ⟨e, -⟩ := s.claimBoundary_cases <;> rw [e]
  · exact h
  · exact h.missEpoch (isClaiming_of_station hst)
  · exact (h.dequeue .claim).missEpoch (isClaiming_of_station (by simpa using hst))

theorem StationFits.mapQueue {s : State} {f : QEntry → QEntry} (hkey : ∀ e, (f e).frame = e.frame)
    (hattempts : ∀ e, e.attempts ≤ 12 → (f e).attempts ≤ 12) (h : StationFits s) :
    StationFits (s.setLnk { s.lnk with queue := s.lnk.queue.map f }) :=
  h.ofLink (h.link.withQueue (h.link.queue.mapSameKey hkey hattempts) h.link.access) rfl rfl rfl rfl

theorem StationFits.lnkBoundary {s : State} (h : StationFits s) : StationFits s.lnkBoundary :=
  State.lnkBoundary_preserves (fun _ h => h.mapQueue (fun _ => rfl) fun _ _ => Nat.zero_le _) (fun _ h => h.dequeue _)
    (fun _ hst h => h.listeningBoundary hst) (fun _ hst h => h.claimBoundary hst) (fun _ h => h.rechoose) s h

theorem StationFits.hearOwnBay {s : State} (h : StationFits s) : StationFits s.hearOwnBay := by
  unfold State.hearOwnBay
  split
  · exact h
  · have hcaptured : ∀ l : Lnk, (((s.setLnk l).captureNat .dupBay 0).raise .dupBay).lnk = l := fun l => by simp
    dsimp only
    split
    · refine stationFits_enterIsolated ?_ ?_ ?_ <;> rw [hcaptured]
      exacts [h.link.streak, h.link.queue, h.link.access]
    · rename_i hnotActive
      rw [hcaptured] at hnotActive
      have hheard : StationFits (s.setLnk { s.lnk with dupBay := true }) :=
        ⟨⟨h.link.streak, fun ha => absurd ha hnotActive, h.link.listening, h.link.idle, h.link.queue, h.link.access⟩,
          h.grant.congr rfl rfl rfl rfl rfl⟩
      exact (hheard.captureNat _ _).raise _

/-! ## Access to the line -/

theorem StationFits.setLine {s : State} (lineIdle armed : Bool) (h : StationFits s) :
    StationFits (s.setLnk { s.lnk with lineIdle := lineIdle, armed := armed }) :=
  ⟨⟨h.link.streak, h.link.active, h.link.listening, h.link.idle, h.link.queue, h.link.access⟩, h.grant.congr rfl rfl rfl rfl rfl⟩

theorem StationFits.lineFallsIdle {s : State} (h : StationFits s) : StationFits s.lineFallsIdle := by
  unfold State.lineFallsIdle
  split
  · exact h
  · dsimp only
    split
    · exact h.setLine _ _
    · exact (h.setLine _ _).rechoose

theorem StationFits.lineGetsBusy {s : State} (h : StationFits s) : StationFits s.lineGetsBusy := by
  unfold State.lineGetsBusy
  split
  · exact h.setLine _ _
  · exact (h.setLine _ _).rechoose

/-- The frame driven is one that the queue holds, so no CLAIM outside ACTIVE and ISOLATED (R24). -/
theorem StationFits.beginDriving {s : State} (h : StationFits s) : StationFits s.beginDriving := by
  unfold State.beginDriving
  split
  · rename_i k _ _
    split
    · rename_i e he
      split
      · have hmem : k ∈ keys s.lnk.queue :=
          List.mem_map.mpr ⟨e, List.mem_of_find?_eq_some he, hasKey_iff.mp (by simpa using List.find?_some he)⟩
        refine ⟨⟨h.link.streak, h.link.active, h.link.listening, h.link.idle, h.link.queue, ⟨rfl, fun hidle => ?_⟩⟩,
          h.grant.congr rfl rfl rfl rfl rfl⟩
        refine beq_eq_false_iff_ne.mpr fun hk => h.link.queue.noClaim hidle ?_
        rwa [← hk]
      · exact h
    · exact h
  · exact h

theorem StationFits.stopDriving {s : State} {q : List QEntry} (hq : QueueFits s.lnk.station q) (h : StationFits s) :
    StationFits (s.stopDriving q) := by
  have hstopped : StationFits (s.setLnk { s.lnk with queue := q, access := .notContending }) :=
    h.ofLink (h.link.withQueue hq (.of_not_sending rfl)) rfl rfl rfl rfl
  exact hstopped.rechoose

/-- A CLAIM is driven in ACTIVE and ISOLATED alone. -/
theorem isClaiming_of_drives {s : State} (h : StationFits s) (hd : s.lnk.access.drives .claim = true) : s.isClaiming = true := by
  cases hc : s.isClaiming
  · rw [h.link.access.noClaim (isClaiming_eq_false_iff.mp hc)] at hd
    cases hd
  · rfl

theorem StationFits.claimSent {s : State} (hst : s.isClaiming = true) (h : StationFits s) : StationFits s.claimSent := by
  have hnotIdle : ¬(s.lnk.station = .unconfigured ∨ s.lnk.station = .listening) := by
    rw [← isClaiming_eq_false_iff, hst]
    nofun
  unfold State.claimSent
  split
  · rename_i hends
    exact ⟨⟨Nat.zero_le _, fun _ => ⟨hends.2, Nat.zero_lt_succ _⟩, nofun, fun _ => rfl, h.link.queue.ofActive,
      ⟨h.link.access.held, by simp⟩⟩, ⟨by simp, by simp⟩⟩
  · exact ⟨⟨Nat.zero_le _, fun ha => ⟨(h.link.active ha).1, Nat.zero_lt_succ _⟩, h.link.listening, fun _ => rfl, h.link.queue,
      h.link.access⟩, h.grant.congr rfl rfl rfl rfl rfl⟩

theorem StationFits.sentWhole {s : State} (h : StationFits s) : StationFits s.sentWhole := by
  unfold State.sentWhole
  split
  · rename_i k bytes held hsending
    have hheld : (Access.sending k bytes held).heldFits = true := hsending ▸ h.link.access.held
    have hstopped := StationFits.stopDriving (s := s.setLnk { s.lnk with lineIdle := false })
      (h.link.queue.afterSent hheld) (h.setLine false s.lnk.armed)
    dsimp only
    split
    · rename_i hk
      refine hstopped.claimSent ?_
      have hclaiming := isClaiming_of_drives h (by rw [hsending, hk]; rfl)
      simpa [State.isClaiming] using hclaiming
    · exact hstopped
  · exact h

theorem StationFits.collided {s : State} (h : StationFits s) : StationFits s.collided := by
  unfold State.collided
  split
  · rename_i k bytes held hsending
    have hheld : (Access.sending k bytes held).heldFits = true := hsending ▸ h.link.access.held
    have hstopped := h.stopDriving (h.link.queue.afterCollision hheld)
    dsimp only
    split
    · rename_i hk
      refine hstopped.missEpoch ?_
      have hclaiming := isClaiming_of_drives h (by rw [hsending, hk.1]; rfl)
      simpa [State.isClaiming] using hclaiming
    · exact hstopped
  · exact h

/-! ## A computation (R73 to R79) -/

theorem isClaiming_of_flight {s : State} (h : StationFits s) (hf : s.alt.flight ≠ none) : s.isClaiming = true := by
  cases hc : s.isClaiming
  · exact absurd (h.grant.idle (isClaiming_eq_false_iff.mp hc)).2 hf
  · rfl

theorem StationFits.abandon {s : State} (h : StationFits s) : StationFits s.altAbandon :=
  ⟨h.link, ⟨fun hst => ⟨(h.grant.idle hst).1, rfl⟩, h.grant.isolated⟩⟩

theorem StationFits.altComplete {s : State} (h : StationFits s) : StationFits s.altComplete := by
  unfold State.altComplete
  split
  · exact h
  · rename_i f hf
    have hclaiming := isClaiming_of_flight h (by rw [hf]; nofun)
    have hnotIdle : ¬(s.lnk.station = .unconfigured ∨ s.lnk.station = .listening) := by
      rw [← isClaiming_eq_false_iff, hclaiming]
      nofun
    dsimp only
    split
    · exact h.abandon
    · refine ⟨by simpa using h.link, ⟨fun hst => absurd (by simpa using hst) hnotIdle, fun hst => ?_⟩⟩
      have hiso : s.lnk.station = .isolated := by simpa using hst
      have hfair : ∀ (r : Option AltResult) (g : Nat),
          ((s.altAbandon.setAlt { s.altAbandon.alt with result := r }).setGrant g).fairShare =
            (s.altAbandon.setAlt { s.altAbandon.alt with result := r }).fairShare := fun r g =>
        fairShare_congr (by simp) (by simp)
      rw [State.setGrant_grant, hfair, if_pos (by simpa using hiso)]
      exact Nat.min_le_right _ _

theorem StationFits.altTick {s : State} (h : StationFits s) : StationFits s.altTick := by
  unfold State.altTick
  split
  · exact h
  · rename_i f hf
    split
    · exact h.altComplete
    · refine ⟨h.link, ⟨fun hst => ?_, h.grant.isolated⟩⟩
      have := (h.grant.idle hst).2
      rw [hf] at this
      cases this

/-- The claim is queued and latched in ACTIVE and ISOLATED alone (R68, R73). -/
theorem StationFits.claimAndLatch {s : State} (h : StationFits s) : StationFits s.claimAndLatch := by
  unfold State.claimAndLatch
  split
  · rename_i hst
    have hnotIdle : ¬(s.lnk.station = .unconfigured ∨ s.lnk.station = .listening) := by
      rw [← isClaiming_eq_false_iff, hst]
      nofun
    have hqueued : StationFits ((s.setLastClaim (some { claim := s.buildClaim, epoch := s.clk.epoch })).enqueue
        (.claim s.buildClaim)) :=
      h.ofLink (LinkOk.enqueue (s := s.setLastClaim _) _ (fun hl => absurd (.inr hl) hnotIdle) h.link) (by simp) (by simp)
        (by simp) (by simp)
    dsimp only
    split
    · exact hqueued
    · refine ⟨hqueued.link, ⟨fun hidle => absurd (by simpa [State.altStart] using hidle) hnotIdle, hqueued.grant.isolated⟩⟩
  · exact h

/-! ## The reserve unit leaves the station, the grant and the computation alone -/

theorem judgeEvent_flight (s : State) (o q d r : Nat) : (s.judgeEvent o q d r).alt.flight = s.alt.flight := by
  unfold State.judgeEvent State.holderUpdate State.takeOver State.changeDemand State.takeEvent State.altDiscard
  dsimp only
  (repeat' split) <;> simp

theorem StationFits.judgeEvent {s : State} (o q d r : Nat) (h : StationFits s) : StationFits (s.judgeEvent o q d r) :=
  h.congr (by simp) (by simp) (judgeEvent_flight s o q d r) (by simp) (by simp)

theorem StationFits.sendEvent {s : State} (d r : Nat) (h : StationFits s) : StationFits (s.sendEvent d r) := by
  have hset : StationFits (s.setRsv { s.rsv with ownSeq := (s.rsv.ownSeq + 1) % 256, refresh := Config.refreshPeriod }) :=
    h.congr rfl rfl rfl rfl rfl
  exact (hset.enqueue (.event ((s.rsv.ownSeq + 1) % 256) d r) (by simp [keyOf])).judgeEvent _ _ _ _

theorem StationFits.setRsv {s : State} (r : Rsv) (h : StationFits s) : StationFits (s.setRsv r) := h.congr rfl rfl rfl rfl rfl

theorem StationFits.rsvCountdown {s : State} (h : StationFits s) : StationFits s.rsvCountdown := by
  have hset := h.setRsv { s.rsv with remaining := s.rsv.remaining - 1 }
  unfold State.rsvCountdown State.refreshBoundary
  split
  · exact h
  · dsimp only
    split
    · exact hset.congr (by simp) (by simp) (by simp) (by simp) (by simp)
    · split
      · split
        · exact hset.sendEvent _ _
        · exact hset.setRsv _
      · exact hset

theorem StationFits.dispatchDemand {s : State} (d m : Nat) (h : StationFits s) : StationFits (s.dispatchDemand d m) := by
  have hset : StationFits (s.setHostDemand d m) := h.congr (by simp) (by simp) (by simp) (by simp) (by simp)
  unfold State.dispatchDemand
  dsimp only
  split
  · exact hset.sendEvent _ _
  · exact hset

/-! ## Sessions and the park table -/

theorem StationFits.dropSession {s : State} (h : StationFits s) : StationFits s.dropSession := by
  have hzero : StationFits (((s.setSes none).altDiscard).setGrant 0) :=
    StationFits.zeroGrant (h.congr rfl rfl rfl rfl rfl)
  unfold State.dropSession
  exact hzero.congr (by simp) (by simp) (by simp) (by simp) (by simp)

theorem StationFits.dropOffer {s : State} (e : ParkEntry) (h : StationFits s) : StationFits (s.dropOffer e) := by
  unfold State.dropOffer
  split
  · exact h.dequeue _
  · exact h

theorem StationFits.setPrk {s : State} (p : Prk) (h : StationFits s) : StationFits (s.setPrk p) := h.congr rfl rfl rfl rfl rfl

theorem StationFits.setSes {s : State} (v : Option Session) (h : StationFits s) : StationFits (s.setSes v) :=
  h.congr rfl rfl rfl rfl rfl

theorem StationFits.follow {s : State} (h : StationFits s) : StationFits s.follow := h.congr rfl rfl rfl rfl rfl

theorem StationFits.removePark {s : State} (bus : Nat) (h : StationFits s) : StationFits (s.removePark bus) := by
  unfold State.removePark
  split
  · exact h
  · exact (h.setPrk _).dropOffer _

theorem StationFits.evictOldest {s : State} (h : StationFits s) : StationFits s.evictOldest := by
  unfold State.evictOldest
  split
  · exact h
  · split
    · exact ((h.setPrk _).dropOffer _).capture _ _ _
    · exact h

theorem StationFits.park {s : State} (bus hold : Nat) (x : Context) (h : StationFits s) : StationFits (s.park bus hold x) :=
  (h.removePark bus).evictOldest.setPrk _

theorem StationFits.endWindow {s : State} (w : WindowFigures) (h : StationFits s) : StationFits (s.endWindow w) :=
  (h.setPrk _).dequeue _

theorem StationFits.cancelWindow {s : State} (h : StationFits s) : StationFits s.cancelWindow := by
  unfold State.cancelWindow
  split
  · exact h
  · exact h.endWindow _

theorem StationFits.windowBoundary {s : State} (h : StationFits s) : StationFits s.windowBoundary := by
  unfold State.windowBoundary
  split
  · exact h
  · rename_i q _
    have hended := h.endWindow q.closed
    split
    · split
      · rename_i c _
        exact ((((((hended.setSes _).enqueue (.taken q.busId c.bay) (by simp [keyOf])).raise _).setPrk _).follow).captureNat _ _)
      · have hclosed : ∀ x, StationFits ((((s.endWindow q.closed).raise .handoverDone).recordHandover x).follow.captureNat
            .plugCold 0) := fun x => (((hended.raise _).setPrk _).follow).captureNat _ _
        unfold State.closeCold
        dsimp only
        split
        · exact hclosed _
        · exact (hclosed _).dropSession
    · exact h.setPrk _

theorem StationFits.foldl_dequeue {s : State} (es : List ParkEntry) (h : StationFits s) :
    StationFits (es.foldl (fun t e => t.dequeue (.offer e.busId)) s) := by
  induction es generalizing s with
  | nil => exact h
  | cons e es ih => exact ih (h.dequeue _)

theorem StationFits.foldl_expireContext {s : State} (es : List ParkEntry) (h : StationFits s) :
    StationFits (es.foldl State.expireContext s) := by
  induction es generalizing s with
  | nil => exact h
  | cons e es ih => exact ih ((h.dropOffer e).capture _ _ _)

theorem lEff_ptbRollover (s : State) : s.ptbRollover.lEff = s.lEff := by
  have hfilter : (s.ptb.entries.map PeerEntry.rolled).filter PeerEntry.isLive =
      (s.ptb.entries.filter PeerEntry.isLive).map PeerEntry.rolled := by
    rw [List.filter_map]
    rfl
  unfold State.lEff State.ptbRollover
  simp only [State.setPtb_ptb, hfilter, List.foldl_map]
  rfl

theorem StationFits.dayRollover {s : State} (h : StationFits s) : StationFits s.dayRollover := by
  have hfair : s.ptbRollover.fairShare = s.fairShare := by
    rw [State.fairShare, lEff_ptbRollover]
    rfl
  have hrolled : StationFits s.ptbRollover := ⟨h.link, ⟨h.grant.idle, fun hst => hfair ▸ h.grant.isolated hst⟩⟩
  exact (hrolled.setSes _).setPrk _

theorem StationFits.boundary {s : State} (rollover restart : Bool) (h : StationFits s) :
    StationFits (s.boundary rollover restart) := by
  refine State.boundary_preserves (P := StationFits) ?clock (fun _ h => h.dayRollover) (fun _ h => h.reevaluate _)
    (fun _ h => h.lnkBoundary) (fun _ h => h.abandon) (fun _ h => h.rsvCountdown) ?session (fun _ h => h.claimAndLatch) ?withdraw
    (fun _ h => h.windowBoundary) (fun _ h => (h.setPrk _).foldl_dequeue _) (fun _ h => (h.setPrk _).foldl_expireContext _)
    ?choices ?follow rollover restart s h
  all_goals
    intros
    exact StationFits.congr ‹_› (by simp) (by simp) (by simp) (by simp) (by simp)

theorem StationFits.tickWork {s : State} (h : StationFits s) : StationFits s.tickWork := by
  refine State.tickWork_preserves (P := StationFits) ?close ?meter ?openx (fun _ h => h.setRsv _) (fun _ _ h => h.sendEvent _ _)
    ?watch (fun _ h => h.altTick) ?choices ?follow s h
  all_goals
    intros
    exact StationFits.congr ‹_› (by simp) (by simp) (by simp) (by simp) (by simp)

theorem StationFits.setClk {s : State} (c : Clk) (h : StationFits s) : StationFits (s.setClk c) := h.congr rfl rfl rfl rfl rfl

theorem StationFits.tickEvent {s : State} (h : StationFits s) : StationFits s.tickEvent := by
  unfold State.tickEvent
  split
  · exact (h.setClk _).tickWork
  · split
    · exact (h.setClk _).tickWork
    · exact (h.setClk _).tickWork.boundary _ _

theorem StationFits.epochBoundary {s : State} (h : StationFits s) : StationFits s.epochBoundary := by
  unfold State.epochBoundary
  split
  · exact (h.setClk _).boundary _ _
  · exact h

theorem StationFits.deliverClaim {s : State} (b e : Nat) (c : Claim) (h : StationFits s) : StationFits (s.deliverClaim b e c) := by
  have hsync : StationFits (s.maxSync b e) := by
    unfold State.maxSync
    dsimp only
    split
    · exact h
    · split
      · exact ((h.setClk _).captureNat _ _).boundary _ _
      · split
        · exact h.congr (by simp) (by simp) (by simp) (by simp) (by simp)
        · exact h
  exact hsync.reevaluate _

theorem StationFits.takeQuery {s : State} (bus : Nat) (h : StationFits s) : StationFits (s.takeQuery bus) := by
  unfold State.takeQuery
  split
  · exact h
  · exact (h.setPrk _).enqueue _ (by simp [keyOf])

theorem StationFits.takeTaken {s : State} (b bus x : Nat) (h : StationFits s) : StationFits (s.takeTaken b bus x) := by
  unfold State.takeTaken
  split
  · exact h
  · split
    · exact (h.removePark bus).capture _ _ _
    · split
      · exact h.removePark bus
      · exact h

theorem StationFits.plugIn {s : State} (p : PlugFields) (h : StationFits s) : StationFits (s.plugIn p) := by
  have hbegun : StationFits ((s.setSes (some (s.newSession p))).evalDupBus.rsvSessionBegin) :=
    h.congr (by simp) (by simp) (by simp) (by simp) (by simp)
  unfold State.plugIn
  dsimp only
  split
  · exact ((((hbegun.removePark _).setSes _).setPrk _).follow).captureNat _ _
  · exact ((hbegun.setPrk _).enqueue _ (by simp [keyOf])).follow

theorem StationFits.unplugNow {s : State} (h : StationFits s) : StationFits s.unplugNow := by
  have unplugged : ∀ (u : State) (v : Session), StationFits u → StationFits ((u.captureUnplug v).dropSession) := fun u v hu =>
    StationFits.dropSession ((hu.capture _ _ _).capture _ _ _)
  unfold State.unplugNow
  split
  · exact h
  · split
    · unfold State.unplugPending
      dsimp only
      apply unplugged
      split
      · exact h.cancelWindow
      · exact h.cancelWindow.park _ _ _
    · exact unplugged _ _ ((h.setSes _).park _ _ _)

/-! ## Configuration and resets -/

theorem StationFits.configureWith {s : State} (r : ConfigRecord) (hst : s.lnk.station = .unconfigured) (h : StationFits s) :
    StationFits (s.configureWith r) := by
  have hidle := h.grant.idle (.inl hst)
  have hzero := h.link.idle (.inl hst)
  have hqueue : s.lnk.queue = [] := h.link.queue.empty hst
  unfold State.configureWith
  refine ⟨⟨h.link.streak, nofun, fun _ => ⟨?_, ?_⟩, fun _ => hzero, ?_, h.link.access.held, fun _ => h.link.access.noClaim (.inl hst)⟩,
    ⟨fun _ => hidle, nofun⟩⟩
  · simp [Config.listeningPeriod]
  · simp [Config.listeningPeriod]
  · simp only [State.follow_frame, State.setLog_lnk, State.setLnk_lnk, hqueue]
    exact QueueFits.nil _

/-- A station at either reset. -/
theorem stationFits_of_reset {s : State} (l : Lnk) (hlnk : s.lnk = l.atReset) (hgrant : s.alt.grant = 0)
    (hflight : s.alt.flight = none) : StationFits s := by
  refine ⟨?_, ⟨fun _ => ⟨hgrant, hflight⟩, fun h => ?_⟩⟩
  · rw [hlnk]
    exact ⟨Nat.zero_le _, nofun, nofun, fun _ => rfl, QueueFits.nil _, ⟨rfl, fun _ => rfl⟩⟩
  · rw [hlnk] at h
    cases h

theorem StationFits.parkAtReset {s : State} (hold : Nat) (h : StationFits s) : StationFits (s.parkAtReset hold) := by
  have hwithdrawn : ∀ u : State, StationFits u → StationFits ((u.withdrawOffers.setSes none).follow) := fun u hu =>
    ((hu.setPrk _).setSes _).follow
  unfold State.parkAtReset
  dsimp only
  apply hwithdrawn
  split
  · exact h.cancelWindow
  · split
    · exact h.cancelWindow
    · exact h.cancelWindow.park _ _ _

theorem stationFits_resetBay (s : State) : StationFits s.resetBay := by
  have hblocks : ∀ u : State, StationFits u.resetBlocks := fun u =>
    stationFits_of_reset u.lnk (by simp [State.resetBlocks]) (by simp [State.resetBlocks, Alt.reset])
      (by simp [State.resetBlocks, Alt.reset])
  have hparked := (hblocks ((s.setPrt { s.prt with flags := 0#20 }).capture .bayReset 0#32 none)).parkAtReset s.holdBoundaries
  exact hparked.congr (by simp [State.resetBay]) (by simp [State.resetBay]) (by simp [State.resetBay]) (by simp [State.resetBay])
    (by simp [State.resetBay])

theorem stationFits_exec (i : Instr) (s t : State) (h : StationFits s) (ht : exec i s = .next t) : StationFits t := by
  refine exec_preserves (P := StationFits) ?port ?choices
    (fun s _ => stationFits_of_reset s.lnk rfl rfl rfl) (fun _ h => h.tickEvent) (fun _ h => h.epochBoundary) ?dropped
    (fun _ _ h => h.hearOwnBay) (fun _ b e c _ _ _ _ _ h => h.deliverClaim b e c)
    (fun _ b q d n _ _ _ _ _ h => h.judgeEvent b q d n) (fun _ bus _ _ h => h.takeQuery bus) ?offer
    (fun _ b bus x _ _ h => h.takeTaken b bus x) (fun _ h => h.lineFallsIdle) (fun _ h => h.lineGetsBusy)
    (fun _ h => h.beginDriving) (fun _ h => h.sentWhole) (fun _ h => h.collided) (fun _ h => h.altComplete) ?measure ?edge
    (fun _ r hst _ h => h.configureWith r hst) (fun s e _ h => (h.setClk _).setClk _ |>.boundary _ _)
    (fun _ p _ _ _ h => h.plugIn p) ?vehicle ?chain (fun _ h => h.unplugNow) (fun _ d m _ h => h.dispatchDemand d m) ?mark ?close
    ?release ?counters ?snapshot (fun s _ => stationFits_resetBay s) i s t h ht
  all_goals
    intros
    exact StationFits.congr ‹_› (by simp) (by simp) (by simp) (by simp) (by simp)

/-- Settles O11: the two invariants are kept together, LNK's part and the own grant's. -/
theorem stationAndQueueKept : Obligations.StationAndQueueKept := fun _ _ hstation hqueue ht =>
  stationFits_iff.mp (Step.step_preserves (fun _ _ h => h.congr rfl rfl rfl rfl rfl) stationFits_exec
    (stationFits_iff.mpr ⟨hstation, hqueue⟩) ht)

end Sys2Proof.Proofs.Station
end

section
/-!
The peer table (chapter 3): its entries change at a CLAIM and at an epoch boundary alone, and each change of what LIMIT_DISAGREE
and DUP_BUS are read from is followed by their evaluation.
-/
namespace Sys2Proof.Proofs.Peers

open Sys2Proof Sys2Proof.Machine
open Sys2Proof.Proofs.ParkTable (liveBus? liveBus_sessionBoundary)

/-! ## The entries -/

theorem isLive_iff {p : PeerEntry} : p.isLive = true ↔ p.state = .live := by simp [PeerEntry.isLive]

theorem shiftDeparture_range {d : Int} (h : d ≤ 86399) : -43200 ≤ shiftDeparture d ∧ shiftDeparture d ≤ 86399 := by
  unfold shiftDeparture
  simp only [Config.minDeparture]
  omega

/-- A departure within section 3.1, at a rollover or as R36 stores it. -/
theorem departure_shifted {o : Option Int} (h : ∀ d ∈ o, -43200 ≤ d ∧ d ≤ 86399) :
    ∀ d ∈ o.map shiftDeparture, -43200 ≤ d ∧ d ≤ 86399 := by
  intro d hd
  obtain ⟨c, hc, rfl⟩ := Option.map_eq_some_iff.mp hd
  exact shiftDeparture_range (h c hc).2

theorem entryOk_rolled {p : PeerEntry} (h : p.Ok) : p.rolled.Ok := by
  obtain ⟨hbay, hepoch, hfeeder, hbus, hdep, hsilence, hstate⟩ := h
  exact ⟨hbay, hepoch, hfeeder, hbus, departure_shifted hdep, hsilence, hstate⟩

theorem entryOk_older {p : PeerEntry} (h : p.Ok) (hsilent : p.older.silence < 15) : p.older.Ok := by
  obtain ⟨hbay, hepoch, hfeeder, hbus, hdep, -, -⟩ := h
  refine ⟨hbay, hepoch, hfeeder, hbus, hdep, hsilent, ?_⟩
  simp only [PeerEntry.older, Config.staleSilence]
  split
  · simp only [reduceCtorEq, false_iff]
    omega
  · simp only [true_iff]
    omega

theorem mem_insertPeer {p e : PeerEntry} {ps : List PeerEntry} (h : p ∈ insertPeer e ps) : p = e ∨ p ∈ ps := by
  induction ps with
  | nil => exact .inl (List.mem_singleton.mp h)
  | cons q qs ih =>
    rw [insertPeer] at h
    split at h
    · simpa using h
    · split at h
      · rcases List.mem_cons.mp h with h | h
        · exact .inl h
        · exact .inr (List.mem_cons_of_mem _ h)
      · rcases List.mem_cons.mp h with h | h
        · exact .inr (h ▸ List.mem_cons_self)
        · exact (ih h).imp_right (List.mem_cons_of_mem _)

/-- An entry put in its place keeps the table in ascending bay id (section 3.1). -/
theorem ascending_insertPeer (e : PeerEntry) {ps : List PeerEntry} (h : (ps.map PeerEntry.bay).Pairwise (· < ·)) :
    ((insertPeer e ps).map PeerEntry.bay).Pairwise (· < ·) := by
  induction ps with
  | nil => simp [insertPeer]
  | cons q qs ih =>
    simp only [List.map_cons, List.pairwise_cons, List.mem_map, forall_exists_index, and_imp, forall_apply_eq_imp_iff₂] at h
    obtain ⟨hq, hqs⟩ := h
    rw [insertPeer]
    split
    · rename_i hlt
      simp only [List.map_cons, List.pairwise_cons, List.mem_cons, List.mem_map, forall_eq_or_imp, forall_exists_index, and_imp,
        forall_apply_eq_imp_iff₂]
      exact ⟨⟨hlt, fun p hp => hlt.trans (hq p hp)⟩, hq, hqs⟩
    · split
      · rename_i heq
        simp only [List.map_cons, List.pairwise_cons, List.mem_map, forall_exists_index, and_imp, forall_apply_eq_imp_iff₂, heq]
        exact ⟨hq, hqs⟩
      · simp only [List.map_cons, List.pairwise_cons, List.mem_map, forall_exists_index, and_imp, forall_apply_eq_imp_iff₂]
        refine ⟨fun p hp => ?_, ih hqs⟩
        rcases mem_insertPeer hp with rfl | hp
        · omega
        · exact hq p hp

/-- The table of R38 leaves a part of the entries, each older. -/
theorem mem_agedPeers {p : PeerEntry} {ps : List PeerEntry} :
    p ∈ agedPeers ps ↔ p.silence < 15 ∧ ∃ q ∈ ps, p = q.older := by
  simp only [agedPeers, List.mem_filter, List.mem_map, decide_eq_true_eq]
  constructor
  · rintro ⟨⟨q, hq, rfl⟩, h⟩
    exact ⟨h, q, hq, rfl⟩
  · rintro ⟨h, q, hq, rfl⟩
    exact ⟨⟨q, hq, rfl⟩, h⟩

theorem agedPeers_bays_sublist (ps : List PeerEntry) : ((agedPeers ps).map PeerEntry.bay).Sublist (ps.map PeerEntry.bay) := by
  have h : ((agedPeers ps).map PeerEntry.bay).Sublist ((ps.map PeerEntry.older).map PeerEntry.bay) :=
    (List.filter_sublist).map _
  rwa [List.map_map] at h

/-! ## The two conditions (R42, R43) -/

theorem limitsDiffer_iff {s : State} : s.limitsDiffer = true ↔ ∃ p ∈ s.ptb.entries, p.state = .live ∧
    (p.claim.serviceLimit ≠ s.ownService ∨ p.claim.feederLimit ≠ s.ownLimit p.claim.feeder) := by
  simp [State.limitsDiffer, isLive_iff]

theorem busReporter_isSome_iff {s : State} : s.busReporter.isSome = true ↔
    ∃ p ∈ s.ptb.entries, p.state = .live ∧ liveBus? s = some p.claim.busId := by
  unfold State.busReporter
  cases hses : s.ses with
  | none => simp [liveBus?, hses]
  | some v => simp [liveBus?, hses, isLive_iff, @eq_comm Nat v.busId]

/-- What the invariant says of station, configuration and entries. -/
structure TableOk (s : State) : Prop where
  configured : s.lnk.station = .unconfigured ↔ s.cfg = none
  empty : s.cfg = none → s.ptb.entries = []
  ownBay : ∀ c ∈ s.cfg, 1 ≤ c.bayId ∧ c.bayId ≤ 64
  ascending : (s.ptb.entries.map PeerEntry.bay).Pairwise (· < ·)
  entries : ∀ p ∈ s.ptb.entries, p.Ok ∧ p.bay ≠ s.ownBay

theorem peersOk_iff {s : State} : s.PeersOk ↔
    TableOk s ∧ s.ptb.limitDisagree = s.limitsDiffer ∧ s.ptb.dupBus = s.busReporter.isSome := by
  have hdup : (∃ v ∈ s.ses, ∃ p ∈ s.ptb.entries, p.state = .live ∧ p.claim.busId = v.busId) ↔ s.busReporter.isSome = true := by
    rw [busReporter_isSome_iff]
    cases hses : s.ses with
    | none => simp [liveBus?, hses]
    | some v => simp [liveBus?, hses, @eq_comm Nat v.busId]
  unfold State.PeersOk
  rw [← limitsDiffer_iff, hdup, ← Bool.eq_iff_iff, ← Bool.eq_iff_iff]
  constructor
  · rintro ⟨h1, h2, h3, h4, h5, h6, h7⟩
    exact ⟨⟨h1, h2, h3, h4, h5⟩, h6, h7⟩
  · rintro ⟨⟨h1, h2, h3, h4, h5⟩, h6, h7⟩
    exact ⟨h1, h2, h3, h4, h5, h6, h7⟩

/-! ## What leaves them alone -/

/-- The registers that the table's rules read, but for the session: the configuration, its presence and the entries. -/
theorem TableOk.congr {s t : State} (h : TableOk s) (hst : t.lnk.station = .unconfigured ↔ s.lnk.station = .unconfigured)
    (hcfg : t.cfg = s.cfg) (hentries : t.ptb.entries = s.ptb.entries) : TableOk t := by
  obtain ⟨h1, h2, h3, h4, h5⟩ := h
  have hbay : t.ownBay = s.ownBay := by simp [State.ownBay, hcfg]
  exact ⟨by rw [hst, h1, hcfg], by rwa [hcfg, hentries], by rwa [hcfg], by rwa [hentries], by rwa [hentries, hbay]⟩

theorem limitsDiffer_congr {s t : State} (hentries : t.ptb.entries = s.ptb.entries) (hcfg : t.cfg = s.cfg) :
    t.limitsDiffer = s.limitsDiffer := by
  rw [Bool.eq_iff_iff, limitsDiffer_iff, limitsDiffer_iff, hentries]
  simp [State.ownService, State.ownLimit, hcfg]

theorem busReporter_congr {s t : State} (hentries : t.ptb.entries = s.ptb.entries) (hbus : liveBus? t = liveBus? s) :
    t.busReporter.isSome = s.busReporter.isSome := by
  rw [Bool.eq_iff_iff, busReporter_isSome_iff, busReporter_isSome_iff, hentries, hbus]

theorem peersOk_congr {s t : State} (h : s.PeersOk) (hst : t.lnk.station = .unconfigured ↔ s.lnk.station = .unconfigured)
    (hcfg : t.cfg = s.cfg) (hptb : t.ptb = s.ptb) (hbus : liveBus? t = liveBus? s) : t.PeersOk := by
  obtain ⟨htable, hlimit, hdup⟩ := peersOk_iff.mp h
  have hentries : t.ptb.entries = s.ptb.entries := by rw [hptb]
  exact peersOk_iff.mpr ⟨htable.congr hst hcfg hentries, by rw [limitsDiffer_congr hentries hcfg, hptb, hlimit],
    by rw [busReporter_congr hentries hbus, hptb, hdup]⟩

theorem liveBus_congr {s t : State} (h : t.ses = s.ses) : liveBus? t = liveBus? s := by rw [liveBus?, h, liveBus?]

theorem station_congr {s t : State} (h : t.lnk.station = s.lnk.station) :
    t.lnk.station = .unconfigured ↔ s.lnk.station = .unconfigured := by rw [h]

/-! ## The evaluations -/

theorem evalLimits_limitDisagree (s : State) : s.evalLimits.ptb.limitDisagree = s.limitsDiffer := by
  unfold State.evalLimits
  dsimp only
  split <;> simp

theorem evalDupBus_dupBus (s : State) : s.evalDupBus.ptb.dupBus = s.busReporter.isSome := by
  unfold State.evalDupBus
  split
  · rename_i h
    simp [h]
  · rename_i h
    dsimp only
    split <;> simp [h]

theorem evalDupBus_limitDisagree (s : State) : s.evalDupBus.ptb.limitDisagree = s.ptb.limitDisagree := by
  unfold State.evalDupBus
  split
  · rfl
  · dsimp only
    split <;> simp

/-- A session that begins or ends is followed by the evaluation of DUP_BUS (R43). -/
theorem peersOk_evalDupBus {s : State} (htable : TableOk s) (hlimit : s.ptb.limitDisagree = s.limitsDiffer) :
    s.evalDupBus.PeersOk := by
  refine peersOk_iff.mpr ⟨htable.congr (station_congr (by simp)) (by simp) (by simp), ?_, ?_⟩
  · rw [evalDupBus_limitDisagree, limitsDiffer_congr (s := s) (by simp) (by simp), hlimit]
  · rw [evalDupBus_dupBus]
    exact (busReporter_congr (by simp) (liveBus_congr (by simp))).symm

/-- Entries that have changed are followed by both evaluations (R41 to R43). -/
theorem peersOk_reevaluate {s : State} (h : TableOk s) : s.reevaluate.PeersOk := by
  refine peersOk_evalDupBus (h.congr (station_congr (by simp)) (by simp) (by simp)) ?_
  rw [evalLimits_limitDisagree]
  exact (limitsDiffer_congr (by simp) (by simp)).symm

/-! ## The operations -/

theorem peersOk_ptbBoundary {s : State} (h : s.PeersOk) : s.ptbBoundary.PeersOk := by
  obtain ⟨⟨h1, h2, h3, h4, h5⟩, -, -⟩ := peersOk_iff.mp h
  refine peersOk_reevaluate ⟨h1, fun hn => by simp [h2 hn, agedPeers], h3, h4.sublist (agedPeers_bays_sublist _), fun p hp => ?_⟩
  obtain ⟨hsilent, q, hq, rfl⟩ := mem_agedPeers.mp hp
  obtain ⟨hok, hbay⟩ := h5 q hq
  exact ⟨entryOk_older hok hsilent, hbay⟩

theorem peersOk_ptbRollover {s : State} (h : s.PeersOk) : s.ptbRollover.PeersOk := by
  obtain ⟨⟨h1, h2, h3, h4, h5⟩, hlimit, hdup⟩ := peersOk_iff.mp h
  have hdiffer : s.ptbRollover.limitsDiffer = s.limitsDiffer := by
    rw [Bool.eq_iff_iff, limitsDiffer_iff, limitsDiffer_iff]
    simp only [State.ptbRollover, State.setPtb_ptb, List.mem_map, exists_exists_and_eq_and]
    rfl
  have hreporter : s.ptbRollover.busReporter.isSome = s.busReporter.isSome := by
    rw [Bool.eq_iff_iff, busReporter_isSome_iff, busReporter_isSome_iff]
    simp only [State.ptbRollover, State.setPtb_ptb, List.mem_map, exists_exists_and_eq_and]
    rfl
  refine peersOk_iff.mpr ⟨⟨h1, fun hn => by simp [State.ptbRollover, h2 hn], h3, ?_, fun p hp => ?_⟩, hdiffer ▸ hlimit,
    hreporter ▸ hdup⟩
  · simp only [State.ptbRollover, State.setPtb_ptb, List.map_map]
    exact h4
  · obtain ⟨q, hq, rfl⟩ := List.mem_map.mp hp
    exact ⟨entryOk_rolled (h5 q hq).1, (h5 q hq).2⟩

theorem peersOk_dayRollover {s : State} (h : s.PeersOk) : s.dayRollover.PeersOk :=
  peersOk_congr (peersOk_ptbRollover h) (station_congr (by simp)) (by simp) (by simp [State.dayRollover, State.prkRollover])
    (by simp [liveBus?, State.dayRollover, State.modSes, Function.comp_def])

theorem departure_stored {own sender : Nat} {o : Option Int} (h : ∀ d ∈ o, -43200 ≤ d ∧ d ≤ 86399) :
    ∀ d ∈ storedDeparture own sender o, -43200 ≤ d ∧ d ≤ 86399 := by
  unfold storedDeparture
  split
  · exact departure_shifted h
  · exact h

theorem claimFieldsOk_iff {e : Nat} {c : Claim} : claimFieldsOk e c = true ↔
    e < 43200 ∧ c.feeder ≤ 3 ∧ c.busId ≤ 255 ∧ ∀ d ∈ c.dep, -43200 ≤ d ∧ d ≤ 86399 := by
  cases hdep : c.dep <;> simp [claimFieldsOk, departureOk, hdep, and_assoc]

theorem peersOk_takeClaim {s : State} {own b e : Nat} {c : Claim} (hst : s.lnk.station ≠ .unconfigured) (h1 : 1 ≤ b) (h64 : b ≤ 64)
    (hown : b ≠ s.ownBay) (hfields : claimFieldsOk e c = true) (h : s.PeersOk) : (s.takeClaim own b e c).PeersOk := by
  obtain ⟨⟨hcfg, -, hbay, hasc, hentries⟩, -, -⟩ := peersOk_iff.mp h
  obtain ⟨hepoch, hfeeder, hbus, hdep⟩ := claimFieldsOk_iff.mp hfields
  refine peersOk_reevaluate ⟨hcfg, fun hn => absurd (hcfg.mpr hn) hst, hbay, ascending_insertPeer _ hasc, fun p hp => ?_⟩
  rcases mem_insertPeer hp with rfl | hp
  · exact ⟨⟨⟨h1, h64⟩, hepoch, hfeeder, hbus, departure_stored hdep, by simp, by simp⟩, hown⟩
  · exact hentries p hp

theorem station_listeningBoundary {s : State} (hst : s.lnk.station = .listening) :
    s.listeningBoundary.lnk.station ≠ .unconfigured := by
  unfold State.listeningBoundary
  split
  · dsimp only
    split <;> simp [State.enterIsolated]
  · simp [hst]

theorem station_missEpoch (s : State) : s.missEpoch.lnk.station = .unconfigured ↔ s.lnk.station = .unconfigured := by
  unfold State.missEpoch
  dsimp only
  split
  · rename_i hmiss
    have hactive : s.lnk.station = .active := hmiss.2
    simp [State.enterIsolated, hactive]
  · simp

theorem station_claimBoundary (s : State) : s.claimBoundary.lnk.station = .unconfigured ↔ s.lnk.station = .unconfigured := by
  obtain ⟨e, -⟩ | ⟨e, -⟩ | ⟨e, -⟩ := s.claimBoundary_cases <;> rw [e]
  · exact station_missEpoch s
  · rw [station_missEpoch, State.dequeue_keeps s .claim |>.1]

/-- No epoch boundary configures the station or takes its configuration. -/
theorem station_lnkBoundary (s : State) : s.lnkBoundary.lnk.station = .unconfigured ↔ s.lnk.station = .unconfigured := by
  refine State.lnkBoundary_preserves (P := fun t => t.lnk.station = .unconfigured ↔ s.lnk.station = .unconfigured)
    (fun _ h => h) (fun t h => by simpa using h) (fun t hl h => ?_) (fun t _ h => (station_claimBoundary t).trans h)
    (fun t h => by simpa using h) s Iff.rfl
  rw [← h]
  simp [hl, station_listeningBoundary hl]

theorem peersOk_lnkBoundary {s : State} (h : s.PeersOk) : s.lnkBoundary.PeersOk :=
  peersOk_congr h (station_lnkBoundary s) (by simp) (by simp) (liveBus_congr (by simp))

/-- The end of a session is followed by the evaluation of DUP_BUS. -/
theorem peersOk_dropSession {s : State} (htable : TableOk s) (hlimit : s.ptb.limitDisagree = s.limitsDiffer) :
    s.dropSession.PeersOk := by
  have hptb : (((s.setSes none).altDiscard.setGrant 0).rsvSessionEnd).ptb = s.ptb := by simp
  have hcfg : (((s.setSes none).altDiscard.setGrant 0).rsvSessionEnd).cfg = s.cfg := by simp
  have hentries := congrArg Ptb.entries hptb
  exact peersOk_evalDupBus (htable.congr (station_congr (by simp)) hcfg hentries)
    (by rw [limitsDiffer_congr hentries hcfg, hptb, hlimit])

theorem peersOk_windowBoundary {s : State} (h : s.PeersOk) : s.windowBoundary.PeersOk := by
  obtain ⟨htable, hlimit, -⟩ := peersOk_iff.mp h
  unfold State.windowBoundary
  split
  · exact h
  · split
    · split
      · refine peersOk_congr h (station_congr (by simp)) (by simp) (by simp) ?_
        simp [liveBus?, State.closeRestored, State.modSes, Session.restored, Function.comp_def]
      · unfold State.closeCold
        dsimp only
        split
        · exact peersOk_congr h (station_congr (by simp)) (by simp) (by simp) (liveBus_congr (by simp))
        · refine peersOk_dropSession (htable.congr (station_congr (by simp)) (by simp) (by simp)) ?_
          rw [limitsDiffer_congr (s := s) (by simp) (by simp)]
          simpa using hlimit
    · exact peersOk_congr h Iff.rfl rfl rfl rfl

theorem peersOk_boundary {s : State} (rollover restart : Bool) (h : s.PeersOk) : (s.boundary rollover restart).PeersOk := by
  refine State.boundary_preserves (P := State.PeersOk) ?clock (fun _ => peersOk_dayRollover) (fun _ => peersOk_ptbBoundary)
    (fun _ => peersOk_lnkBoundary) ?abandon ?countdown
    (fun s h => peersOk_congr h (station_congr (by simp)) (by simp) (by simp) (liveBus_sessionBoundary s)) ?claim ?withdraw
    (fun _ => peersOk_windowBoundary) ?waits ?holds ?choices ?follow rollover restart s h
  all_goals
    intros
    exact peersOk_congr ‹_› (station_congr (by simp)) (by simp) (by simp) (liveBus_congr (by simp))

theorem peersOk_tickWork {s : State} (h : s.PeersOk) : s.tickWork.PeersOk := by
  refine State.tickWork_preserves (P := State.PeersOk) ?close
    (fun s p h => peersOk_congr h (station_congr (by simp)) (by simp) (by simp)
      (by simp [liveBus?, State.meter, State.modSes, Function.comp_def])) ?openx ?bands ?send ?watch ?alt ?choices ?follow s h
  all_goals
    intros
    exact peersOk_congr ‹_› (station_congr (by simp)) (by simp) (by simp) (liveBus_congr (by simp))

theorem peersOk_setClk {s : State} (c : Clk) (h : s.PeersOk) : (s.setClk c).PeersOk := h

theorem peersOk_tickEvent {s : State} (h : s.PeersOk) : s.tickEvent.PeersOk := by
  unfold State.tickEvent
  split
  · exact peersOk_tickWork (peersOk_setClk _ h)
  · split
    · exact peersOk_tickWork (peersOk_setClk _ h)
    · exact peersOk_boundary _ _ (peersOk_tickWork (peersOk_setClk _ h))

theorem peersOk_epochBoundary {s : State} (h : s.PeersOk) : s.epochBoundary.PeersOk := by
  unfold State.epochBoundary
  split
  · exact peersOk_boundary _ _ (peersOk_setClk _ h)
  · exact h

theorem peersOk_maxSync {s : State} (b e : Nat) (h : s.PeersOk) : (s.maxSync b e).PeersOk := by
  unfold State.maxSync
  dsimp only
  split
  · exact h
  · split
    · exact peersOk_boundary _ _ (peersOk_congr h (station_congr (by simp)) (by simp) (by simp) (liveBus_congr (by simp)))
    · split
      · exact peersOk_congr h (station_congr (by simp)) (by simp) (by simp) (liveBus_congr (by simp))
      · exact h

theorem receives_configured {s : State} (h : s.receives = true) : s.lnk.station ≠ .unconfigured := by
  simp only [State.receives, Bool.and_eq_true, decide_eq_true_eq] at h
  exact h.1.1

theorem peersOk_deliverClaim {s : State} {b e : Nat} {c : Claim} (hr : s.receives = true) (h1 : 1 ≤ b) (h64 : b ≤ 64)
    (hown : b ≠ s.ownBay) (hfields : claimFieldsOk e c = true) (h : s.PeersOk) : (s.deliverClaim b e c).PeersOk := by
  have hsync := peersOk_maxSync b e h
  have hcfg : (s.maxSync b e).cfg = s.cfg := by simp
  refine peersOk_takeClaim ?_ h1 h64 (by simpa [State.ownBay, hcfg] using hown) hfields hsync
  rw [ne_eq, (peersOk_iff.mp hsync).1.configured, hcfg, ← (peersOk_iff.mp h).1.configured]
  exact receives_configured hr

theorem peersOk_hearOwnBay {s : State} (h : s.PeersOk) : s.hearOwnBay.PeersOk := by
  refine peersOk_congr h ?_ (by simp) (by simp) (liveBus_congr (by simp))
  unfold State.hearOwnBay
  split
  · exact Iff.rfl
  · dsimp only
    split
    · rename_i hactive
      simp only [State.raise_frame, State.captureNat_frame, State.setLnk_lnk] at hactive
      simp [State.enterIsolated, hactive]
    · simp

theorem peersOk_collided {s : State} (h : s.PeersOk) : s.collided.PeersOk := by
  refine peersOk_congr h ?_ (by simp) (by simp) (liveBus_congr (by simp))
  unfold State.collided
  split
  · dsimp only
    split
    · rw [station_missEpoch]
      simp
    · simp
  · exact Iff.rfl

theorem peersOk_sentWhole {s : State} (h : s.PeersOk) : s.sentWhole.PeersOk := by
  refine peersOk_congr h ?_ (by simp) (by simp) (liveBus_congr (by simp))
  unfold State.sentWhole
  split
  · dsimp only
    split
    · unfold State.claimSent
      dsimp only
      split
      · rename_i hends
        have hiso : s.lnk.station = .isolated := by simpa using hends.1
        simp [hiso]
      · simp
    · simp
  · exact Iff.rfl

theorem peersOk_plugIn {s : State} (p : PlugFields) (h : s.PeersOk) : (s.plugIn p).PeersOk := by
  obtain ⟨htable, hlimit, -⟩ := peersOk_iff.mp h
  have hbegun : ((s.setSes (some (s.newSession p))).evalDupBus.rsvSessionBegin).PeersOk :=
    peersOk_congr (peersOk_evalDupBus (s := s.setSes (some (s.newSession p))) (htable.congr Iff.rfl rfl rfl) hlimit)
      (station_congr (by simp)) (by simp) (by simp) (liveBus_congr (by simp))
  unfold State.plugIn
  dsimp only
  split
  · refine peersOk_congr hbegun (station_congr (by simp)) (by simp) (by simp) ?_
    simp [liveBus?, State.restoreLocal, State.modSes, Session.restored]
  · exact peersOk_congr hbegun (station_congr (by simp)) (by simp) (by simp) (liveBus_congr (by simp))

theorem peersOk_unplugNow {s : State} (h : s.PeersOk) : s.unplugNow.PeersOk := by
  obtain ⟨htable, hlimit, -⟩ := peersOk_iff.mp h
  have unplugged : ∀ (u : State), u.lnk.station = s.lnk.station → u.cfg = s.cfg → u.ptb = s.ptb → u.dropSession.PeersOk := by
    intro u hst hcfg hptb
    have hentries := congrArg Ptb.entries hptb
    exact peersOk_dropSession (htable.congr (station_congr hst) hcfg hentries)
      (by rw [limitsDiffer_congr hentries hcfg, hptb, hlimit])
  unfold State.unplugNow
  split
  · exact h
  · split
    · unfold State.unplugPending
      dsimp only
      split <;> exact unplugged _ (by simp) (by simp) (by simp)
    · exact unplugged _ (by simp) (by simp) (by simp)

theorem peersOk_modSes {s : State} {f : Session → Session} (hf : ∀ v, (f v).busId = v.busId) (h : s.PeersOk) :
    (s.modSes f).PeersOk :=
  peersOk_congr h Iff.rfl rfl rfl (by simp [liveBus?, State.modSes, Function.comp_def, hf])

theorem bayId_of_configChecks {r : ConfigRecord} (h : firstFail (configChecks r) = none) : 1 ≤ r.bayId ∧ r.bayId ≤ 64 := by
  have hfirst : ∀ rest, firstFail ((1, within 1 r.bayId 64) :: rest) = none → within 1 r.bayId 64 = true := by
    intro rest hrest
    rw [firstFail] at hrest
    split at hrest
    · assumption
    · cases hrest
  simpa [within] using hfirst _ h

theorem peersOk_configureWith {s : State} {r : ConfigRecord} (hst : s.lnk.station = .unconfigured)
    (hr : firstFail (configChecks r) = none) (h : s.PeersOk) : (s.configureWith r).PeersOk := by
  obtain ⟨⟨hcfg, hempty, -, -, -⟩, hlimit, hdup⟩ := peersOk_iff.mp h
  have hnil : s.ptb.entries = [] := hempty (hcfg.mp hst)
  have hno : ∀ t : State, t.ptb.entries = [] → t.limitsDiffer = false ∧ t.busReporter.isSome = false := by
    intro t ht
    constructor <;> rw [← Bool.not_eq_true]
    · simp [limitsDiffer_iff, ht]
    · simp [busReporter_isSome_iff, ht]
  rw [(hno s hnil).1] at hlimit
  rw [(hno s hnil).2] at hdup
  have hnil' : (s.configureWith r).ptb.entries = [] := by simpa [State.configureWith] using hnil
  refine peersOk_iff.mpr ⟨⟨by simp [State.configureWith], fun _ => hnil', ?_, by rw [hnil']; simp, by rw [hnil']; simp⟩, ?_, ?_⟩
  · simpa [State.configureWith] using bayId_of_configChecks hr
  · rw [(hno _ hnil').1]
    simpa [State.configureWith] using hlimit
  · rw [(hno _ hnil').2]
    simpa [State.configureWith] using hdup

/-- At a reset there is no configuration, no entry and no session, so neither condition holds. -/
theorem peersOk_of_reset {s : State} (hst : s.lnk.station = .unconfigured) (hcfg : s.cfg = none) (hptb : s.ptb = Ptb.reset) :
    s.PeersOk := by
  have hlimit : s.limitsDiffer = false := by
    rw [← Bool.not_eq_true, limitsDiffer_iff]
    simp [hptb, Ptb.reset]
  have hdup : s.busReporter.isSome = false := by
    rw [← Bool.not_eq_true, busReporter_isSome_iff]
    simp [hptb, Ptb.reset]
  refine peersOk_iff.mpr ⟨⟨by simp [hst, hcfg], by simp [hptb, Ptb.reset], by simp [hcfg], by simp [hptb, Ptb.reset],
    by simp [hptb, Ptb.reset]⟩, ?_, ?_⟩
  · rw [hlimit, hptb]
    rfl
  · rw [hdup, hptb]
    rfl

theorem peersOk_exec (i : Instr) (s t : State) (h : s.PeersOk) (ht : exec i s = .next t) : t.PeersOk := by
  refine exec_preserves (P := State.PeersOk) ?port ?choices (fun _ _ => peersOk_of_reset rfl rfl rfl)
    (fun _ => peersOk_tickEvent) (fun _ => peersOk_epochBoundary) ?dropped (fun _ _ => peersOk_hearOwnBay)
    (fun _ b e c hr h1 h64 hown hf => peersOk_deliverClaim hr h1 h64 hown hf) ?event ?query ?offer ?taken ?idle ?busy ?drive
    (fun _ => peersOk_sentWhole) (fun _ => peersOk_collided) ?complete ?measure ?edge
    (fun _ r hst hr => peersOk_configureWith hst hr) (fun s e _ h => peersOk_boundary _ _ (peersOk_setClk _ (peersOk_setClk _ h)))
    (fun _ p _ _ _ => peersOk_plugIn p)
    (fun s a d c h => peersOk_congr (s := s) h (station_congr (by simp)) (by simp) (by simp)
      (by simp [liveBus?, State.updateVehicle, State.modSes, Function.comp_def]))
    (fun s v ls _ _ _ h => peersOk_modSes (fun _ => rfl) h) (fun _ => peersOk_unplugNow) ?dispatch ?mark ?close ?release ?counters
    ?snapshot ?reset i s t h ht
  case reset =>
    intro s _
    exact peersOk_of_reset (by simp [State.resetBay, State.resetBlocks, Lnk.atReset, Lnk.reset])
      (by simp [State.resetBay, State.resetBlocks]) (by simp [State.resetBay, State.resetBlocks])
  all_goals
    intros
    exact peersOk_congr ‹_› (station_congr (by simp)) (by simp) (by simp) (liveBus_congr (by simp))

/-! ## The widths of an entry's figures -/

/-- The figures of a claim within their widths on the line (section 3.1). -/
def WidthsOk (c : Claim) : Prop :=
  (∀ n ∈ [c.need, c.ask, c.pledge, c.grant, c.serviceLimit, c.feederLimit], n ≤ 65535) ∧ -32768 ≤ c.drawn ∧ c.drawn ≤ 32767

theorem peerWidthsOk_iff {s : State} : s.PeerWidthsOk ↔ ∀ p ∈ s.ptb.entries, WidthsOk p.claim := Iff.rfl

theorem widthsOk_of_wellFormed {c : Claim} (h : c.wellFormed = true) : WidthsOk c := by
  simp only [Claim.wellFormed, fitsU, fitsI, Bool.and_eq_true, decide_eq_true_eq] at h
  obtain ⟨⟨⟨⟨⟨⟨⟨-, hneed⟩, hask⟩, hpledge⟩, hdrawn⟩, hgrant⟩, hservice⟩, hfeeder⟩ := h
  refine ⟨?_, by omega, by omega⟩
  simp only [List.forall_mem_cons, List.not_mem_nil, false_imp_iff, implies_true, and_true]
  omega

/-- Every entry carries the figures of one that stood. -/
def FiguresFrom (s t : State) : Prop :=
  ∀ p ∈ t.ptb.entries, ∃ q ∈ s.ptb.entries, p.claim = { q.claim with dep := p.claim.dep }

theorem widthsOk_of_figuresFrom {s t : State} (h : s.PeerWidthsOk) (hf : FiguresFrom s t) : t.PeerWidthsOk := by
  intro p hp
  obtain ⟨q, hq, hclaim⟩ := hf p hp
  have := peerWidthsOk_iff.mp h q hq
  change WidthsOk p.claim
  rw [hclaim]
  exact this

theorem widthsOk_of_entries {s t : State} (h : s.PeerWidthsOk) (he : t.ptb.entries = s.ptb.entries) : t.PeerWidthsOk := by
  unfold State.PeerWidthsOk
  rwa [he]

/-- The entries after an epoch boundary: each older, a rollover having shifted their departures (R38, R39). -/
theorem boundary_entries (s : State) (rollover restart : Bool) : (s.boundary rollover restart).ptb.entries =
    agedPeers (if rollover then s.ptb.entries.map PeerEntry.rolled else s.ptb.entries) := by
  have hptb : ∀ u : State, u.ptbBoundary.ptb.entries = agedPeers u.ptb.entries := fun u => by simp [State.ptbBoundary]
  cases rollover <;> cases restart <;>
    simp [State.boundary, hptb, State.dayRollover, State.ptbRollover]

theorem figuresFrom_boundary (s : State) (rollover restart : Bool) : FiguresFrom s (s.boundary rollover restart) := by
  intro p hp
  rw [boundary_entries] at hp
  obtain ⟨-, q, hq, rfl⟩ := mem_agedPeers.mp hp
  split at hq
  · obtain ⟨r, hr, rfl⟩ := List.mem_map.mp hq
    exact ⟨r, hr, rfl⟩
  · exact ⟨q, hq, rfl⟩

theorem widthsOk_boundary {s : State} (rollover restart : Bool) (h : s.PeerWidthsOk) :
    (s.boundary rollover restart).PeerWidthsOk := widthsOk_of_figuresFrom h (figuresFrom_boundary s _ _)

theorem widthsOk_tickEvent {s : State} (h : s.PeerWidthsOk) : s.tickEvent.PeerWidthsOk := by
  unfold State.tickEvent
  split
  · exact widthsOk_of_entries h (by simp [State.tickOwing])
  · split
    · exact widthsOk_of_entries h (by simp [State.tickWithin])
    · exact widthsOk_boundary _ _ (widthsOk_of_entries h (by simp [State.advanced]))

theorem widthsOk_epochBoundary {s : State} (h : s.PeerWidthsOk) : s.epochBoundary.PeerWidthsOk := by
  unfold State.epochBoundary
  split
  · exact widthsOk_boundary _ _ (widthsOk_of_entries h rfl)
  · exact h

theorem widthsOk_boundaryWhere {s : State} (b : Bool) (h : s.PeerWidthsOk) : (s.boundaryWhere b).PeerWidthsOk := by
  unfold State.boundaryWhere
  split
  · exact widthsOk_epochBoundary h
  · exact h

theorem widthsOk_tickWhere {s : State} (b : Bool) (h : s.PeerWidthsOk) : (s.tickWhere b).PeerWidthsOk := by
  unfold State.tickWhere
  split
  · exact widthsOk_tickEvent h
  · exact h

theorem widthsOk_deliverClaim {s : State} (b e : Nat) {c : Claim} (hc : WidthsOk c) (h : s.PeerWidthsOk) :
    (s.deliverClaim b e c).PeerWidthsOk := by
  have hsync : (s.maxSync b e).PeerWidthsOk := by
    unfold State.maxSync
    dsimp only
    split
    · exact h
    · split
      · exact widthsOk_boundary _ _ (widthsOk_of_entries h (by simp))
      · split
        · exact widthsOk_of_entries h (by simp)
        · exact h
  intro p hp
  simp only [State.deliverClaim, State.takeClaim, State.reevaluate_keeps, State.setPtb_ptb] at hp
  rcases mem_insertPeer hp with rfl | hp
  · exact hc
  · exact hsync p hp

/-- A frame row that is no CLAIM leaves the entries. -/
theorem widthsOk_takeFrame {s : State} (b : Nat) (ok : Bool) {deliver : State → State}
    (hd : (deliver s).PeerWidthsOk) (h : s.PeerWidthsOk) : (s.takeFrame b ok deliver).PeerWidthsOk :=
  State.takeFrame_cases h (widthsOk_of_entries h (by simp)) (fun _ => widthsOk_of_entries h (by simp)) fun _ _ _ _ _ => hd

/-- A port row leaves the entries where its effect does. -/
theorem widthsOk_command {s : State} {kind : Nat} {stateOk : Bool} {fail : Option Nat} {effect : State → State}
    {payload : State → List Byte} (he : ∀ t : State, t.PeerWidthsOk → (effect t).PeerWidthsOk) (h : s.PeerWidthsOk) :
    (s.command kind stateOk fail effect payload).PeerWidthsOk :=
  State.command_cases (P := State.PeerWidthsOk) (fun _ _ h => h) h fun _ _ h => he _ h

theorem peerWidthsOk_exec (i : Instr) (s t : State) (hi : i.wellFormed = true) (h : s.PeerWidthsOk) (ht : exec i s = .next t) :
    t.PeerWidthsOk := by
  cases i <;> (simp only [exec] at ht; injection ht with ht; subst ht)
  case claimFrame b e c =>
    simp only [Instr.wellFormed, Bool.and_eq_true] at hi
    exact widthsOk_takeFrame _ _ (widthsOk_deliverClaim b e (widthsOk_of_wellFormed hi.2) h) h
  case powerOnReset => exact nofun
  case tickEvent => exact widthsOk_tickEvent h
  case epochBoundary => exact widthsOk_epochBoundary h
  case clockDisagreeEnd | takenExpiry | listeningPeriodEnd | peerStale | peerRemoved | eventRefresh | eventCountdownEnd |
      contextExpired | takenWaitEnd | queryWindowClose => exact widthsOk_boundaryWhere _ h
  case meterLost | edgeWatchExpiry | bandTrigger | bandRecovered => exact widthsOk_tickWhere _ h
  case eventFrame | queryFrame | offerFrame | takenFrame =>
    exact widthsOk_takeFrame _ _ (widthsOk_of_entries h (by simp)) h
  case setTime e =>
    exact widthsOk_command (fun t ht => widthsOk_boundary _ _ (widthsOk_of_entries ht rfl)) h
  case bayReset =>
    refine widthsOk_of_entries (s := State.reset) nofun ?_
    simp [State.resetBay, State.resetBlocks, Ptb.reset, State.reset]
  case lineIdle | lineBusy | backoffExpiry | frameSent | collision | allotmentCompletion | gsenseEdge | emptyTransaction =>
    exact widthsOk_of_entries h (by simp)
  case measure => split <;> exact widthsOk_of_entries h (by simp)
  case droppedFrame => split <;> exact widthsOk_of_entries h (by simp)
  case formatRefusal => split <;> exact widthsOk_of_entries h (by simp)
  all_goals exact widthsOk_command (fun t ht => widthsOk_of_entries ht (by simp)) h

/-- Settles O8: entries come in their order and ranges, and the evaluations follow every change of what they read. -/
theorem peerTableKept : Obligations.PeerTableKept := by
  refine ⟨fun s t h ht => Step.step_preserves (fun _ _ h => h) peersOk_exec h ht, fun s t h hhead ht => ?_⟩
  obtain rfl | ⟨i, rest, hp, hi⟩ := Step.step_cases ht
  · exact h
  · exact peerWidthsOk_exec i (s.setPending rest) t (hhead i (by rw [hp]; rfl)) h hi

end Sys2Proof.Proofs.Peers
end

section
/-!
The event state (sections 7.5 to 7.9): what begins, updates and ends an event keeps its shape, and the baseline goes with the own
grant.
-/
namespace Sys2Proof.Proofs.Event

open Sys2Proof Sys2Proof.Machine
open Sys2Proof.Proofs.Peers (station_lnkBoundary station_missEpoch)

/-! ## The shape of the event state -/

/-- The registers of an event in progress, but for the number of its holder's last frame. -/
structure InEvent (s : State) : Prop where
  configured : s.isConfigured = true
  holder : s.rsv.holder.isSome = true
  demand : 0 < s.rsv.dActive
  standing : s.rsv.standing.isSome = true
  baseline : s.rsv.baseline = s.alt.grant

/-- None of the event while IDLE (R137). -/
structure NoEvent (r : Rsv) : Prop where
  holder : r.holder = none
  dActive : r.dActive = 0
  remaining : r.remaining = 0
  standing : r.standing = none
  baseline : r.baseline = 0
  members : r.members = []
  ownPledge : r.ownPledge = 0
  origin : r.origin = 0
  share : r.share = 0
  shareSum : r.shareSum = 0
  shortfall : r.shortfall = false

/-- The event state but for the number of the own last frame. -/
structure EventShape (s : State) : Prop where
  ownSeq : s.rsv.ownSeq < 256
  active : s.rsv.active = true → InEvent s
  idle : s.rsv.active = false → NoEvent s.rsv

/-- While the own bay holds the event, its last sequence is the own counter (R121). -/
def OwnLast (s : State) : Prop := s.rsv.active = true → s.rsv.holder = some s.ownBay → s.rsv.lastSeq = s.rsv.ownSeq

theorem reserveOk_iff {s : State} : s.ReserveOk ↔ EventShape s ∧ OwnLast s := by
  unfold State.ReserveOk OwnLast
  cases hactive : s.rsv.active
  · simp only [Bool.false_eq_true, if_false, false_imp_iff, and_true]
    constructor
    · rintro ⟨h0, h1, h2, h3, h4, h5, h6, h7, h8, h9, h10, h11⟩
      exact ⟨h0, by simp [hactive], fun _ => ⟨h1, h2, h3, h4, h5, h6, h7, h8, h9, h10, h11⟩⟩
    · rintro ⟨h0, -, hidle⟩
      obtain ⟨h1, h2, h3, h4, h5, h6, h7, h8, h9, h10, h11⟩ := hidle hactive
      exact ⟨h0, h1, h2, h3, h4, h5, h6, h7, h8, h9, h10, h11⟩
  · simp only [if_true, true_imp_iff]
    constructor
    · rintro ⟨h0, h1, h2, h3, h4, h5, h6⟩
      exact ⟨⟨h0, fun _ => ⟨h1, h2, h3, h4, h5⟩, by simp [hactive]⟩, h6⟩
    · rintro ⟨⟨h0, hin, -⟩, h6⟩
      obtain ⟨h1, h2, h3, h4, h5⟩ := hin hactive
      exact ⟨h0, h1, h2, h3, h4, h5, h6⟩

/-- The invariant and that the configuration stands exactly outside UNCONFIGURED, which PTB's invariant says. -/
structure Good (s : State) : Prop where
  station : s.lnk.station = .unconfigured ↔ s.cfg = none
  shape : EventShape s
  last : OwnLast s

theorem isConfigured_iff {s : State} : s.isConfigured = true ↔ s.lnk.station ≠ .unconfigured := by simp [State.isConfigured]

/-! ## What leaves the event alone -/

/-- The registers that the invariant reads, an event's countdown and members among them. -/
def eventView (s : State) :=
  (s.alt.grant, s.rsv.ownSeq, s.rsv.active, s.rsv.holder, s.rsv.lastSeq, s.rsv.dActive, s.rsv.remaining, s.rsv.standing,
    s.rsv.baseline, s.rsv.members, s.rsv.ownPledge, s.rsv.origin, s.rsv.share, s.rsv.shareSum, s.rsv.shortfall)

theorem isConfigured_congr {s t : State} (h : t.lnk.station = .unconfigured ↔ s.lnk.station = .unconfigured) :
    t.isConfigured = s.isConfigured := by
  rw [Bool.eq_iff_iff, isConfigured_iff, isConfigured_iff, ne_eq, ne_eq, h]

theorem Good.congr {s t : State} (h : Good s) (hst : t.lnk.station = .unconfigured ↔ s.lnk.station = .unconfigured)
    (hcfg : t.cfg = s.cfg) (hview : eventView t = eventView s) : Good t := by
  have hconf := isConfigured_congr hst
  obtain ⟨hstation, ⟨hseq, hactive, hidle⟩, hlast⟩ := h
  simp only [eventView, Prod.mk.injEq] at hview
  obtain ⟨e1, e2, e3, e4, e5, e6, e7, e8, e9, e10, e11, e12, e13, e14, e15⟩ := hview
  refine ⟨by rw [hst, hstation, hcfg], ⟨by rwa [e2], fun ha => ?_, fun ha => ?_⟩, fun ha hh => ?_⟩
  · obtain ⟨h1, h2, h3, h4, h5⟩ := hactive (e3 ▸ ha)
    exact ⟨by rwa [hconf], by rwa [e4], by rwa [e6], by rwa [e8], by rwa [e9, e1]⟩
  · obtain ⟨h1, h2, h3, h4, h5, h6, h7, h8, h9, h10, h11⟩ := hidle (e3 ▸ ha)
    exact ⟨by rwa [e4], by rwa [e6], by rwa [e7], by rwa [e8], by rwa [e9], by rwa [e10], by rwa [e11], by rwa [e12], by rwa [e13],
      by rwa [e14], by rwa [e15]⟩
  · rw [e5, e2]
    refine hlast (e3 ▸ ha) ?_
    rw [← e4, hh]
    simp [State.ownBay, hcfg]

theorem station_congr {s t : State} (h : t.lnk.station = s.lnk.station) :
    t.lnk.station = .unconfigured ↔ s.lnk.station = .unconfigured := by rw [h]

theorem Good.capture {s : State} (c : Cause) (d : BitVec 32) (b : Option Nat) (h : Good s) : Good (s.capture c d b) :=
  h.congr (station_congr (by simp)) (by simp) (by simp [eventView])

theorem Good.captureNat {s : State} (c : Cause) (d : Nat) (h : Good s) : Good (s.captureNat c d) := h.capture c _ none

theorem Good.raise {s : State} (n : Notice) (h : Good s) : Good (s.raise n) := h.congr Iff.rfl rfl rfl

/-! ## The own grant (R132) -/

theorem Good.setGrant {s : State} (g : Nat) (h : Good s) : Good (s.setGrant g) := by
  obtain ⟨hstation, ⟨hseq, hactive, hidle⟩, hlast⟩ := h
  refine ⟨by simpa using hstation, ⟨by simpa using hseq, fun ha => ?_, fun hn => ?_⟩, fun ha hh => ?_⟩
  · have ha : s.rsv.active = true := by simpa using ha
    obtain ⟨h1, h2, h3, h4, -⟩ := hactive ha
    exact ⟨by simpa [State.isConfigured] using h1, by simpa using h2, by simpa using h3, by simpa using h4,
      by simp [State.setGrant_rsv, ha]⟩
  · have hn : s.rsv.active = false := by simpa using hn
    simpa [State.setGrant_rsv, hn] using hidle hn
  · have := hlast (by simpa using ha) (by simpa [State.ownBay] using hh)
    simpa using this

theorem Good.capIsolated {s : State} (h : Good s) : Good s.capIsolated := by
  unfold State.capIsolated
  split
  · exact h.setGrant _
  · exact h

theorem Good.reevaluate {s : State} (h : Good s) : Good s.reevaluate := by
  unfold State.reevaluate
  exact h.capIsolated.congr (station_congr (by simp)) (by simp) (by simp [eventView])

theorem Good.enterIsolated {s : State} (hst : s.lnk.station ≠ .unconfigured) (h : Good s) : Good s.enterIsolated := by
  have hset : Good (s.setLnk { s.lnk with station := .isolated }) :=
    h.congr (by simp [hst]) rfl rfl
  exact (hset.capIsolated.captureNat _ _).raise _

theorem Good.missEpoch {s : State} (h : Good s) : Good s.missEpoch := by
  have hset : Good (s.setLnk { s.lnk with streak := min Config.isolationStreak (s.lnk.streak + 1) }) := h.congr Iff.rfl rfl rfl
  unfold State.missEpoch
  dsimp only
  split
  · rename_i hmiss
    exact hset.enterIsolated (by rw [hmiss.2]; nofun)
  · exact hset

theorem Good.listeningBoundary {s : State} (hst : s.lnk.station = .listening) (h : Good s) : Good s.listeningBoundary := by
  unfold State.listeningBoundary
  split
  · have hset : Good (s.setLnk { s.lnk with listening := 0 }) := h.congr Iff.rfl rfl rfl
    dsimp only
    split
    · exact hset.enterIsolated (by rw [State.setLnk_lnk, hst]; nofun)
    · exact h.congr (by simp [hst]) (by simp) (by simp [eventView])
  · exact h.congr Iff.rfl rfl rfl

theorem Good.lnkBoundary {s : State} (h : Good s) : Good s.lnkBoundary := by
  refine State.lnkBoundary_preserves (P := Good) (fun _ h => h.congr Iff.rfl rfl rfl)
    (fun _ h => h.congr (station_congr (by simp)) (by simp) (by simp [eventView])) (fun _ hst h => h.listeningBoundary hst)
    (fun t _ h => ?_) (fun _ h => h.congr (station_congr (by simp)) (by simp) (by simp [eventView])) s h
  obtain ⟨e, -⟩ | ⟨e, -⟩ | ⟨e, -⟩ := t.claimBoundary_cases <;> rw [e]
  · exact h
  · exact h.missEpoch
  · exact Good.missEpoch (h.congr (station_congr (by simp)) (by simp) (by simp [eventView]))

theorem Good.altComplete {s : State} (h : Good s) : Good s.altComplete := by
  unfold State.altComplete
  split
  · exact h
  · dsimp only
    split
    · exact h.congr Iff.rfl rfl rfl
    · exact Good.setGrant _ (h.congr Iff.rfl rfl rfl)

theorem Good.altTick {s : State} (h : Good s) : Good s.altTick := by
  unfold State.altTick
  split
  · exact h
  · split
    · exact h.altComplete
    · exact h.congr Iff.rfl rfl rfl

/-! ## EVENT frames (R122 to R128) -/

/-- A frame that a station may judge: a peer's, or its own with the number that its own counter has just reached (R119, R121). -/
def MayJudge (s : State) (origin seq : Nat) : Prop :=
  if origin = s.ownBay then
    seq = s.rsv.ownSeq ∧ (s.rsv.active = true → s.rsv.holder = some origin → isNewer seq s.rsv.lastSeq = true)
  else OwnLast s

/-- The end of an event leaves none of it (R137). -/
theorem Good.endEvent {s : State} (hstation : s.lnk.station = .unconfigured ↔ s.cfg = none) (hseq : s.rsv.ownSeq < 256) :
    Good s.endEvent := by
  have hrsv := s.endEvent_rsv
  refine ⟨by simpa using hstation, ⟨by simpa [hrsv] using hseq, by simp [hrsv], fun _ => ?_⟩, by simp [OwnLast, hrsv]⟩
  rw [hrsv]
  exact ⟨rfl, rfl, rfl, rfl, rfl, rfl, rfl, rfl, rfl, rfl, rfl⟩

/-- A demand above 0 for an event in progress (R126, R127). -/
theorem Good.changeDemand {s : State} {d : Nat} (origin : Nat) (hd : 0 < d) (hactive : s.rsv.active = true) (h : Good s) :
    Good (s.changeDemand origin d) := by
  obtain ⟨hstation, ⟨hseq, hin, -⟩, hlast⟩ := h
  obtain ⟨h1, h2, -, h4, h5⟩ := hin hactive
  have hset : Good ((s.setRsv { s.rsv with dActive := d }).computeShares false) := by
    refine ⟨by simpa using hstation, ⟨by simpa [State.computeShares_rsv] using hseq, fun _ => ?_, fun hn => ?_⟩, fun _ hh => ?_⟩
    · exact ⟨by simpa [State.isConfigured] using h1, by simpa [State.computeShares_rsv] using h2,
        by simpa [State.computeShares_rsv] using hd, by simpa [State.computeShares_rsv] using h4,
        by simpa [State.computeShares_rsv] using h5⟩
    · simp [State.computeShares_rsv, hactive] at hn
    · have := hlast hactive (by simpa [State.computeShares_rsv, State.ownBay] using hh)
      simpa [State.computeShares_rsv] using this
  exact hset.captureNat _ _

/-- The taking of an event (R123). -/
theorem Good.takeEvent {s : State} {origin seq d : Nat} (remaining : Nat) (hd : 0 < d) (hconf : s.isConfigured = true)
    (hstation : s.lnk.station = .unconfigured ↔ s.cfg = none) (hseq : s.rsv.ownSeq < 256)
    (hown : origin = s.ownBay → seq = s.rsv.ownSeq) : Good (s.takeEvent origin seq d remaining) := by
  unfold State.takeEvent State.altDiscard
  refine Good.raise _ (Good.captureNat _ _ ⟨by simpa using hstation, ⟨by simpa [State.computeShares_rsv] using hseq, fun _ => ?_,
    fun hn => ?_⟩, fun _ hh => ?_⟩)
  · exact ⟨by simpa [State.isConfigured] using hconf, by simp [State.computeShares_rsv],
      by simpa [State.computeShares_rsv] using hd, by simp [State.computeShares_rsv], by simp [State.computeShares_rsv]⟩
  · simp [State.computeShares_rsv] at hn
  · simp only [State.setAlt_rsv, State.computeShares_rsv, State.setRsv_rsv, Option.some.injEq] at hh ⊢
    exact hown (by simpa [State.ownBay] using hh)

theorem Good.judgeEvent {s : State} {origin seq : Nat} (d remaining : Nat) (hconf : s.isConfigured = true)
    (hstation : s.lnk.station = .unconfigured ↔ s.cfg = none) (hshape : EventShape s) (hmay : MayJudge s origin seq) :
    Good (s.judgeEvent origin seq d remaining) := by
  have hseq := hshape.ownSeq
  have howned : origin = s.ownBay → seq = s.rsv.ownSeq := fun h => by
    unfold MayJudge at hmay
    rw [if_pos h] at hmay
    exact hmay.1
  -- a holder other than the frame's sender, or an event not in progress, leaves the own last number as it was
  have hother : (s.rsv.active = true → s.rsv.holder = some origin → origin ≠ s.ownBay) → OwnLast s := by
    intro hne
    unfold MayJudge at hmay
    split at hmay
    · rename_i ho
      intro ha hh
      exact absurd ho (hne ha (ho ▸ hh))
    · exact hmay
  unfold State.judgeEvent
  split
  · rename_i hactive
    obtain ⟨h1, h2, h3, h4, h5⟩ := hshape.active hactive
    split
    · rename_i hholder
      split
      · split
        · exact Good.endEvent hstation hseq
        · rename_i hd
          have hset : Good (s.setRsv { s.rsv with lastSeq := seq, remaining := remaining }) := by
            refine ⟨hstation, ⟨hseq, fun _ => ⟨h1, h2, h3, h4, h5⟩, fun hn => ?_⟩, fun _ hh => ?_⟩
            · simp [hactive] at hn
            · have hh : s.rsv.holder = some s.ownBay := hh
              rw [hholder] at hh
              exact howned (Option.some.inj hh)
          unfold State.holderUpdate
          dsimp only
          split
          · exact hset
          · exact hset.changeDemand _ (by omega) hactive
      · rename_i hnotNewer
        refine ⟨hstation, hshape, hother fun _ _ ho => ?_⟩
        unfold MayJudge at hmay
        rw [if_pos ho] at hmay
        exact hnotNewer (hmay.2 hactive hholder)
    · rename_i hholder
      split
      · rename_i hgreater
        have hset : Good (s.setRsv { s.rsv with
            holder := some origin, lastSeq := seq, remaining := max s.rsv.remaining remaining }) := by
          refine ⟨hstation, ⟨hseq, fun _ => ⟨h1, rfl, h3, h4, h5⟩, fun hn => ?_⟩, fun _ hh => howned (Option.some.inj hh)⟩
          simp [hactive] at hn
        exact hset.changeDemand _ (by omega) hactive
      · exact ⟨hstation, hshape, hother fun _ hh => absurd hh hholder⟩
  · rename_i hidle
    split
    · exact Good.takeEvent _ ‹_› hconf hstation hseq howned
    · exact ⟨hstation, hshape, fun ha => absurd ha hidle⟩

/-- An own frame takes the next number, so the holder's own last frame is older (R119, R121). -/
theorem Good.sendEvent {s : State} (d remaining : Nat) (hconf : s.isConfigured = true) (h : Good s) :
    Good (s.sendEvent d remaining) := by
  obtain ⟨hstation, ⟨hseq, hin, hidle⟩, hlast⟩ := h
  unfold State.sendEvent
  refine Good.judgeEvent _ _ (by simpa [State.isConfigured] using hconf) (by simpa using hstation) ⟨?_, fun ha => ?_, fun hn => ?_⟩ ?_
  · simpa using Nat.mod_lt _ (by decide)
  · obtain ⟨h1, h2, h3, h4, h5⟩ := hin (by simpa using ha)
    exact ⟨by simpa [State.isConfigured] using h1, by simpa using h2, by simpa using h3, by simpa using h4, by simpa using h5⟩
  · obtain ⟨h1, h2, h3, h4, h5, h6, h7, h8, h9, h10, h11⟩ := hidle (by simpa using hn)
    constructor <;> simpa
  · unfold MayJudge
    rw [if_pos (by simp [State.ownBay])]
    refine ⟨by simp, fun ha hh => ?_⟩
    have := hlast (by simpa using ha) (by simpa using hh)
    simp only [State.enqueue_frame, State.setRsv_rsv, this]
    exact isNewer_next _ hseq

theorem Good.hearEvent {s : State} {b : Nat} (seq d remaining : Nat) (hr : s.receives = true) (hb : b ≠ s.ownBay) (h : Good s) :
    Good (s.judgeEvent b seq d remaining) := by
  refine Good.judgeEvent _ _ ?_ h.station h.shape ?_
  · simp only [State.receives, Bool.and_eq_true, decide_eq_true_eq] at hr
    exact isConfigured_iff.mpr hr.1.1
  · unfold MayJudge
    rw [if_neg hb]
    exact h.last

/-! ## Countdown, refresh and withdrawal -/

/-- Registers of an event in progress that are not part of its shape. -/
theorem Good.setRsv {s : State} {r : Rsv} (h : Good s) (hactive : r.active = s.rsv.active) (hseq : r.ownSeq = s.rsv.ownSeq)
    (hin : s.rsv.active = true → (r.holder, r.dActive, r.baseline, r.lastSeq) =
      (s.rsv.holder, s.rsv.dActive, s.rsv.baseline, s.rsv.lastSeq) ∧ r.standing.isSome = true)
    (hidle : s.rsv.active = false → NoEvent s.rsv → NoEvent r) : Good (s.setRsv r) := by
  obtain ⟨hstation, ⟨hseq', hact, hno⟩, hlast⟩ := h
  refine ⟨hstation, ⟨by simpa [hseq] using hseq', fun ha => ?_, fun hn => ?_⟩, fun ha hh => ?_⟩
  · have ha : s.rsv.active = true := hactive ▸ ha
    obtain ⟨heq, hstanding⟩ := hin ha
    simp only [Prod.mk.injEq] at heq
    obtain ⟨e1, e2, e3, -⟩ := heq
    obtain ⟨h1, h2, h3, -, h5⟩ := hact ha
    exact ⟨h1, by simpa [e1] using h2, by simpa [e2] using h3, hstanding, by simpa [e3] using h5⟩
  · have hn : s.rsv.active = false := hactive ▸ hn
    exact hidle hn (hno hn)
  · have ha : s.rsv.active = true := hactive ▸ ha
    obtain ⟨heq, -⟩ := hin ha
    simp only [Prod.mk.injEq] at heq
    obtain ⟨e1, -, -, e4⟩ := heq
    have := hlast ha (by rw [← e1]; exact hh)
    simpa [e4, hseq] using this

theorem Good.rsvCountdown {s : State} (h : Good s) : Good s.rsvCountdown := by
  unfold State.rsvCountdown
  split
  · exact h
  · rename_i hactive
    have hactive : s.rsv.active = true := by simpa using hactive
    have hin := h.shape.active hactive
    have hset : Good (s.setRsv { s.rsv with remaining := s.rsv.remaining - 1 }) :=
      h.setRsv rfl rfl (fun _ => ⟨rfl, hin.standing⟩) (by simp [hactive])
    dsimp only
    split
    · exact Good.endEvent h.station h.shape.ownSeq
    · split
      · unfold State.refreshBoundary
        split
        · exact hset.sendEvent _ _ hin.configured
        · exact hset.setRsv rfl rfl (fun _ => ⟨rfl, hin.standing⟩) (by simp [hactive])
      · exact hset

theorem Good.withdraw {s : State} (hactive : s.rsv.active = true) (h : Good s) : Good s.withdraw := by
  have hset : Good (s.setRsv { s.rsv with standing := some .withdrawn, share := 0 }) :=
    h.setRsv rfl rfl (fun _ => ⟨rfl, rfl⟩) (by simp [hactive])
  exact Good.raise _ (Good.captureNat _ _ (hset.congr (station_congr (by simp)) (by simp) (by simp [eventView])))

theorem active_of_mustWithdraw {s : State} (h : s.mustWithdraw = true) : s.rsv.active = true := by
  unfold State.mustWithdraw at h
  split at h
  · cases h
  · simp only [Bool.and_eq_true] at h
    exact h.1.1

theorem Good.dropSession {s : State} (h : Good s) : Good s.dropSession := by
  have hzero : Good (((s.setSes none).altDiscard).setGrant 0) :=
    Good.setGrant 0 (h.congr Iff.rfl rfl rfl)
  have hend : Good (((s.setSes none).altDiscard.setGrant 0).rsvSessionEnd) := by
    unfold State.rsvSessionEnd
    split
    · rename_i hw
      simp only [Bool.and_eq_true] at hw
      exact hzero.withdraw hw.1
    · exact hzero
  unfold State.dropSession
  exact hend.congr (station_congr (by simp)) (by simp) (by simp [eventView])

theorem Good.windowBoundary {s : State} (h : Good s) : Good s.windowBoundary := by
  unfold State.windowBoundary
  split
  · exact h
  · split
    · split
      · unfold State.closeRestored
        exact h.congr (station_congr (by simp)) (by simp) (by simp [eventView])
      · unfold State.closeCold
        dsimp only
        split
        · exact h.congr (station_congr (by simp)) (by simp) (by simp [eventView])
        · exact Good.dropSession (h.congr (station_congr (by simp)) (by simp) (by simp [eventView]))
    · exact h.congr Iff.rfl rfl rfl

theorem Good.boundary {s : State} (rollover restart : Bool) (h : Good s) : Good (s.boundary rollover restart) := by
  refine State.boundary_preserves (P := Good) ?clock ?roll (fun s h => Good.reevaluate (s := s.setPtb _) (h.congr Iff.rfl rfl rfl))
    (fun _ h => h.lnkBoundary) ?abandon (fun _ h => h.rsvCountdown) ?session ?claim
    (fun _ hw h => h.withdraw (active_of_mustWithdraw hw)) (fun _ h => h.windowBoundary) ?waits ?holds ?choices ?follow
    rollover restart s h
  all_goals
    intros
    exact Good.congr ‹_› (station_congr (by simp)) (by simp) (by simp [eventView])

/-! ## Tick events -/

/-- The monitors move no demand in UNCONFIGURED. -/
theorem configured_of_demandChanged {s : State} (hstation : s.lnk.station = .unconfigured ↔ s.cfg = none)
    (h : demandChanged s (s.setRsv { s.rsv with bands := s.steppedBands }) = true) : s.isConfigured = true := by
  rw [isConfigured_iff, ne_eq, hstation]
  intro hcfg
  simp [demandChanged, State.bandDemand, hcfg] at h

theorem Good.bands {s : State} (h : Good s) : Good (s.setRsv { s.rsv with bands := s.steppedBands }) :=
  h.congr Iff.rfl rfl rfl

theorem Good.tickWork {s : State} (h : Good s) : Good s.tickWork := by
  refine State.tickWork_preserves (P := Good) ?close ?meter ?openx (fun _ h => h.bands)
    (fun s hd h => h.sendEvent _ _ (configured_of_demandChanged (s := s) h.station hd)) ?watch (fun _ h => h.altTick) ?choices ?follow s h
  all_goals
    intros
    exact Good.congr ‹_› (station_congr (by simp)) (by simp) (by simp [eventView])

theorem Good.setClk {s : State} (c : Clk) (h : Good s) : Good (s.setClk c) := h.congr Iff.rfl rfl rfl

theorem Good.tickEvent {s : State} (h : Good s) : Good s.tickEvent := by
  unfold State.tickEvent
  split
  · exact (h.setClk _).tickWork
  · split
    · exact (h.setClk _).tickWork
    · exact (h.setClk _).tickWork.boundary _ _

theorem Good.epochBoundary {s : State} (h : Good s) : Good s.epochBoundary := by
  unfold State.epochBoundary
  split
  · exact (h.setClk _).boundary _ _
  · exact h

/-! ## The other commands -/

theorem Good.deliverClaim {s : State} (b e : Nat) (c : Claim) (h : Good s) : Good (s.deliverClaim b e c) := by
  have hsync : Good (s.maxSync b e) := by
    unfold State.maxSync
    dsimp only
    split
    · exact h
    · split
      · exact ((h.setClk _).captureNat _ _).boundary _ _
      · split
        · exact h.congr (station_congr (by simp)) (by simp) (by simp [eventView])
        · exact h
  exact Good.reevaluate (s := (s.maxSync b e).setPtb _) (hsync.congr Iff.rfl rfl rfl)

theorem Good.hearOwnBay {s : State} (h : Good s) : Good s.hearOwnBay := by
  have hheard : Good (((s.setLnk { s.lnk with dupBay := true }).captureNat .dupBay 0).raise .dupBay) :=
    Good.raise _ (Good.captureNat _ _ (h.congr Iff.rfl rfl rfl))
  unfold State.hearOwnBay
  split
  · exact h
  · dsimp only
    split
    · rename_i hactive
      exact hheard.enterIsolated (by rw [hactive]; nofun)
    · exact hheard

theorem Good.collided {s : State} (h : Good s) : Good s.collided := by
  unfold State.collided
  split
  · rename_i k _ held _
    have hstopped : Good (s.stopDriving (queueAfterCollision s.lnk.queue k held)) :=
      h.congr (station_congr (by simp)) (by simp) (by simp [eventView])
    dsimp only
    split
    · exact hstopped.missEpoch
    · exact hstopped
  · exact h

theorem Good.sentWhole {s : State} (h : Good s) : Good s.sentWhole := by
  refine h.congr ?_ (by simp) (by simp [eventView])
  unfold State.sentWhole
  split
  · dsimp only
    split
    · unfold State.claimSent
      dsimp only
      split
      · rename_i hends
        have hiso : s.lnk.station = .isolated := by simpa using hends.1
        simp [hiso]
      · simp
    · simp
  · exact Iff.rfl

/-- A station not yet configured has no event, whose shape does not read the configuration. -/
theorem Good.configureWith {s : State} (r : ConfigRecord) (hst : s.lnk.station = .unconfigured) (h : Good s) :
    Good (s.configureWith r) := by
  have hidle : s.rsv.active = false := by
    by_contra hactive
    have hconf := (h.shape.active (by simpa using hactive)).configured
    simp [State.isConfigured, hst] at hconf
  refine ⟨by simp [State.configureWith], ⟨by simpa using h.shape.ownSeq, ?_, ?_⟩, ?_⟩
  · simp [hidle]
  · simpa using h.shape.idle
  · simp [OwnLast, hidle]

theorem Good.plugIn {s : State} (p : PlugFields) (h : Good s) : Good (s.plugIn p) := by
  have hdup : Good ((s.setSes (some (s.newSession p))).evalDupBus) :=
    h.congr (station_congr (by simp)) (by simp) (by simp [eventView])
  have hbegun : Good ((s.setSes (some (s.newSession p))).evalDupBus.rsvSessionBegin) := by
    unfold State.rsvSessionBegin
    split
    · rename_i hactive
      have hset := hdup.setRsv (r := { (s.setSes (some (s.newSession p))).evalDupBus.rsv with standing := some .outside, share := 0 })
        rfl rfl (fun _ => ⟨rfl, rfl⟩) (fun hn => absurd hn (by rw [hactive]; nofun))
      exact hset.congr (station_congr (by simp)) (by simp) (by simp [eventView])
    · exact hdup
  unfold State.plugIn
  dsimp only
  split
  · exact hbegun.congr (station_congr (by simp)) (by simp) (by simp [eventView, State.restoreLocal])
  · exact hbegun.congr (station_congr (by simp)) (by simp) (by simp [eventView])

theorem Good.unplugNow {s : State} (h : Good s) : Good s.unplugNow := by
  unfold State.unplugNow
  split
  · exact h
  · split
    · unfold State.unplugPending
      dsimp only
      split <;> exact Good.dropSession (h.congr (station_congr (by simp)) (by simp) (by simp [eventView]))
    · exact Good.dropSession (h.congr (station_congr (by simp)) (by simp) (by simp [eventView]))

theorem Good.dispatchDemand {s : State} (d m : Nat) (hconf : s.isConfigured = true) (h : Good s) :
    Good (s.dispatchDemand d m) := by
  have hset : Good (s.setHostDemand d m) := h.congr (station_congr (by simp)) (by simp) (by simp [eventView])
  unfold State.dispatchDemand
  dsimp only
  split
  · exact hset.sendEvent _ _ (by simpa [State.isConfigured] using hconf)
  · exact hset

theorem noEvent_bayReset (r : Rsv) : NoEvent r.bayReset := ⟨rfl, rfl, rfl, rfl, rfl, rfl, rfl, rfl, rfl, rfl, rfl⟩

/-- At a reset there is no event and no configuration. -/
theorem good_of_reset {s : State} {r : Rsv} (hst : s.lnk.station = .unconfigured) (hcfg : s.cfg = none) (hrsv : s.rsv = r.bayReset) :
    Good s := by
  have hidle : s.rsv.active = false := by rw [hrsv]; rfl
  refine ⟨by simp [hst, hcfg], ⟨?_, by simp [hidle], fun _ => ?_⟩, by simp [OwnLast, hidle]⟩
  · rw [hrsv]
    exact Nat.zero_lt_succ _
  · rw [hrsv]
    exact noEvent_bayReset r

theorem good_exec (i : Instr) (s t : State) (h : Good s) (ht : exec i s = .next t) : Good t := by
  refine exec_preserves (P := Good) ?port ?choices (fun _ _ => good_of_reset (r := Rsv.reset) rfl rfl rfl) (fun _ h => h.tickEvent)
    (fun _ h => h.epochBoundary) ?dropped (fun _ _ h => h.hearOwnBay) (fun _ b e c _ _ _ _ _ h => h.deliverClaim b e c)
    (fun _ b q d n hr _ _ hown _ h => h.hearEvent q d n hr hown) ?query ?offer ?taken ?idle ?busy ?drive (fun _ h => h.sentWhole)
    (fun _ h => h.collided) (fun _ h => h.altComplete) ?measure ?edge (fun _ r hst _ h => h.configureWith r hst)
    (fun s e _ h => ((h.setClk _).setClk _).boundary _ _) (fun _ p _ _ _ h => h.plugIn p) ?vehicle ?chain
    (fun _ h => h.unplugNow) (fun _ d m hconf h => h.dispatchDemand d m hconf) ?mark ?close ?release ?counters ?snapshot ?reset
    i s t h ht
  case reset =>
    intro s _
    exact good_of_reset (r := s.rsv) (by simp [State.resetBay, State.resetBlocks, Lnk.atReset, Lnk.reset])
      (by simp [State.resetBay, State.resetBlocks]) (by simp [State.resetBay, State.resetBlocks])
  all_goals
    intros
    exact Good.congr ‹_› (station_congr (by simp)) (by simp) (by simp [eventView])

/-- Settles O9: with the configuration tied to the station state, each operation keeps the event's shape and its baseline. -/
theorem reserveStateKept : Obligations.ReserveStateKept := by
  intro s t hpeers hreserve ht
  obtain ⟨hshape, hlast⟩ := reserveOk_iff.mp hreserve
  have hgood := Step.step_preserves (P := Good) (fun _ _ h => h.congr Iff.rfl rfl rfl) good_exec
    ⟨(Peers.peersOk_iff.mp hpeers).1.configured, hshape, hlast⟩ ht
  exact reserveOk_iff.mpr ⟨hgood.shape, hgood.last⟩

end Sys2Proof.Proofs.Event
end

section
/-!
The machine: a step and its command (O1, O2), and the state after reset (O4).
-/
namespace Sys2Proof.Proofs.Reset

open Sys2Proof Sys2Proof.Machine

/-- Settles O1: a step reads nothing but the front of the queue. -/
theorem stepTakesTheFrontCommand : Obligations.StepTakesTheFrontCommand := by
  refine ⟨fun c rest s => rfl, fun s h => ?_⟩
  unfold step
  rw [h]

/-- No command touches the queue of those that wait. -/
theorem exec_pending {i : Instr} {s t : State} (ht : exec i s = .next t) : t.pending = s.pending := by
  refine exec_preserves (P := fun u => u.pending = s.pending) ?_ ?_ (fun _ h => h) ?_ ?_ ?_ ?_ ?_ ?_ ?_ ?_ ?_ ?_ ?_ ?_ ?_ ?_ ?_ ?_ ?_
    ?_ ?_ ?_ ?_ ?_ ?_ ?_ ?_ ?_ ?_ ?_ ?_ ?_ i s t rfl ht
  all_goals
    intros
    refine Eq.trans ?_ ‹_ = s.pending›
    simp

/-- Settles O2: each command answers, and each of its operations leaves the queue. -/
theorem everyCommandAnswersANextState : Obligations.EveryCommandAnswersANextState := fun c s =>
  let ⟨t, ht⟩ := exec_total c s
  ⟨t, ht, exec_pending ht⟩

/-- Of the conditions, CLOCK_UNSET alone holds after reset, and its flag is the one that is set. -/
theorem reset_noticesOk : State.reset.NoticesOk := by
  intro n
  cases n <;> decide

/-- Settles O4: the reset state holds no session, peer, frame, context or record, so that each invariant is a check of constants. -/
theorem resetMeetsTheInvariants : Obligations.ResetMeetsTheInvariants := by
  refine ⟨by decide, by decide, by decide, ?peers, nofun, by decide, by decide, by decide, by decide, by decide, nofun,
    reset_noticesOk⟩
  case peers => exact ⟨by decide, by decide, nofun, by decide, nofun, by simp [State.reset, Ptb.reset], by simp [State.reset, Ptb.reset]⟩

end Sys2Proof.Proofs.Reset
end

section
/-!
The stages of a command of the bay port (R177 to R179): what a refusal and an answer come down to, and O16.
-/
namespace Sys2Proof.Proofs.Port

open Sys2Proof Sys2Proof.Machine

variable {i : Instr} {s : State} {kind : Nat} {stateOk : Bool} {fail : Option Nat} {effect : State → State}
  {payload : State → List Byte}

/-! ## The outcomes of the stages -/

theorem refused_of_state (h : exec i s = .next (s.command kind false fail effect payload)) :
    Refused i s kind .state s.statePayload := h

theorem refused_of_range {n : Nat} (h : exec i s = .next (s.command kind true (some n) effect payload)) :
    Refused i s kind .range (u8 n) := h

/-- A taken command answers OK with the state that its effect leaves. -/
theorem answers_of_taken {P : State → Prop} (h : exec i s = .next (s.command kind true none effect payload))
    (hP : P ((effect s.counted).answerWith kind .ok (payload (effect s.counted)))) : Answers i s P := ⟨_, h, hP⟩

/-- An answer names the station state and the flags as they stand, with the count that the command brought. -/
theorem responds_answerWith {t : State} (status : Status) (bytes : List Byte) (h : t.prt.answer = nextAnswer s.prt.answer) :
    Responds s (t.answerWith kind status bytes) kind status bytes := by
  refine ⟨h, ?_⟩
  rw [← h]
  rfl

theorem answered_of_command (h : exec i s = .next (s.command kind stateOk fail effect payload))
    (hcount : (effect s.counted).prt.answer = nextAnswer s.prt.answer) :
    ∃ status bytes, status ≠ .format ∧ (Answers i s fun t => Responds s t kind status bytes) ∧
      (status ≠ .ok → Refused i s kind status bytes) := by
  cases stateOk with
  | false => exact ⟨.state, s.statePayload, nofun, ⟨_, h, responds_answerWith _ _ rfl⟩, fun _ => refused_of_state h⟩
  | true =>
    cases fail with
    | some n => exact ⟨.range, u8 n, nofun, ⟨_, h, responds_answerWith _ _ rfl⟩, fun _ => refused_of_range h⟩
    | none => exact ⟨.ok, payload (effect s.counted), nofun, ⟨_, h, responds_answerWith _ _ hcount⟩, fun hok => absurd rfl hok⟩

@[simp] theorem counted_answer (s : State) : s.counted.prt.answer = nextAnswer s.prt.answer := rfl

/-- Settles O16: every port command goes through the same stages, and no effect touches the answer count. -/
theorem everyPortCommandIsAnswered : Obligations.EveryPortCommandIsAnswered := by
  intro i k s hkind hreset
  cases i <;> simp only [Instr.portKind, Option.some.injEq, reduceCtorEq] at hkind
  case bayReset => exact absurd rfl hreset
  all_goals
    subst hkind
    exact answered_of_command rfl (by simp)

end Sys2Proof.Proofs.Port
end

section
/-!
CONFIGURE (R180, R181) and the state after power-on (O18, O3): the checks of the record are its fields' ranges, in field order.
-/
namespace Sys2Proof.Proofs.Configure

open Sys2Proof Sys2Proof.Machine

/-! ## The first field that fails -/

theorem firstFail_eq_none {checks : List (Nat × Bool)} (h : ∀ c ∈ checks, c.2 = true) : firstFail checks = none := by
  induction checks with
  | nil => rfl
  | cons c rest ih =>
    obtain ⟨hc, hrest⟩ := List.forall_mem_cons.mp h
    rw [firstFail, if_pos hc, ih hrest]

theorem firstFail_eq_some {checks : List (Nat × Bool)} {ok : Nat → Bool} {n : Nat}
    (hchecks : ∀ c ∈ checks, c.2 = ok c.1) (hsorted : (checks.map Prod.fst).Pairwise (· < ·))
    (hn : n ∈ checks.map Prod.fst) (hfail : ok n = false) (hbefore : ∀ m ∈ checks.map Prod.fst, m < n → ok m = true) :
    firstFail checks = some n := by
  induction checks with
  | nil => simp at hn
  | cons c rest ih =>
    obtain ⟨hc, hrest⟩ := List.forall_mem_cons.mp hchecks
    rw [List.map_cons, List.pairwise_cons] at hsorted
    obtain ⟨hfirst, hsorted⟩ := hsorted
    rw [firstFail, hc]
    by_cases hcn : c.1 = n
    · simp [hcn, hfail]
    · have hmem : n ∈ rest.map Prod.fst := by
        rw [List.map_cons, List.mem_cons] at hn
        exact hn.resolve_left (Ne.symm hcn)
      rw [if_pos (hbefore c.1 (by simp) (hfirst n hmem))]
      exact ih hrest hsorted hmem fun m hm => hbefore m (List.mem_cons_of_mem _ hm)

/-! ## The fields of a configuration record -/

/-- The checks of a band entry are its six fields, in order. -/
theorem bandChecks_eq (base : Nat) (b : BandCfg) :
    bandChecks base b = (List.range 6).map fun k => (base + k, bandFieldOk b k) := by
  have hle : decide (b.enabled ≤ 1) = decide (b.enabled = 0 ∨ b.enabled = 1) := decide_eq_decide.mpr (by omega)
  simp [bandChecks, bandFieldOk, List.range, List.range.loop, bandLimitOk, within, Bool.and_assoc, hle]

/-- The fields that have a check: all but the service limit, the commitment and the mask. -/
theorem configChecks_numbers (r : ConfigRecord) : (configChecks r).map Prod.fst =
    (List.range 43).filter fun n => decide (n ∉ [0, 4, 11, 42]) := rfl

theorem configChecks_ok (r : ConfigRecord) : ∀ c ∈ configChecks r, c.2 = configFieldOk r c.1 := by
  have hlimit (f n : Nat) : decide (r.feeder ≠ f ∨ 1 ≤ n) = decide (r.feeder = f → 1 ≤ n) := decide_eq_decide.mpr (by omega)
  simp only [configChecks, bandChecks_eq, List.forall_mem_append]
  refine ⟨⟨⟨⟨?head, ?_⟩, ?_⟩, ?_⟩, ?_⟩
  case head => simp [limitCheck, hlimit, within, configFieldOk, PerFeeder.get]
  all_goals
    simp only [List.forall_mem_map, List.mem_range]
    intro k hk
    interval_cases k <;> rfl

theorem configFieldOk_unchecked (r : ConfigRecord) {n : Nat} (hn : n ∈ [4, 11, 42]) : configFieldOk r n = true := by
  simp only [List.mem_cons, List.not_mem_nil, or_false] at hn
  obtain rfl | rfl | rfl := hn <;> rfl

theorem configChecks_pass {r : ConfigRecord} (h : ∀ n, 1 ≤ n → n ≤ 42 → configFieldOk r n = true) :
    firstFail (configChecks r) = none := by
  refine firstFail_eq_none fun c hc => ?_
  have hmem : c.1 ∈ (configChecks r).map Prod.fst := List.mem_map_of_mem hc
  simp only [configChecks_numbers, List.mem_filter, List.mem_range, List.mem_cons, List.not_mem_nil, or_false, not_or,
    decide_eq_true_eq] at hmem
  rw [configChecks_ok r c hc]
  exact h _ (by omega) (by omega)

theorem configChecks_fail {r : ConfigRecord} {n : Nat} (h1 : 1 ≤ n) (h42 : n ≤ 42) (hfail : configFieldOk r n = false)
    (hbefore : ∀ m, 1 ≤ m → m < n → configFieldOk r m = true) : firstFail (configChecks r) = some n := by
  refine firstFail_eq_some (configChecks_ok r) ?_ ?_ hfail fun m hm hlt => hbefore m ?_ hlt
  · rw [configChecks_numbers]
    exact List.Pairwise.filter _ List.pairwise_lt_range
  · have hchecked : n ∉ [4, 11, 42] := fun hn => by simp [configFieldOk_unchecked r hn] at hfail
    simp only [List.mem_cons, List.not_mem_nil, or_false, not_or] at hchecked
    simp only [configChecks_numbers, List.mem_filter, List.mem_range, List.mem_cons, List.not_mem_nil, or_false, not_or,
      decide_eq_true_eq]
    omega
  · simp only [configChecks_numbers, List.mem_filter, List.mem_cons, List.not_mem_nil, or_false, not_or,
      decide_eq_true_eq] at hm
    omega

/-! ## The command (O18) -/

/-- A LISTENING station's setpoint is 0. -/
theorem follow_of_listening {s : State} (h : s.lnk.station = .listening) : s.follow = s.setStg { s.stg with applied := 0 } := by
  have hforced : s.forcedZero = true := Setpoint.forcedZero_iff.mpr (.inr (.inl h))
  obtain ⟨hlow, htarget⟩ := Setpoint.bounds_of_forcedZero hforced
  have happlied : (if s.stg.isOpen then 0 else clampInt s.stg.applied s.lowerBound s.target) = 0 := by
    rw [hlow, htarget]
    split
    · rfl
    · rw [Setpoint.clampInt_eq_max_min le_rfl]
      omega
  unfold State.follow
  rw [happlied]

theorem configure_taken {s : State} {r : ConfigRecord} (hs : s.lnk.station = .unconfigured)
    (hr : ∀ n, 1 ≤ n → n ≤ 42 → configFieldOk r n = true) :
    exec (.configure r) s = .next ((s.counted.configureWith r).answerWith 1 .ok [3#8]) := by
  have hstate : (!s.isConfigured) = true := by simp [State.isConfigured, hs]
  simp only [exec, execConfigure, hstate, configChecks_pass hr]
  rfl

theorem configureWith_eq (s : State) (r : ConfigRecord) : s.configureWith r = { s with
    cfg := some r
    lnk := { s.lnk with station := .listening, listening := 3, armed := s.lnk.lineIdle }
    log := { s.log with mask := r.mask &&& 0x1FFFFF#24 }
    stg := { s.stg with applied := 0 } } := by
  unfold State.configureWith
  rw [follow_of_listening rfl]
  rfl

/-- Settles O18: the checks are the fields in order, and the accepted record moves the setpoint to 0 with the station state. -/
theorem configureChecksAndStores : Obligations.ConfigureChecksAndStores := by
  intro r s hs
  refine ⟨fun hr => ?_, fun n h1 h42 hfail hbefore => ?_⟩
  · rw [configure_taken hs hr, configureWith_eq]
    rfl
  · have hstate : (!s.isConfigured) = true := by simp [State.isConfigured, hs]
    exact Port.refused_of_range (by
      simp only [exec, execConfigure, hstate, configChecks_fail h1 h42 hfail hbefore]
      rfl)

/-! ## Power-on (O3) -/

theorem powerOn_attn (s : State) : s.powerOn.attn = false :=
  calc s.powerOn.attn = State.reset.attn := rfl
    _ = false := by decide

theorem powerOnValues_powerOn (s : State) : PowerOnValues s.powerOn := by
  refine ⟨rfl, ⟨rfl, rfl, rfl, rfl, rfl, rfl, rfl⟩, rfl, ⟨rfl, rfl, rfl, rfl, rfl⟩, rfl, rfl, rfl,
    ⟨rfl, rfl, rfl, rfl, rfl, rfl, rfl, rfl, rfl, rfl⟩, rfl, rfl, ?rsv, ⟨rfl, rfl, rfl⟩, ⟨rfl, rfl, rfl, rfl, rfl, rfl⟩,
    ⟨rfl, rfl, rfl, rfl, rfl, rfl, rfl, rfl, powerOn_attn s⟩, rfl⟩
  case rsv => exact ⟨rfl, rfl, rfl, rfl, rfl, rfl, rfl, rfl, rfl, rfl, rfl, rfl, rfl, rfl, rfl, rfl, rfl, rfl, rfl, rfl, rfl, rfl, rfl⟩

/-- A frame command of a station whose receive path is shut changes nothing (R14). -/
theorem idle_of_not_receives {u : State} {i : Instr} {b : Nat} (hu : u.receives = false) (hi : frameSender i = some b) :
    Idle i u := by
  cases i <;> simp only [frameSender, reduceCtorEq] at hi <;>
    simp [Idle, exec, execClaimFrame, execEventFrame, execQueryFrame, execOfferFrame, execTakenFrame, State.takeFrame, hu]

/-- Settles O3: power-on keeps nothing but the queue and the line's level, by which CONFIGURE arms the receive path. -/
theorem powerOnResetLeavesItsValues : Obligations.PowerOnResetLeavesItsValues := by
  refine ⟨⟨powerOnValues_powerOn State.reset, rfl⟩, fun s => ⟨s.powerOn, rfl, powerOnValues_powerOn s, rfl, rfl, fun hline r hr => ?_⟩⟩
  refine ⟨_, configure_taken rfl hr, ?_⟩
  have hshut : ((s.powerOn.counted.configureWith r).answerWith 1 .ok [3#8]).receives = false := by
    rw [configureWith_eq]
    simp only [State.receives, State.answerWith, State.setPrt_lnk]
    rw [show s.powerOn.counted.lnk.lineIdle = false from hline]
    rfl
  exact ⟨hshut, fun i b => idle_of_not_receives hshut⟩

end Sys2Proof.Proofs.Configure
end

section
/-!
The notice flags (R183, R184): CLEAR_FLAGS spares the conditions that hold, and no operation leaves a condition that holds
without its flag (O20).
-/
namespace Sys2Proof.Proofs.Notices

open Sys2Proof Sys2Proof.Machine

/-! ## CLEAR_FLAGS -/

theorem heldFlags_getLsbD (s : State) (ns : List Notice) (acc : BitVec 20) (i : Nat) :
    (ns.foldl (fun acc n => if s.holds n then acc ||| n.flag else acc) acc).getLsbD i =
      (acc.getLsbD i || ns.any fun n => s.holds n && n.flag.getLsbD i) := by
  induction ns generalizing acc with
  | nil => simp
  | cons n ns ih =>
    rw [List.foldl_cons, ih, List.any_cons]
    by_cases h : s.holds n = true <;> simp [h, Bool.or_assoc]

theorem flag_getLsbD (n m : Notice) : n.flag.getLsbD m.bit = decide (m = n) := by
  rw [Notice.flag, BitVec.getLsbD_twoPow]
  cases n <;> cases m <;> rfl

/-- The set of the conditions that hold has the flag of each of them, and no other. -/
theorem heldFlags_condition (s : State) (n : Notice) : (s.heldFlags conditionNotices).getLsbD n.bit = s.holds n := by
  rw [State.heldFlags, heldFlags_getLsbD]
  cases n <;> simp [conditionNotices, flag_getLsbD, State.holds]

theorem bit_lt (n : Notice) : n.bit < 20 := by cases n <;> decide

theorem flagSet_getLsbD (set : BitVec 24) (n : Notice) : (flagSet set).getLsbD n.bit = set.getLsbD n.bit := by
  simp only [flagSet, BitVec.getLsbD_setWidth, bit_lt, decide_true, Bool.true_and]

theorem clearNotices_flagged (s : State) (set : BitVec 24) (n : Notice) :
    (s.clearNotices (flagSet set)).flagged n = (s.flagged n && !(set.getLsbD n.bit && !s.holds n)) := by
  simp only [State.flagged, State.clearNotices, State.setPrt_prt, BitVec.getLsbD_and, BitVec.getLsbD_not, heldFlags_condition,
    flagSet_getLsbD, bit_lt, decide_true, Bool.true_and]

theorem exec_clearFlags (set : BitVec 24) (s : State) : exec (.clearFlags set) s =
    .next ((s.counted.clearNotices (flagSet set)).answerWith 17 .ok []) := rfl

/-! ## The flags of the conditions that hold -/

/-- The registers that the conditions are read from. -/
def conditions (s : State) : Option (Bool × Bool) × (Bool × Bool) × Bool × (Station × Bool) × (Bool × Bool) × (Bool × Bool) :=
  (s.ses.map fun v => (v.atRisk, v.late), (s.stg.meterLost, s.stg.stageFault), s.rsv.senseFault,
    (s.lnk.station, s.lnk.dupBay), (s.ptb.dupBus, s.ptb.limitDisagree), (s.clk.set, s.clk.disagree.isSome))

theorem holds_congr {s t : State} (h : conditions t = conditions s) (n : Notice) : t.holds n = s.holds n := by
  simp only [conditions, Prod.mk.injEq] at h
  obtain ⟨hses, ⟨hmeter, hstage⟩, hsense, ⟨hstation, hbay⟩, ⟨hbus, hlimit⟩, hset, hdisagree⟩ := h
  have hses' : t.ses.map Session.atRisk = s.ses.map Session.atRisk ∧ t.ses.map Session.late = s.ses.map Session.late := by
    cases hs : s.ses <;> cases ht : t.ses <;> simp_all
  cases n <;> simp [State.holds, *]

variable {s t : State}

/-- A flag stays set, and each condition that holds now held before. -/
theorem noticesOk_of_holds (h : s.NoticesOk) (hflags : ∀ n, s.flagged n = true → t.flagged n = true)
    (hholds : ∀ n, t.holds n = true → s.holds n = true) : t.NoticesOk :=
  fun n hn => hflags n (h n (hholds n hn))

theorem noticesOk_congr (h : s.NoticesOk) (hcond : conditions t = conditions s) (hflags : t.prt.flags = s.prt.flags) :
    t.NoticesOk :=
  noticesOk_of_holds h (fun n hn => by rwa [State.flagged_congr hflags]) fun n hn => by rwa [holds_congr hcond] at hn

theorem noticesOk_less (h : s.NoticesOk) (hflags : t.prt.flags = s.prt.flags)
    (hholds : ∀ n, t.holds n = true → s.holds n = true) : t.NoticesOk :=
  noticesOk_of_holds h (fun n hn => by rwa [State.flagged_congr hflags]) hholds

theorem capture_holds (s : State) (c : Cause) (d : BitVec 32) (b : Option Nat) (n : Notice) :
    (s.capture c d b).holds n = s.holds n := holds_congr (by simp [conditions]) n

theorem noticesOk_capture (c : Cause) (d : BitVec 32) (b : Option Nat) (h : s.NoticesOk) : (s.capture c d b).NoticesOk :=
  noticesOk_of_holds h (s.capture_flagged c d b) fun n hn => by rwa [capture_holds] at hn

theorem noticesOk_captureNat (c : Cause) (d : Nat) (h : s.NoticesOk) : (s.captureNat c d).NoticesOk := noticesOk_capture c _ none h

/-- The flags of all conditions that hold are set, but for those of `ns`. -/
def Missing (s : State) (ns : List Notice) : Prop := ∀ m, s.holds m = true → s.flagged m = true ∨ m ∈ ns

theorem noticesOk_of_missing (h : Missing s []) : s.NoticesOk := fun m hm => (h m hm).resolve_right (by simp)

theorem missing_raise {n : Notice} {ns : List Notice} (h : Missing s (n :: ns)) : Missing (s.raise n) ns := by
  intro m hm
  rw [State.raise_flagged]
  rw [holds_congr rfl] at hm
  obtain hf | hmem := h m hm
  · simp [hf]
  · obtain rfl | hmem := List.mem_cons.mp hmem
    · simp
    · exact .inr hmem

theorem missing_captureNat {ns : List Notice} (c : Cause) (d : Nat) (h : Missing s ns) : Missing (s.captureNat c d) ns := by
  intro m hm
  rw [State.captureNat, capture_holds] at hm
  exact (h m hm).imp_left (s.captureNat_flagged c d m)

/-- A notice raised stands for the one condition that may have begun. -/
theorem noticesOk_raise_of {n : Notice} (h : ∀ m, m ≠ n → s.holds m = true → s.flagged m = true) : (s.raise n).NoticesOk := by
  refine noticesOk_of_missing (missing_raise fun m hm => ?_)
  by_cases hmn : m = n
  · simp [hmn]
  · exact .inl (h m hmn hm)

theorem noticesOk_raise (n : Notice) (h : s.NoticesOk) : (s.raise n).NoticesOk := noticesOk_raise_of fun m _ => h m

/-- A condition begins, with its capture and its notice. -/
theorem noticesOk_begins {n : Notice} (c : Cause) (d : Nat) (h : s.NoticesOk) (hflags : t.prt.flags = s.prt.flags)
    (hholds : ∀ m, m ≠ n → t.holds m = true → s.holds m = true) : ((t.captureNat c d).raise n).NoticesOk := by
  refine noticesOk_raise_of fun m hmn hm => t.captureNat_flagged c d m ?_
  rw [State.captureNat, capture_holds] at hm
  rw [State.flagged_congr hflags]
  exact h m (hholds m hmn hm)

/-! ## The station state -/

theorem noticesOk_enterIsolated (h : s.NoticesOk) : s.enterIsolated.NoticesOk := by
  refine noticesOk_begins .isolated 0 h (by simp) fun m hm hold => ?_
  cases m <;> simp_all [State.holds]

theorem noticesOk_missEpoch (h : s.NoticesOk) : s.missEpoch.NoticesOk := by
  unfold State.missEpoch
  dsimp only
  split
  · exact noticesOk_enterIsolated (noticesOk_congr h rfl rfl)
  · exact noticesOk_congr h rfl rfl

/-- A station that is ACTIVE or LISTENING is not ISOLATED. -/
theorem noticesOk_setStation (l : Lnk) (hstation : l.station ≠ .isolated) (hbay : l.dupBay = true → s.lnk.dupBay = true)
    (h : s.NoticesOk) : (s.setLnk l).NoticesOk := by
  refine noticesOk_less h rfl fun m hold => ?_
  cases m <;> simp_all [State.holds]

theorem noticesOk_listeningBoundary (h : s.NoticesOk) : s.listeningBoundary.NoticesOk := by
  unfold State.listeningBoundary
  split
  · dsimp only
    split
    · exact noticesOk_enterIsolated (noticesOk_congr h rfl rfl)
    · exact noticesOk_congr (noticesOk_setStation { s.lnk with listening := 0, station := .active } nofun id h) rfl rfl
  · exact noticesOk_congr h rfl rfl

theorem noticesOk_claimBoundary (h : s.NoticesOk) : s.claimBoundary.NoticesOk := by
  obtain ⟨e, -⟩ | ⟨e, -⟩ | ⟨e, -⟩ := s.claimBoundary_cases <;> rw [e]
  · exact h
  · exact noticesOk_missEpoch h
  · exact noticesOk_missEpoch (noticesOk_congr h (by simp [conditions]) (by simp))

theorem noticesOk_lnkBoundary (h : s.NoticesOk) : s.lnkBoundary.NoticesOk :=
  State.lnkBoundary_preserves (P := State.NoticesOk) (fun _ h => noticesOk_congr h rfl rfl)
    (fun _ h => noticesOk_congr h (by simp [conditions]) (by simp)) (fun _ _ => noticesOk_listeningBoundary)
    (fun _ _ => noticesOk_claimBoundary) (fun _ h => noticesOk_congr h (by simp [conditions]) (by simp)) s h

theorem noticesOk_hearOwnBay (h : s.NoticesOk) : s.hearOwnBay.NoticesOk := by
  have hheard : (((s.setLnk { s.lnk with dupBay := true }).captureNat .dupBay 0).raise .dupBay).NoticesOk := by
    refine noticesOk_begins .dupBay 0 h rfl fun m hm hold => ?_
    cases m <;> simp_all [State.holds]
  unfold State.hearOwnBay
  split
  · exact h
  · dsimp only
    split
    · exact noticesOk_enterIsolated hheard
    · exact hheard

theorem noticesOk_sentWhole (h : s.NoticesOk) : s.sentWhole.NoticesOk := by
  have hsent : ∀ u : State, u.NoticesOk → u.claimSent.NoticesOk := by
    intro u hu
    refine noticesOk_less hu rfl fun m hold => ?_
    cases m <;> simp_all [State.holds, State.claimSent]
    exact of_not_not fun hne => by simp [hne] at hold
  unfold State.sentWhole
  split
  · dsimp only
    split
    · exact hsent _ (noticesOk_congr h (by simp [conditions]) (by simp))
    · exact noticesOk_congr h (by simp [conditions]) (by simp)
  · exact h

theorem noticesOk_collided (h : s.NoticesOk) : s.collided.NoticesOk := by
  unfold State.collided
  split
  · dsimp only
    split
    · exact noticesOk_missEpoch (noticesOk_congr h (by simp [conditions]) (by simp))
    · exact noticesOk_congr h (by simp [conditions]) (by simp)
  · exact h

/-! ## The peer table -/

theorem noticesOk_evalLimits (h : s.NoticesOk) : s.evalLimits.NoticesOk := by
  unfold State.evalLimits
  dsimp only
  split
  · refine noticesOk_raise_of fun m hm hold => h m ?_
    cases m <;> simp_all [State.holds]
  · refine noticesOk_less h rfl fun m hold => ?_
    cases m <;> simp_all [State.holds]

theorem noticesOk_evalDupBus (h : s.NoticesOk) : s.evalDupBus.NoticesOk := by
  unfold State.evalDupBus
  split
  · refine noticesOk_less h rfl fun m hold => ?_
    cases m <;> simp_all [State.holds]
  · dsimp only
    split
    · refine noticesOk_less h rfl fun m hold => ?_
      cases m <;> simp_all [State.holds]
    · refine noticesOk_begins .dupBus _ h rfl fun m hm hold => ?_
      cases m <;> simp_all [State.holds]

theorem noticesOk_reevaluate (h : s.NoticesOk) : s.reevaluate.NoticesOk :=
  noticesOk_evalDupBus (noticesOk_evalLimits (noticesOk_congr h (by simp [conditions]) (by simp)))

/-! ## The stage line -/

theorem noticesOk_loseMeter (h : s.NoticesOk) : s.loseMeter.NoticesOk := by
  refine noticesOk_begins .meterLost 0 h (by simp) fun m hm hold => ?_
  cases m <;> simp_all [State.holds]

theorem noticesOk_closeExchange (h : s.NoticesOk) : s.closeExchange.NoticesOk := by
  unfold State.closeExchange
  split
  · exact h
  · exact h
  all_goals
    dsimp only
    split
    · exact noticesOk_loseMeter (noticesOk_congr h rfl rfl)
    · exact noticesOk_congr h rfl rfl

theorem noticesOk_takeStageFlags (m : Measure) (h : s.NoticesOk) : (s.takeStageFlags m).NoticesOk := by
  unfold State.takeStageFlags
  dsimp only
  split
  · refine noticesOk_begins .stageFault 0 h (by simp) fun n hn hold => ?_
    cases n <;> simp_all [State.holds]
  · refine noticesOk_less h (by simp) fun n hold => ?_
    cases n <;> simp_all [State.holds]

theorem noticesOk_judgeMeasure (m : Measure) (h : s.NoticesOk) : (s.judgeMeasure m).NoticesOk := by
  unfold State.judgeMeasure
  split
  · split
    · refine noticesOk_takeStageFlags m (noticesOk_less h rfl fun n hold => ?_)
      cases n <;> simp_all [State.holds]
    · split
      · exact h
      · exact noticesOk_congr h rfl rfl
  all_goals exact h

/-! ## The reserve -/

theorem noticesOk_computeShares (taking : Bool) (h : s.NoticesOk) : (s.computeShares taking).NoticesOk := by
  unfold State.computeShares
  dsimp only
  split
  · exact noticesOk_congr (noticesOk_raise .shortfall h) rfl rfl
  · exact noticesOk_congr h rfl rfl

theorem noticesOk_changeDemand (origin d : Nat) (h : s.NoticesOk) : (s.changeDemand origin d).NoticesOk :=
  noticesOk_captureNat _ _ (noticesOk_computeShares _ (noticesOk_congr h rfl rfl))

theorem noticesOk_endEvent (h : s.NoticesOk) : s.endEvent.NoticesOk :=
  noticesOk_congr (noticesOk_raise .eventEnded (noticesOk_capture .eventEnded s.responseDetail none h)) rfl rfl

theorem noticesOk_takeEvent (origin seq d remaining : Nat) (h : s.NoticesOk) : (s.takeEvent origin seq d remaining).NoticesOk := by
  unfold State.takeEvent
  dsimp only
  refine noticesOk_raise _ (noticesOk_captureNat _ _ (noticesOk_congr (noticesOk_computeShares true ?_) rfl rfl))
  exact noticesOk_congr h rfl rfl

theorem noticesOk_judgeEvent (origin seq d remaining : Nat) (h : s.NoticesOk) : (s.judgeEvent origin seq d remaining).NoticesOk := by
  unfold State.judgeEvent
  split
  · split
    · split
      · split
        · exact noticesOk_endEvent h
        · unfold State.holderUpdate
          dsimp only
          split
          · exact noticesOk_congr h rfl rfl
          · exact noticesOk_changeDemand _ _ (noticesOk_congr h rfl rfl)
      · exact h
    · split
      · exact noticesOk_changeDemand _ _ (noticesOk_congr h rfl rfl)
      · exact h
  · split
    · exact noticesOk_takeEvent _ _ _ _ h
    · exact h

theorem noticesOk_sendEvent (d remaining : Nat) (h : s.NoticesOk) : (s.sendEvent d remaining).NoticesOk :=
  noticesOk_judgeEvent _ _ _ _ (noticesOk_congr h (by simp [conditions]) (by simp))

theorem noticesOk_dispatchDemand (d m : Nat) (h : s.NoticesOk) : (s.dispatchDemand d m).NoticesOk := by
  unfold State.dispatchDemand
  dsimp only
  split
  · exact noticesOk_sendEvent _ _ (noticesOk_congr h (by simp [conditions]) (by simp))
  · exact noticesOk_congr h (by simp [conditions]) (by simp)

theorem noticesOk_beginSenseFault (h : s.NoticesOk) : s.beginSenseFault.NoticesOk := by
  unfold State.beginSenseFault
  split
  · exact h
  · refine noticesOk_begins .senseFault 0 h rfl fun m hm hold => ?_
    cases m <;> simp_all [State.holds]

theorem noticesOk_gridEdge (n : Nat) (h : s.NoticesOk) : (s.gridEdge n).NoticesOk := by
  unfold State.gridEdge
  dsimp only
  split
  · exact noticesOk_congr h rfl rfl
  · split
    · refine noticesOk_less h rfl fun m hold => ?_
      cases m <;> simp_all [State.holds]
    · exact noticesOk_beginSenseFault (noticesOk_congr h rfl rfl)

theorem noticesOk_watchEdges (h : s.NoticesOk) : s.watchEdges.NoticesOk := by
  unfold State.watchEdges
  dsimp only
  split
  · exact noticesOk_beginSenseFault (noticesOk_congr h rfl rfl)
  · exact noticesOk_congr h rfl rfl

theorem noticesOk_rsvCountdown (h : s.NoticesOk) : s.rsvCountdown.NoticesOk := by
  unfold State.rsvCountdown State.refreshBoundary
  split
  · exact h
  · dsimp only
    split
    · exact noticesOk_endEvent (noticesOk_congr h rfl rfl)
    · split
      · split
        · exact noticesOk_sendEvent _ _ (noticesOk_congr h rfl rfl)
        · exact noticesOk_congr h rfl rfl
      · exact noticesOk_congr h rfl rfl

theorem noticesOk_withdraw (h : s.NoticesOk) : s.withdraw.NoticesOk :=
  noticesOk_raise _ (noticesOk_captureNat _ _ (noticesOk_congr h rfl rfl))

/-! ## The session -/

theorem noticesOk_missLegs (window fuel : Nat) (h : s.NoticesOk) : (s.missLegs window fuel).NoticesOk := by
  induction fuel generalizing s with
  | zero => exact h
  | succ fuel ih =>
    unfold State.missLegs
    split
    · exact h
    · rename_i v hv
      split
      · exact ih (noticesOk_raise _ (noticesOk_captureNat _ _ (noticesOk_congr h (by simp [conditions, hv]) rfl)))
      · exact h

/-- Where the figures set AT_RISK or LATE, the flag was set already or the notice is raised (R67). -/
theorem noticesOk_readySession (c : ConfigRecord) (h : s.NoticesOk) : (s.readySession c).NoticesOk := by
  unfold State.readySession
  split
  · exact h
  · rename_i v hv
    dsimp only
    generalize v.readied c s.clk.epoch s.alt.grant s.isPending = w
    have hmissing : Missing (s.setSes (some w))
        ((if w.atRisk && !v.atRisk then [.atRisk] else []) ++ if w.late && !v.late then [.late] else []) := by
      intro m hold
      by_cases hs : s.holds m = true
      · exact .inl (h m hs)
      · right
        cases m <;> simp_all [State.holds]
    cases hrisk : w.atRisk && !v.atRisk <;> cases hlate : w.late && !v.late <;> rw [hrisk, hlate] at hmissing
    · exact noticesOk_of_missing hmissing
    · exact noticesOk_of_missing (missing_raise hmissing)
    · exact noticesOk_of_missing (missing_raise (missing_captureNat .atRisk 0 hmissing))
    · exact noticesOk_of_missing (missing_raise (missing_raise (missing_captureNat .atRisk 0 hmissing)))

theorem noticesOk_sessionBoundary (h : s.NoticesOk) : s.sessionBoundary.NoticesOk := by
  unfold State.sessionBoundary
  split
  · exact h
  · exact noticesOk_readySession _ (noticesOk_missLegs _ _ h)

/-- With no session, neither AT_RISK nor LATE holds. -/
theorem noticesOk_setSes_none (h : s.NoticesOk) : (s.setSes none).NoticesOk := by
  refine noticesOk_less h rfl fun m hold => ?_
  cases m <;> simp_all [State.holds]

theorem noticesOk_dropSession (h : s.NoticesOk) : s.dropSession.NoticesOk := by
  have hgone : ((s.setSes none).altDiscard.setGrant 0).NoticesOk :=
    noticesOk_congr (noticesOk_setSes_none h) (by simp [conditions]) (by simp)
  unfold State.dropSession State.rsvSessionEnd
  apply noticesOk_evalDupBus
  split
  · exact noticesOk_withdraw hgone
  · exact hgone

/-! ## Parking -/

theorem noticesOk_evictOldest (h : s.NoticesOk) : s.evictOldest.NoticesOk := by
  unfold State.evictOldest
  split
  · exact h
  · split
    · exact noticesOk_capture _ _ _ (noticesOk_congr h (by simp [conditions]) (by simp))
    · exact h

theorem noticesOk_park (bus hold : Nat) (x : Context) (h : s.NoticesOk) : (s.park bus hold x).NoticesOk :=
  noticesOk_congr (noticesOk_evictOldest (s := s.removePark bus) (noticesOk_congr h (by simp [conditions]) (by simp))) rfl rfl

theorem noticesOk_endWindow (w : WindowFigures) (h : s.NoticesOk) : (s.endWindow w).NoticesOk :=
  noticesOk_congr h (by simp [conditions]) (by simp)

theorem noticesOk_windowBoundary (h : s.NoticesOk) : s.windowBoundary.NoticesOk := by
  unfold State.windowBoundary
  split
  · exact h
  · rename_i q _
    have hended := noticesOk_endWindow q.closed h
    split
    · split
      · unfold State.closeRestored
        dsimp only
        rename_i c _
        have hrestored : (((s.endWindow q.closed).modSes fun v => v.restored c.ctx .restored).enqueue (.taken q.busId c.bay)).NoticesOk :=
          noticesOk_congr hended (by simp [conditions, Session.restored, State.modSes, Function.comp_def]) (by simp)
        exact noticesOk_captureNat _ _ (noticesOk_congr (noticesOk_raise .handoverDone hrestored) rfl rfl)
      · have hdone := noticesOk_raise .handoverDone hended
        unfold State.closeCold
        dsimp only
        split
        · exact noticesOk_captureNat _ _ (noticesOk_congr hdone rfl rfl)
        · exact noticesOk_dropSession (noticesOk_captureNat _ _ (noticesOk_congr hdone rfl rfl))
    · exact noticesOk_congr h rfl rfl

theorem noticesOk_foldl_expireContext (es : List ParkEntry) (h : s.NoticesOk) : (es.foldl State.expireContext s).NoticesOk := by
  induction es generalizing s with
  | nil => exact h
  | cons e es ih => exact ih (noticesOk_capture _ _ _ (noticesOk_congr h (by simp [conditions]) (by simp)))

theorem noticesOk_holdsBoundary (h : s.NoticesOk) : s.holdsBoundary.NoticesOk :=
  noticesOk_foldl_expireContext _ (noticesOk_congr h rfl rfl)

/-! ## Boundaries, ticks and commands -/

/-- The disagreement age advances or ends. -/
theorem noticesOk_aged (h : s.NoticesOk) : (s.setClk s.clk.aged).NoticesOk := by
  refine noticesOk_less h rfl fun m hold => ?_
  cases m <;> simp_all [State.holds, Clk.aged]
  cases hd : s.clk.disagree <;> simp_all

theorem noticesOk_boundary (rollover restart : Bool) (h : s.NoticesOk) : (s.boundary rollover restart).NoticesOk :=
  State.boundary_preserves (P := State.NoticesOk) (fun _ => noticesOk_aged)
    (fun _ h => noticesOk_congr h (by simp [conditions, State.dayRollover, State.ptbRollover, State.modSes, Function.comp_def]) (by simp))
    (fun _ h => noticesOk_reevaluate (noticesOk_congr h rfl rfl)) (fun _ => noticesOk_lnkBoundary)
    (fun _ h => noticesOk_congr h rfl rfl) (fun _ => noticesOk_rsvCountdown) (fun _ => noticesOk_sessionBoundary)
    (fun _ h => noticesOk_congr h (by simp [conditions]) (by simp)) (fun _ _ => noticesOk_withdraw)
    (fun _ => noticesOk_windowBoundary) (fun _ h => noticesOk_congr h (by simp [conditions]) (by simp))
    (fun _ => noticesOk_holdsBoundary) (fun _ h => noticesOk_congr h rfl rfl) (fun _ h => noticesOk_congr h rfl rfl)
    rollover restart s h

theorem noticesOk_tickWork (h : s.NoticesOk) : s.tickWork.NoticesOk :=
  State.tickWork_preserves (P := State.NoticesOk) (fun _ => noticesOk_closeExchange)
    (fun _ _ h => noticesOk_congr h (by simp [conditions, State.meter, State.modSes, Function.comp_def]) (by simp))
    (fun _ h => noticesOk_congr h rfl rfl) (fun _ h => noticesOk_congr h rfl rfl) (fun _ _ => noticesOk_sendEvent _ _)
    (fun _ => noticesOk_watchEdges) (fun _ h => noticesOk_congr h (by simp [conditions]) (by simp))
    (fun _ h => noticesOk_congr h rfl rfl) (fun _ h => noticesOk_congr h rfl rfl) s h

theorem noticesOk_tickEvent (h : s.NoticesOk) : s.tickEvent.NoticesOk := by
  unfold State.tickEvent
  split
  · exact noticesOk_tickWork (noticesOk_congr h rfl rfl)
  · split
    · exact noticesOk_tickWork (noticesOk_congr h rfl rfl)
    · exact noticesOk_boundary _ _ (noticesOk_tickWork (noticesOk_congr h rfl rfl))

theorem noticesOk_epochBoundary (h : s.NoticesOk) : s.epochBoundary.NoticesOk := by
  unfold State.epochBoundary
  split
  · exact noticesOk_boundary _ _ (noticesOk_congr h rfl rfl)
  · exact h

theorem noticesOk_disagreeWith (sender : Nat) (h : s.NoticesOk) : (s.disagreeWith sender).NoticesOk := by
  unfold State.disagreeWith
  dsimp only
  split
  · refine noticesOk_begins .clockDisagree _ h rfl fun m hm hold => ?_
    cases m <;> simp_all [State.holds]
  · rename_i hsome
    refine noticesOk_less h rfl fun m hold => ?_
    cases hd : s.clk.disagree <;> cases m <;> simp_all [State.holds]

theorem noticesOk_maxSync (b e : Nat) (h : s.NoticesOk) : (s.maxSync b e).NoticesOk := by
  unfold State.maxSync
  dsimp only
  split
  · exact h
  · split
    · exact noticesOk_boundary _ _ (noticesOk_captureNat _ _ (noticesOk_congr h rfl rfl))
    · split
      · exact noticesOk_disagreeWith _ h
      · exact h

theorem noticesOk_deliverClaim (b e : Nat) (c : Claim) (h : s.NoticesOk) : (s.deliverClaim b e c).NoticesOk :=
  noticesOk_reevaluate (noticesOk_congr (noticesOk_maxSync b e h) rfl rfl)

theorem noticesOk_takeTaken (b bus x : Nat) (h : s.NoticesOk) : (s.takeTaken b bus x).NoticesOk := by
  unfold State.takeTaken
  split
  · exact h
  · split
    · exact noticesOk_capture _ _ _ (noticesOk_congr h (by simp [conditions]) (by simp))
    · split
      · exact noticesOk_congr h (by simp [conditions]) (by simp)
      · exact h

/-- A new session is neither at risk nor late, and a restore changes neither. -/
theorem noticesOk_plugIn (p : PlugFields) (h : s.NoticesOk) : (s.plugIn p).NoticesOk := by
  have hnew : (s.setSes (some (s.newSession p))).NoticesOk := by
    refine noticesOk_less h rfl fun m hold => ?_
    cases m <;> simp_all [State.holds, State.newSession]
  have hbegun : ((s.setSes (some (s.newSession p))).evalDupBus.rsvSessionBegin).NoticesOk :=
    noticesOk_congr (noticesOk_evalDupBus hnew) (by simp [conditions]) (by simp)
  unfold State.plugIn
  dsimp only
  split
  · unfold State.restoreLocal
    exact noticesOk_captureNat _ _ (noticesOk_congr hbegun (by simp [conditions, Session.restored, State.modSes]) (by simp))
  · exact noticesOk_congr hbegun (by simp [conditions]) (by simp)

theorem legDone_flags (v : Session) (now window : Nat) :
    (v.legDone now window).atRisk = v.atRisk ∧ (v.legDone now window).late = v.late := by
  unfold Session.legDone
  (repeat' split) <;> exact ⟨rfl, rfl⟩

theorem noticesOk_unplugNow (h : s.NoticesOk) : s.unplugNow.NoticesOk := by
  have unplugged : ∀ (u : State) (v : Session), u.NoticesOk → ((u.captureUnplug v).dropSession).NoticesOk := fun u v h =>
    noticesOk_dropSession (noticesOk_capture _ _ _ (noticesOk_capture _ _ _ h))
  unfold State.unplugNow
  split
  · exact h
  · rename_i v hv
    split
    · have hcancelled : s.cancelWindow.NoticesOk := noticesOk_congr h (by simp [conditions]) (by simp)
      unfold State.unplugPending
      dsimp only
      apply unplugged
      split
      · exact hcancelled
      · exact noticesOk_park _ _ _ hcancelled
    · obtain ⟨hrisk, hlate⟩ := legDone_flags v s.clk.epoch s.window
      exact unplugged _ _ (noticesOk_park _ _ _ (noticesOk_congr h (by simp [conditions, hv, hrisk, hlate]) rfl))

theorem noticesOk_configureWith (r : ConfigRecord) (h : s.NoticesOk) : (s.configureWith r).NoticesOk := by
  have hlistening := noticesOk_setStation
    { s.lnk with station := .listening, listening := Config.listeningPeriod, armed := s.lnk.lineIdle } nofun id h
  exact noticesOk_congr hlistening rfl rfl

/-- The registers of the conditions after a bay reset: three conditions stand, and no other holds (R12, R34, R49, R72, R112). -/
theorem resetBay_conditions (s : State) : conditions s.resetBay =
    (none, (false, s.stg.stageFault), s.rsv.senseFault, (.unconfigured, false), (false, false), (s.clk.set, false)) := by
  have hparked (u : State) (hold : Nat) : conditions (u.parkAtReset hold) = (none, (conditions u).2) := by
    have hses : (u.parkAtReset hold).ses = none := by simp [State.parkAtReset]
    simp [conditions, hses]
  have hblocks (u : State) : (conditions u.resetBlocks).2 =
      ((false, u.stg.stageFault), u.rsv.senseFault, (.unconfigured, false), (false, false), (u.clk.set, false)) := rfl
  have hbay : conditions s.resetBay = conditions ((((s.setPrt { s.prt with flags := 0#20 }).capture .bayReset 0#32 none).resetBlocks).parkAtReset
      s.holdBoundaries) := rfl
  rw [hbay, hparked, hblocks]
  simp

theorem resetBay_holds {n : Notice} (h : s.resetBay.holds n = true) : n ∈ keptNotices ∧ s.holds n = true := by
  obtain ⟨hses, ⟨hmeter, hstage⟩, hsense, ⟨hstation, hbay⟩, ⟨hbus, hlimit⟩, hset, hdisagree⟩ := by
    simpa only [conditions, Prod.mk.injEq] using resetBay_conditions s
  rw [Option.map_eq_none_iff] at hses
  cases n <;> simp_all [State.holds, keptNotices]

/-- A bay reset keeps the flags of the conditions that it leaves (R189). -/
theorem noticesOk_resetBay (h : s.NoticesOk) : s.resetBay.NoticesOk := by
  intro n hn
  obtain ⟨hkept, hs⟩ := resetBay_holds hn
  have hheld (u : State) (hu : u.holds n = true) : (u.heldFlags keptNotices).getLsbD n.bit = true := by
    rw [State.heldFlags, heldFlags_getLsbD, Bool.or_eq_true, List.any_eq_true]
    exact .inr ⟨n, hkept, by simp [hu, flag_getLsbD]⟩
  have hflags (u v : State) : (((u.setPrt { u.prt with flags := u.prt.flags ||| (v.prt.flags &&& u.heldFlags keptNotices) }).answerReady).flagged n) =
      (u.flagged n || (v.flagged n && (u.heldFlags keptNotices).getLsbD n.bit)) := by
    simp only [State.flagged, State.answerReady, State.answerWith, State.setPrt_prt, BitVec.getLsbD_or, BitVec.getLsbD_and]
  refine (hflags _ s).trans ?_
  have hs' : s.flagged n = true := h n hs
  rw [hheld _ (by rwa [holds_congr rfl] at hn), hs']
  simp

/-- A command's stages leave the flags and the conditions to its effect. -/
theorem noticesOk_command {kind : Nat} {stateOk : Bool} {fail : Option Nat} {effect : State → State}
    {payload : State → List Byte} (h : s.NoticesOk) (heffect : s.counted.NoticesOk → (effect s.counted).NoticesOk) :
    (s.command kind stateOk fail effect payload).NoticesOk := by
  have hcounted : s.counted.NoticesOk := noticesOk_congr h rfl rfl
  unfold State.command
  split
  · split
    · exact noticesOk_congr hcounted rfl rfl
    · exact noticesOk_congr (heffect hcounted) rfl rfl
  · exact noticesOk_congr hcounted rfl rfl

theorem noticesOk_clearNotices (set : BitVec 24) (h : s.NoticesOk) : (s.clearNotices (flagSet set)).NoticesOk := by
  intro n hn
  have hold : s.holds n = true := by rwa [holds_congr rfl] at hn
  exact (clearNotices_flagged s set n).trans (by rw [State.flagged, h n hold, hold]; simp)

theorem noticesOk_closeFilling (h : s.NoticesOk) : s.closeFilling.NoticesOk := by
  unfold State.closeFilling
  split
  · exact noticesOk_raise .bankAFull (noticesOk_congr h rfl rfl)
  · exact noticesOk_raise .bankBFull (noticesOk_congr h rfl rfl)

theorem noticesOk_exec (i : Instr) (s t : State) (h : s.NoticesOk) (ht : exec i s = .next t) : t.NoticesOk := by
  have hboundary (b : Bool) : (s.boundaryWhere b).NoticesOk := by
    unfold State.boundaryWhere
    split
    · exact noticesOk_epochBoundary h
    · exact h
  have htick (b : Bool) : (s.tickWhere b).NoticesOk := by
    unfold State.tickWhere
    split
    · exact noticesOk_tickEvent h
    · exact h
  have hframe {b : Nat} {ok : Bool} {deliver : State → State} (hdeliver : (deliver s).NoticesOk) :
      (s.takeFrame b ok deliver).NoticesOk :=
    State.takeFrame_cases h (noticesOk_captureNat _ _ h) (fun _ => noticesOk_hearOwnBay h) fun _ _ _ _ _ => hdeliver
  cases i <;> (simp only [exec] at ht; injection ht with ht; subst ht)
  case powerOnReset => exact noticesOk_congr Reset.reset_noticesOk rfl rfl
  case tickEvent => exact noticesOk_tickEvent h
  case epochBoundary => exact noticesOk_epochBoundary h
  case claimFrame b e c => exact hframe (noticesOk_deliverClaim b e c h)
  case eventFrame b o q d n => exact hframe (noticesOk_judgeEvent o q d n h)
  case queryFrame b bus => exact hframe (noticesOk_congr h (by simp [conditions]) (by simp))
  case offerFrame b o => exact hframe (noticesOk_congr h rfl rfl)
  case takenFrame b bus x => exact hframe (noticesOk_takeTaken b bus x h)
  case lineIdle => exact noticesOk_congr h (by simp [conditions]) (by simp)
  case lineBusy => exact noticesOk_congr h (by simp [conditions]) (by simp)
  case backoffExpiry => exact noticesOk_congr h (by simp [conditions]) (by simp)
  case frameSent => exact noticesOk_sentWhole h
  case collision => exact noticesOk_collided h
  case allotmentCompletion => exact noticesOk_congr h (by simp [conditions]) (by simp)
  case measure bytes => split; exacts [h, noticesOk_judgeMeasure _ h]
  case gsenseEdge n => exact noticesOk_gridEdge n h
  case emptyTransaction => exact h
  case bayReset => exact noticesOk_resetBay h
  case droppedFrame bs w => split; exacts [noticesOk_captureNat _ _ h, h]
  case formatRefusal bs => split; exacts [h, noticesOk_congr h rfl rfl]
  case configure r => exact noticesOk_command h (noticesOk_configureWith r)
  case setTime e =>
    refine noticesOk_command h fun hc => noticesOk_boundary _ _ (noticesOk_less hc rfl fun m hold => ?_)
    cases m <;> simp_all [State.holds, State.restartAt]
  case plug p => exact noticesOk_command h (noticesOk_plugIn p)
  case vehicleUpdate a d c => exact noticesOk_command h fun hc => noticesOk_congr hc (by simp [conditions, State.updateVehicle, State.modSes, Function.comp_def]) rfl
  case chainLoad ls => exact noticesOk_command h fun hc => noticesOk_congr hc (by simp [conditions, State.loadChain, State.modSes, Function.comp_def]) rfl
  case unplug => exact noticesOk_command h noticesOk_unplugNow
  case dispatch d m => exact noticesOk_command h (noticesOk_dispatchDemand d m)
  case mark tag => exact noticesOk_command h fun hc => noticesOk_congr (noticesOk_capture _ _ _ hc) rfl rfl
  case closeBank => exact noticesOk_command h noticesOk_closeFilling
  case releaseBank n => exact noticesOk_command h fun hc => noticesOk_congr hc (by simp [conditions]) (by simp)
  case readLog b n => exact noticesOk_command h id
  case readStatus => exact noticesOk_command h fun hc => noticesOk_congr hc rfl rfl
  case readSession => exact noticesOk_command h id
  case readPeerByIndex x n => exact noticesOk_command h fun hc => noticesOk_congr hc rfl rfl
  case readPeerByBay n => exact noticesOk_command h fun hc => noticesOk_congr hc rfl rfl
  case snapshot => exact noticesOk_command h fun hc => noticesOk_congr hc rfl rfl
  case readSnapshot => exact noticesOk_command h id
  case clearFlags set => exact noticesOk_command h (noticesOk_clearNotices set)
  case setNoticeMask set => exact noticesOk_command h fun hc => noticesOk_congr hc rfl rfl
  case clearCounters => exact noticesOk_command h fun hc => noticesOk_congr hc rfl rfl
  all_goals first | exact hboundary _ | exact htick _

/-- Settles O20: the set is judged flag by flag, and every operation leaves the flags of the conditions that hold. -/
theorem clearFlagsSparesHeldConditions : Obligations.ClearFlagsSparesHeldConditions :=
  ⟨fun set s => ⟨_, exec_clearFlags set s, rfl, rfl, Port.responds_answerWith _ _ rfl, clearNotices_flagged s.counted set⟩,
    fun _ _ h ht => Step.step_preserves (fun _ _ h => noticesOk_congr h rfl rfl) noticesOk_exec h ht⟩

end Sys2Proof.Proofs.Notices
end

section
/-!
The epoch boundary of the local advance, as the rows that are one take it: the clock and the peer table after it, and what it
leaves as it was (O23, O24, O25).
-/
namespace Sys2Proof.Proofs.Boundary

open Sys2Proof Sys2Proof.Machine

/-! ## The clock and the peer table -/

theorem dayEarlier_eq (d : Int) : dayEarlier d = shiftDeparture d := by
  unfold dayEarlier shiftDeparture Config.minDeparture
  omega

theorem silenced_eq (ps : List PeerEntry) : silenced ps = agedPeers ps := by
  unfold silenced agedPeers
  rw [List.filter_map, ← List.filterMap_eq_filter, ← List.filterMap_eq_map, List.filterMap_filterMap]
  refine List.filterMap_congr fun p _ => ?_
  by_cases h : 15 ≤ p.silence + 1
  · have : ¬p.silence + 1 < 15 := by omega
    simp [h, this, Option.guard, PeerEntry.older, Config.removalSilence]
  · have hstays : p.silence + 1 < 15 := by omega
    have hstate : (if p.silence + 1 ≤ 2 then PeerState.live else .stale) = if 3 ≤ p.silence + 1 then .stale else .live := by
      by_cases h3 : 3 ≤ p.silence + 1
      · rw [if_pos h3, if_neg (by omega)]
      · rw [if_neg h3, if_pos (by omega)]
    rw [if_neg h, hstate]
    simp [hstays, Option.guard, PeerEntry.older, Config.removalSilence, Config.staleSilence]

theorem agedEntries_eq (rollover : Bool) (ps : List PeerEntry) :
    agedEntries rollover ps = agedPeers (if rollover then ps.map PeerEntry.rolled else ps) := by
  have hday : dayEarlier = shiftDeparture := funext dayEarlier_eq
  rw [agedEntries, silenced_eq, hday]
  rfl

theorem boundary_agedEntries (s : State) (rollover restart : Bool) :
    (s.boundary rollover restart).ptb.entries = agedEntries rollover s.ptb.entries := by
  rw [Peers.boundary_entries, agedEntries_eq]

theorem aged_eq (c : Clk) : c.aged = { c with disagree := agedDisagree c.disagree } := rfl

theorem nextEpoch_eq {s : State} (h : s.clk.epoch < 43200) : nextEpoch s.clk.epoch = s.nextCount := by
  unfold nextEpoch State.nextCount Config.dayEpochs
  split <;> omega

theorem endsDay_eq (e : Nat) : endsDay e = (e == 43199) := by
  by_cases h : e = 43199 <;> simp [endsDay, Config.dayEpochs, h]

/-! ## The boundary of the local advance -/

/-- The clock with the epoch advanced and the tick event still to come (log entry 7). -/
def advancedFirst (s : State) : State := s.setClk { s.clk with epoch := s.nextCount, tickOwed := true }

theorem boundaryDue_iff {s : State} : s.boundaryDue = true ↔ s.clk.tick = 19 ∧ s.clk.tickOwed = false := by
  simp [State.boundaryDue, Config.epochTicks]

theorem epochBoundary_eq {s : State} (h : s.AtEpochEnd) :
    s.epochBoundary = (advancedFirst s).boundary (s.clk.epoch == 43199) false := by
  obtain ⟨htick, howed, hepoch⟩ := h
  rw [State.epochBoundary, if_pos (boundaryDue_iff.mpr ⟨htick, howed⟩), nextEpoch_eq hepoch, endsDay_eq]
  rfl

theorem epochBoundary_clk {s : State} (h : s.AtEpochEnd) : s.epochBoundary.clk =
    { s.clk with epoch := s.nextCount, disagree := agedDisagree s.clk.disagree, tickOwed := true } := by
  rw [epochBoundary_eq h, State.boundary_clk]
  rfl

theorem epochBoundary_entries {s : State} (h : s.AtEpochEnd) :
    s.epochBoundary.ptb.entries = agedEntries (s.clk.epoch == 43199) s.ptb.entries := by
  rw [epochBoundary_eq h, boundary_agedEntries]
  rfl

theorem epochBoundary_of_not_due {s : State} (h : s.clk.tick ≠ 19 ∨ s.clk.tickOwed = true) : s.epochBoundary = s := by
  rw [State.epochBoundary, if_neg]
  rw [boundaryDue_iff]
  rintro ⟨htick, howed⟩
  simp [htick, howed] at h

theorem exec_epochBoundary (s : State) : exec .epochBoundary s = .next s.epochBoundary := rfl

/-- A row that is a whole boundary is that boundary where its event comes about (log entry 6). -/
theorem answers_of_boundaryWhere {i : Instr} {s : State} {b : Bool} {P : State → Prop}
    (hexec : exec i s = .next (s.boundaryWhere b)) (hb : b = true) (hP : P s.epochBoundary) : Answers i s P := by
  rw [State.boundaryWhere, if_pos hb] at hexec
  exact ⟨_, hexec, hP⟩

theorem answers_of_tickWhere {i : Instr} {s : State} {b : Bool} {P : State → Prop}
    (hexec : exec i s = .next (s.tickWhere b)) (hb : b = true) (hP : P s.tickEvent) : Answers i s P := by
  rw [State.tickWhere, if_pos hb] at hexec
  exact ⟨_, hexec, hP⟩

/-! ## Tick events -/

theorem tickEvent_owed {s : State} (h : s.clk.tickOwed = true) : s.tickEvent = s.tickOwing := by
  rw [State.tickEvent, if_pos h]

theorem tickEvent_within {s : State} (howed : s.clk.tickOwed = false) (h : s.clk.tick < 19) : s.tickEvent = s.tickWithin := by
  have htick : s.clk.tick + 1 < Config.epochTicks := by
    unfold Config.epochTicks
    omega
  rw [State.tickEvent, howed, if_neg Bool.false_ne_true, if_pos htick]

theorem tickEvent_atEnd {s : State} (h : s.AtEpochEnd) :
    s.tickEvent = s.advanced.tickWork.boundary (s.clk.epoch == 43199) false := by
  obtain ⟨htick, howed, -⟩ := h
  have hlast : ¬s.clk.tick + 1 < Config.epochTicks := by
    unfold Config.epochTicks
    omega
  rw [State.tickEvent, howed, if_neg Bool.false_ne_true, if_neg hlast, endsDay_eq]

/-- A tick event within the epoch is the clock's move and the tick's work. -/
theorem tickEvent_eq_work {s : State} (h : s.WithinEpoch) : ∃ c : Clk, s.tickEvent = (s.setClk c).tickWork ∧
    c = { s.clk with tick := c.tick, tickOwed := false } := by
  by_cases howed : s.clk.tickOwed = true
  · exact ⟨_, tickEvent_owed howed, rfl⟩
  · rw [Bool.not_eq_true] at howed
    exact ⟨_, tickEvent_within howed (h.resolve_right (by simp [howed])), by simp [← howed]⟩

/-- Settles O24: each row is the advance it names, with the disagreement age and the peer table one boundary older. -/
theorem localAdvance : Obligations.LocalAdvance := by
  intro s
  refine ⟨fun howed htick => ⟨_, rfl, ?_⟩, fun howed => ⟨_, rfl, ?_⟩, fun hend => ⟨⟨_, rfl, ?_⟩, ⟨_, rfl, ?_⟩, fun hage => ?_⟩, fun h => ?_⟩
  · rw [tickEvent_within howed htick]
    exact ⟨by simp [State.tickWithin], by simp [State.tickWithin]⟩
  · rw [tickEvent_owed howed]
    exact ⟨by simp [State.tickOwing], by simp [State.tickOwing]⟩
  · rw [tickEvent_atEnd hend]
    dsimp only
    rw [State.boundary_clk, boundary_agedEntries]
    simp [State.advanced, aged_eq, nextEpoch_eq hend.2.2]
  · exact ⟨epochBoundary_clk hend, epochBoundary_entries hend⟩
  · have hnone : agedDisagree s.clk.disagree = none := by rw [hage]; rfl
    refine answers_of_boundaryWhere rfl (by rw [hage]; rfl) ?_
    rw [← hnone]
    exact ⟨epochBoundary_clk hend, epochBoundary_entries hend⟩
  · rw [Idle, exec_epochBoundary, epochBoundary_of_not_due h]

/-! ## What the rows leave (O25) -/

/-- The steps of the monitors: their marks may go with the end of an event, their phases and counts stand. -/
def phases (s : State) : List (BandPhase × Nat) := s.rsv.bands.map fun b => (b.phase, b.count)

theorem phases_endEvent (s : State) : phases s.endEvent = phases s := by
  simp [phases, State.endEvent_rsv, Function.comp_def]

theorem phases_changeDemand (s : State) (o d : Nat) : phases (s.changeDemand o d) = phases s := by
  simp [phases, State.changeDemand, State.computeShares_rsv]

theorem phases_judgeEvent (s : State) (o q d r : Nat) : phases (s.judgeEvent o q d r) = phases s := by
  unfold State.judgeEvent
  split
  · split
    · split
      · split
        · exact phases_endEvent s
        · unfold State.holderUpdate
          dsimp only
          split
          · rfl
          · exact phases_changeDemand _ _ _
      · rfl
    · split
      · exact phases_changeDemand _ _ _
      · rfl
  · split
    · simp [phases, State.takeEvent, State.computeShares_rsv]
    · rfl

theorem phases_rsvCountdown (s : State) : phases s.rsvCountdown = phases s := by
  unfold State.rsvCountdown State.refreshBoundary
  split
  · rfl
  · dsimp only
    split
    · exact phases_endEvent _
    · split
      · split
        · rw [State.sendEvent, phases_judgeEvent]
          simp [phases]
        · rfl
      · rfl

/-- The own grant moves nothing of the reserve unit but the baseline (R132). -/
theorem phases_setGrant (s : State) (g : Nat) : phases (s.setGrant g) = phases s := by
  unfold phases
  rw [State.setGrant_rsv]
  split <;> rfl

theorem phases_capIsolated (s : State) : phases s.capIsolated = phases s := by
  unfold State.capIsolated
  split
  · exact phases_setGrant s _
  · rfl

theorem phases_congr {s t : State} (h : t.rsv = s.rsv) : phases t = phases s := by rw [phases, h, phases]

theorem phases_enterIsolated (s : State) : phases s.enterIsolated = phases s :=
  (phases_congr (by simp [State.enterIsolated])).trans (phases_capIsolated (s.setLnk { s.lnk with station := .isolated }))

theorem phases_missEpoch (s : State) : phases s.missEpoch = phases s := by
  unfold State.missEpoch
  dsimp only
  split
  · exact phases_enterIsolated _
  · rfl

theorem phases_lnkBoundary (s : State) : phases s.lnkBoundary = phases s := by
  refine State.lnkBoundary_preserves (P := fun t => phases t = phases s) (fun _ h => h) (fun t h => ?_) (fun t _ h => ?_)
    (fun t _ h => ?_) (fun t h => ?_) s rfl
  · exact (phases_congr (by simp)).trans h
  · refine Eq.trans ?_ h
    unfold State.listeningBoundary
    split
    · dsimp only
      split
      · exact phases_enterIsolated _
      · rfl
    · rfl
  · refine Eq.trans ?_ h
    obtain ⟨e, -⟩ | ⟨e, -⟩ | ⟨e, -⟩ := t.claimBoundary_cases <;> rw [e]
    · exact phases_missEpoch t
    · exact (phases_missEpoch _).trans (phases_congr (by simp))
  · exact (phases_congr (by simp)).trans h

theorem phases_withdraw (s : State) : phases s.withdraw = phases s := by simp [phases, State.withdraw]

theorem phases_dropSession (s : State) : phases s.dropSession = phases s := by
  have hgone : phases ((s.setSes none).altDiscard.setGrant 0) = phases s := phases_setGrant (s.setSes none).altDiscard 0
  unfold State.dropSession State.rsvSessionEnd
  refine (phases_congr (s := (if ((s.setSes none).altDiscard.setGrant 0).rsv.active && !((s.setSes none).altDiscard.setGrant 0).isWithdrawn
    then ((s.setSes none).altDiscard.setGrant 0).withdraw else (s.setSes none).altDiscard.setGrant 0)) (by simp)).trans ?_
  split
  · exact (phases_withdraw _).trans hgone
  · exact hgone

theorem phases_windowBoundary (s : State) : phases s.windowBoundary = phases s := by
  unfold State.windowBoundary
  split
  · rfl
  · split
    · split
      · exact phases_congr (by simp [State.closeRestored])
      · unfold State.closeCold
        dsimp only
        split
        · exact phases_congr (by simp)
        · exact (phases_dropSession _).trans (phases_congr (by simp))
    · rfl

theorem phases_boundary (s : State) (rollover restart : Bool) : phases (s.boundary rollover restart) = phases s := by
  refine State.boundary_preserves (P := fun t => phases t = phases s) (fun _ h => h) ?roll
    (fun t h => Eq.trans ?ptb h) (fun t h => (phases_lnkBoundary t).trans h) ?_ (fun t h => (phases_rsvCountdown t).trans h) ?_ ?_
    (fun t _ h => (phases_withdraw t).trans h) (fun t h => (phases_windowBoundary t).trans h) ?_ ?_ ?_ ?_ rollover restart s rfl
  case ptb =>
    have haged : phases (t.setPtb { t.ptb with entries := agedPeers t.ptb.entries }).capIsolated = phases t := phases_capIsolated _
    rw [← haged]
    exact phases_congr (by simp [State.ptbBoundary, State.reevaluate])
  all_goals
    intro t h
    refine Eq.trans (phases_congr ?_) h
    simp

/-- A port whose response, answer count and mask stand differs in its flags alone. -/
theorem prt_eq_of_butFlags {p q : Prt} (h : p.response = q.response ∧ p.answer = q.answer ∧ p.mask = q.mask) :
    p = { q with flags := p.flags } := by
  obtain ⟨h1, h2, h3⟩ := h
  rw [← h1, ← h2, ← h3]

/-- A stage line whose other registers stand differs in its setpoint alone. -/
theorem stg_eq_of_butApplied {x y : Stg} (h : x.seq = y.seq ∧ x.answer = y.answer ∧ x.gap = y.gap ∧ x.measured = y.measured ∧
    x.volts = y.volts ∧ x.isOpen = y.isOpen ∧ x.meterLost = y.meterLost ∧ x.stageFault = y.stageFault ∧ x.sent = y.sent) :
    x = { y with applied := x.applied } := by
  obtain ⟨h1, h2, h3, h4, h5, h6, h7, h8, h9⟩ := h
  rw [← h1, ← h2, ← h3, ← h4, ← h5, ← h6, ← h7, ← h8, ← h9]

theorem keptByBoundary_epochBoundary (s : State) : KeptByBoundary s s.epochBoundary := by
  have hses : Accounts.SameSession s s.epochBoundary := by
    unfold State.epochBoundary
    split
    · intro w hw
      obtain ⟨v, hv, hcarried⟩ := Accounts.boundary_sameSession _ _ _ w hw
      exact ⟨v, hv, hcarried⟩
    · exact Accounts.SameSession.refl s
  have hbands : phases s.epochBoundary = phases s := by
    unfold State.epochBoundary
    split
    · exact phases_boundary (s.setClk _) _ false
    · rfl
  have hprt : s.epochBoundary.prt = { s.prt with flags := s.epochBoundary.prt.flags } := prt_eq_of_butFlags (by simp)
  have hstg : s.epochBoundary.stg = { s.stg with applied := s.epochBoundary.stg.applied } := stg_eq_of_butApplied (by simp)
  refine ⟨by simp, by simp, by simp, hprt, by simp, by simp, hstg, ?_, by simp, hses⟩
  exact ⟨by simp, by simp, by simp, by simp, by simp, hbands⟩

/-- A session but for its accounts. -/
def unmetered (v : Session) : Session := { v with imp := zeroIntegrator, exp := zeroIntegrator, resp := zeroIntegrator }

theorem unmetered_tickWork (s : State) : s.tickWork.ses.map unmetered = s.ses.map unmetered := by
  refine State.tickWork_preserves (P := fun t => t.ses.map unmetered = s.ses.map unmetered) ?_ (fun t p h => Eq.trans ?meter h) ?_ ?_ ?_ ?_
    ?_ ?_ ?_ s rfl
  case meter =>
    rw [State.meter, State.modSes, State.setSes_ses, Option.map_map]
    rfl
  all_goals
    intros
    refine Eq.trans (congrArg (Option.map unmetered) ?_) ‹_ = s.ses.map unmetered›
    simp

/-- A link whose other registers stand differs in its queue and its access state. -/
theorem lnk_eq_of_butQueue {x y : Lnk} (h : x.station = y.station ∧ x.listening = y.listening ∧ x.streak = y.streak ∧
    x.dupBay = y.dupBay ∧ x.lineIdle = y.lineIdle ∧ x.armed = y.armed) : x = { y with queue := x.queue, access := x.access } := by
  obtain ⟨h1, h2, h3, h4, h5, h6⟩ := h
  rw [← h1, ← h2, ← h3, ← h4, ← h5, ← h6]

theorem keptByTick_tickEvent {s : State} (h : s.WithinEpoch) : KeptByTick s s.tickEvent := by
  obtain ⟨c, hevent, hc⟩ := tickEvent_eq_work h
  rw [hevent]
  generalize hu : (s.setClk c).tickWork = u
  have hprt : u.prt = { s.prt with flags := u.prt.flags } := prt_eq_of_butFlags (by simp [← hu])
  have hlnk : u.lnk = { s.lnk with queue := u.lnk.queue, access := u.lnk.access } := lnk_eq_of_butQueue (by simp [← hu])
  have hclk : u.clk = { s.clk with tick := u.clk.tick, tickOwed := false } := by
    have huc : u.clk = c := by simp [← hu]
    rw [huc]
    exact hc
  have hses : u.ses.map unmetered = s.ses.map unmetered := by
    rw [← hu]
    exact unmetered_tickWork (s.setClk c)
  exact ⟨by simp [← hu], by simp [← hu], by simp [← hu], by simp [← hu], by simp [← hu], by simp [← hu], hprt, by simp [← hu], hlnk, hclk,
    by simp [← hu], hses⟩

/-- The phase of a monitor that is there. -/
theorem phaseAt_of_getElem {bands : List Band} {n : Nat} {b : Band} (h : bands[n]? = some b) : phaseAt bands n = b.phase := by
  simp [phaseAt, h]

/-- Settles O25: each row is the whole boundary or the whole tick event, whose parts leave these registers. -/
theorem framesOfBoundariesAndTicks : Obligations.FramesOfBoundariesAndTicks := by
  refine ⟨fun i s hi => ?_, fun i s hwithin hi => ?_⟩
  · have hwhere (b : Bool) (hexec : exec i s = .next (s.boundaryWhere b)) : Answers i s fun t => KeptByBoundary s t := by
      refine ⟨_, hexec, ?_⟩
      unfold State.boundaryWhere
      split
      · exact keptByBoundary_epochBoundary s
      · exact ⟨rfl, rfl, rfl, rfl, rfl, rfl, rfl, ⟨rfl, rfl, rfl, rfl, rfl, rfl⟩, ⟨rfl, rfl, rfl⟩, fun w hw => ⟨w, hw, rfl⟩⟩
    obtain hi | ⟨n, rfl | rfl | rfl | rfl⟩ := hi
    · simp only [List.mem_cons, List.not_mem_nil, or_false] at hi
      obtain rfl | rfl | rfl | rfl | rfl | rfl | rfl := hi
      · exact ⟨_, exec_epochBoundary s, keptByBoundary_epochBoundary s⟩
      all_goals exact hwhere _ rfl
    all_goals exact hwhere _ rfl
  · have htick : KeptByTick s s.tickEvent := keptByTick_tickEvent hwithin
    obtain hi | ⟨hlost, rfl⟩ | ⟨hwatch, rfl⟩ | ⟨n, b, x, hb, hx, ⟨rfl, hphase, hnext⟩ | ⟨rfl, hphase, hnext⟩⟩ := hi
    · rw [List.mem_singleton.mp hi]
      exact ⟨_, rfl, htick⟩
    · exact answers_of_tickWhere rfl hlost htick
    · exact answers_of_tickWhere rfl hwatch htick
    all_goals
      refine answers_of_tickWhere rfl ?_ htick
      rw [phaseAt_of_getElem hb, phaseAt_of_getElem hx, hphase, hnext]
      rfl

/-! ## SET_TIME (O23) -/

/-- A computation in flight was latched at the epoch count that stands, and has seen no tick event. -/
def FlightFresh (s : State) : Prop := ∀ f ∈ s.alt.flight, f.inputs.epoch = s.clk.epoch ∧ f.ticks = 0

theorem FlightFresh.congr {s t : State} (h : FlightFresh s) (hf : t.alt.flight = s.alt.flight) (hc : t.clk = s.clk) : FlightFresh t := by
  unfold FlightFresh
  rwa [hf, hc]

/-- What RSV, SES and PRK each keep at a boundary, they keep together, in either order. -/
theorem sessionAndPark_preserves {P : State → Prop} (countdown : ∀ s, P s → P s.rsvCountdown)
    (session : ∀ s, P s → P s.sessionBoundary) (claim : ∀ s, P s → P s.claimAndLatch) (withdraw : ∀ s, P s → P s.withdraw)
    (park : ∀ s, P s → P s.prkBoundary) {s : State} (h : P s) : P s.sessionAndPark := by
  have hses : ∀ u, P u → P u.sesBoundary := fun u hu => claim _ (session u hu)
  have hclaim : ∀ u, P u → P u.reserveAndClaim := by
    intro u hu
    unfold State.reserveAndClaim
    split
    · exact countdown _ (hses u hu)
    · exact hses _ (countdown u hu)
  have hreserve : ∀ u, P u → P u.reserveAndSession := by
    intro u hu
    unfold State.reserveAndSession State.withdrawalCheck
    split
    · exact withdraw _ (hclaim u hu)
    · exact hclaim u hu
  unfold State.sessionAndPark
  split
  · exact hreserve _ (park s h)
  · exact park _ (hreserve s h)

theorem flightFresh_claimAndLatch {s : State} (h : FlightFresh s) : FlightFresh s.claimAndLatch := by
  unfold State.claimAndLatch
  split
  · dsimp only
    split
    · exact h.congr (by simp) (by simp)
    · intro f hf
      obtain rfl : _ = f := Option.mem_some_iff.mp hf
      exact ⟨by simp [State.altInputs, State.altStart], rfl⟩
  · exact h

@[simp] theorem flight_rsvCountdown (s : State) : s.rsvCountdown.alt.flight = s.alt.flight := by
  unfold State.rsvCountdown State.refreshBoundary
  split
  · rfl
  · dsimp only
    split
    · simp
    · split
      · split
        · rw [State.sendEvent, Station.judgeEvent_flight]
          simp
        · rfl
      · rfl

@[simp] theorem flight_windowBoundary (s : State) : s.windowBoundary.alt.flight = s.alt.flight := by
  unfold State.windowBoundary
  split
  · rfl
  · split
    · split
      · simp [State.closeRestored]
      · unfold State.closeCold
        dsimp only
        split <;> simp [State.dropSession, State.altDiscard]
    · rfl

/-- A boundary that a restart brings leaves no computation but one of its own. -/
theorem flightFresh_boundary (s : State) (rollover : Bool) : FlightFresh (s.boundary rollover true) := by
  have habandoned (u : State) : FlightFresh u.altAbandon := fun f hf => by cases hf
  have hparked (u : State) (hu : FlightFresh u) : FlightFresh u.sessionAndPark :=
    sessionAndPark_preserves (P := FlightFresh) (fun _ h => h.congr (by simp) (by simp)) (fun _ h => h.congr (by simp) (by simp))
      (fun _ => flightFresh_claimAndLatch) (fun _ h => h.congr (by simp) (by simp))
      (fun _ h => h.congr (by simp [State.prkBoundary]) (by simp)) hu
  have hlast (u : State) (hu : FlightFresh u) : FlightFresh u.bumpChoices.follow := hu
  unfold State.boundary
  exact hlast _ (hparked _ (habandoned _))

theorem setTime_taken {s : State} {e : Nat} (h : e < 43200) :
    exec (.setTime e) s = .next ((s.counted.setTimeTo e).answerWith 2 .ok []) := by
  have hpass : firstFail (setTimeChecks e) = none := by simp [setTimeChecks, firstFail, Config.dayEpochs, h]
  simp only [exec, execSetTime, hpass]
  rfl

/-- Settles O23: the restart moves the clock, and its boundary ages the peers and abandons the computation. -/
theorem setTimeRestartsTheEpoch : Obligations.SetTimeRestartsTheEpoch := by
  intro e s
  refine ⟨fun he => ⟨_, setTime_taken he, ?_⟩, fun he => ?_⟩
  · generalize hu : s.counted.setTimeTo e = u
    have hclk : u.clk = { epoch := e, tick := 0, set := true, disagree := agedDisagree s.clk.disagree, tickOwed := false } := by
      rw [← hu, State.setTimeTo, State.boundary_clk]
      rfl
    have hfresh : FlightFresh u := hu ▸ flightFresh_boundary _ _
    have hentries : u.ptb.entries = agedEntries false s.ptb.entries := by
      rw [← hu, State.setTimeTo, boundary_agedEntries]
      rfl
    refine ⟨hclk, hentries, fun f hf => ?_, by simp [← hu, State.setTimeTo], by simp [← hu], by simp [← hu, State.setTimeTo],
      by simp [← hu, State.setTimeTo], Port.responds_answerWith _ _ (by simp [← hu, State.setTimeTo])⟩
    obtain ⟨hepoch, hticks⟩ := hfresh f hf
    exact ⟨hepoch.trans (by rw [hclk]), hticks⟩
  · have hfail : firstFail (setTimeChecks e) = some 1 := by
      have hnot : ¬e < 43200 := by omega
      simp [setTimeChecks, firstFail, Config.dayEpochs, hnot]
    exact Port.refused_of_range (by
      simp only [exec, execSetTime, hfail]
      rfl)

end Sys2Proof.Proofs.Boundary
end

section
/-!
Silent peers (R38, R40), and the figures that the peer table gives: held draws, limits in effect, fair share (O32).
-/
namespace Sys2Proof.Proofs.Silence

open Sys2Proof Sys2Proof.Machine

/-! ## Entries one boundary older -/

/-- An entry as the rollover of a boundary leaves it. -/
def rolledIf (rollover : Bool) (p : PeerEntry) : PeerEntry := if rollover then p.rolled else p

theorem rolledIf_figures (r : Bool) (p : PeerEntry) :
    (rolledIf r p).bay = p.bay ∧ (rolledIf r p).silence = p.silence ∧ (rolledIf r p).claim.drawn = p.claim.drawn := by
  cases r <;> exact ⟨rfl, rfl, rfl⟩

theorem mem_agedEntries {rollover : Bool} {ps : List PeerEntry} {q : PeerEntry} :
    q ∈ agedEntries rollover ps ↔ ∃ p ∈ ps, p.silence + 1 < 15 ∧ q = (rolledIf rollover p).older := by
  have hmap : (if rollover then ps.map PeerEntry.rolled else ps) = ps.map (rolledIf rollover) := by
    cases rollover
    · exact (List.map_id ps).symm
    · rfl
  rw [Boundary.agedEntries_eq, hmap, Peers.mem_agedPeers]
  constructor
  · rintro ⟨hlt, u, hu, rfl⟩
    obtain ⟨p, hp, rfl⟩ := List.mem_map.mp hu
    obtain ⟨-, hsilence, -⟩ := rolledIf_figures rollover p
    exact ⟨p, hp, hsilence ▸ hlt, rfl⟩
  · rintro ⟨p, hp, hlt, rfl⟩
    obtain ⟨-, hsilence, -⟩ := rolledIf_figures rollover p
    rw [← hsilence] at hlt
    exact ⟨hlt, _, List.mem_map_of_mem hp, rfl⟩

theorem peerSilent_of_mem {s : State} {p : PeerEntry} (hp : p ∈ s.ptb.entries) : s.peerSilent p.bay p.silence = true :=
  List.any_eq_true.mpr ⟨p, hp, by simp⟩

theorem peerStale_boundary {s : State} {p : PeerEntry} (hend : s.AtEpochEnd) (hp : p ∈ s.ptb.entries) (hsilent : p.silence = 2) :
    Answers (.peerStale p.bay) s fun t => ∃ q ∈ t.ptb.entries, q.bay = p.bay ∧ q.state = .stale ∧ q.silence = 3 ∧
      (q.held : Int) = max p.claim.drawn 0 ∧ t.ptb.entries = agedEntries (s.clk.epoch == 43199) s.ptb.entries := by
  refine Boundary.answers_of_boundaryWhere rfl (hsilent ▸ peerSilent_of_mem hp) ?_
  rw [Boundary.epochBoundary_entries hend]
  obtain ⟨hbay, hsilence, hdrawn⟩ := rolledIf_figures (s.clk.epoch == 43199) p
  have hstate : (rolledIf (s.clk.epoch == 43199) p).older.state = .stale := by
    simp [PeerEntry.older, hsilence, hsilent, Config.staleSilence]
  refine ⟨_, mem_agedEntries.mpr ⟨p, hp, by omega, rfl⟩, hbay, hstate, ?_, ?_, rfl⟩
  · simp [PeerEntry.older, hsilence, hsilent]
  · rw [PeerEntry.held, if_neg (by rw [Peers.isLive_iff, hstate]; nofun)]
    exact (Int.toNat_eq_max _).trans (by rw [PeerEntry.older, hdrawn])

theorem peerRemoved_boundary {s : State} {p : PeerEntry} (hend : s.AtEpochEnd) (hdistinct : (s.ptb.entries.map PeerEntry.bay).Nodup)
    (hp : p ∈ s.ptb.entries) (hsilent : p.silence = 14) : Answers (.peerRemoved p.bay) s fun t =>
      (∀ q ∈ t.ptb.entries, q.bay ≠ p.bay) ∧ t.ptb.entries = agedEntries (s.clk.epoch == 43199) s.ptb.entries := by
  refine Boundary.answers_of_boundaryWhere rfl (hsilent ▸ peerSilent_of_mem hp) ?_
  rw [Boundary.epochBoundary_entries hend]
  refine ⟨fun q hq hbay => ?_, rfl⟩
  obtain ⟨u, hu, hlt, rfl⟩ := mem_agedEntries.mp hq
  have hsame : u = p := List.inj_on_of_nodup_map hdistinct hu hp ((rolledIf_figures _ u).1.symm.trans hbay)
  rw [hsame, hsilent] at hlt
  omega

/-! ## The figures of the table -/

/-- The least of a start value and the values of a list. -/
theorem foldl_min_spec {α : Type} (g : α → Nat) (xs : List α) (a : Nat) :
    xs.foldl (fun m x => min m (g x)) a ≤ a ∧ (∀ x ∈ xs, xs.foldl (fun m x => min m (g x)) a ≤ g x) ∧
      (xs.foldl (fun m x => min m (g x)) a = a ∨ ∃ x ∈ xs, xs.foldl (fun m x => min m (g x)) a = g x) := by
  induction xs generalizing a with
  | nil => simp
  | cons x xs ih =>
    obtain ⟨hle, hall, hwhich⟩ := ih (min a (g x))
    rw [List.foldl_cons]
    refine ⟨by omega, List.forall_mem_cons.mpr ⟨by omega, hall⟩, ?_⟩
    obtain heq | ⟨y, hy, heq⟩ := hwhich
    · by_cases hax : a ≤ g x
      · exact .inl (by omega)
      · exact .inr ⟨x, by simp, by omega⟩
    · exact .inr ⟨y, by simp [hy], heq⟩

/-- The draws held are those of the entries that are not LIVE (R40). -/
theorem sum_held (ps : List PeerEntry) :
    (ps.map PeerEntry.held).sum = ((ps.filter fun p => decide (p.state = .stale)).map fun p => p.claim.drawn.toNat).sum := by
  induction ps with
  | nil => rfl
  | cons p ps ih => cases h : p.state <;> simp [PeerEntry.held, PeerEntry.isLive, h, ih]

theorem live_filter (ps : List PeerEntry) : ps.filter PeerEntry.isLive = ps.filter fun p => decide (p.state = .live) :=
  List.filter_congr fun p _ => by simp [PeerEntry.isLive, beq_eq_decide]

theorem fEff_spec (s : State) (f : Nat) :
    s.fEff f ≤ s.ownLimit f ∧
      (∀ p ∈ s.ptb.entries.filter (fun p => decide (p.state = .live)), p.claim.feeder = f → s.fEff f ≤ p.claim.feederLimit) ∧
      (s.fEff f = s.ownLimit f ∨
        ∃ p ∈ s.ptb.entries.filter (fun p => decide (p.state = .live)), p.claim.feeder = f ∧ s.fEff f = p.claim.feederLimit) := by
  obtain ⟨hle, hall, hwhich⟩ := foldl_min_spec (fun p : PeerEntry => p.claim.feederLimit)
    (s.ptb.entries.filter fun p => p.isLive && p.claim.feeder == f) (s.ownLimit f)
  have hmem (p : PeerEntry) : p ∈ s.ptb.entries.filter (fun p => p.isLive && p.claim.feeder == f) ↔
      p ∈ s.ptb.entries.filter (fun p => decide (p.state = .live)) ∧ p.claim.feeder = f := by
    simp [Peers.isLive_iff, and_assoc]
  refine ⟨hle, fun p hp hf => hall p ((hmem p).mpr ⟨hp, hf⟩), hwhich.imp_right ?_⟩
  rintro ⟨p, hp, heq⟩
  obtain ⟨hlive, hf⟩ := (hmem p).mp hp
  exact ⟨p, hlive, hf, heq⟩

/-- Settles O32: the boundary ages each entry by one, and each figure is a fold over the entries of the table. -/
theorem silentPeersGoStaleAndAreRemoved : Obligations.SilentPeersGoStaleAndAreRemoved := by
  refine ⟨fun b p s hend hdistinct hp hb => ?_, fun s => ?_⟩
  · subst hb
    exact ⟨peerStale_boundary hend hp, peerRemoved_boundary hend hdistinct hp⟩
  · refine ⟨?_, fun f => fEff_spec s f, fun f => ?_, sum_held _, rfl⟩
    · rw [← live_filter]
      exact foldl_min_spec (fun p : PeerEntry => p.claim.serviceLimit) _ _
    · rw [heldOn, sum_held, List.filter_filter, List.filter_filter]
      simp only [beq_eq_decide, Bool.and_comm]

end Sys2Proof.Proofs.Silence
end

section
/-!
READ_PEER (R45 to R47): each payload is 27 bytes of the entry, 6 of its row and 2 counts (O34).
-/
namespace Sys2Proof.Proofs.ReadPeer

open Sys2Proof Sys2Proof.Machine

/-! ## The three parts of a payload -/

@[simp] theorem claimBytes_length (c : Claim) : c.bytes.length = 20 := by simp [Claim.bytes]

theorem resultFields_length (b : Bool) (g f e : Nat) : (resultFields b g f e).length = 6 := by simp [resultFields]

theorem resultFields_eq (b : Bool) (g f e : Nat) : resultFields b g f e = yesNo b ++ (u16 g ++ u8 f ++ u16 e) := by
  simp only [resultFields, List.append_assoc]

theorem parts_of_payload {head part counts result rest : List Byte} (hhead : head.length = 27) (hpart : part.length = 6)
    (hcounts : counts.length = 2) (hresult : part = result ++ rest) :
    (head ++ part ++ counts).length = 35 ∧ (head ++ part ++ counts).take 27 = head ∧
      ((head ++ part ++ counts).drop 27).take result.length = result ∧ (head ++ part ++ counts).drop 33 = counts := by
  refine ⟨by rw [List.length_append, List.length_append, hhead, hpart, hcounts], ?_, ?_, ?_⟩
  · rw [List.append_assoc, ← hhead, List.take_left]
  · rw [List.append_assoc, ← hhead, List.drop_left, hresult, List.append_assoc, List.take_left]
  · have h33 : 33 = (head ++ part).length := by simp [hhead, hpart]
    rw [h33, List.drop_left]

theorem peerCounts_length (s : State) : s.peerCounts.length = 2 := by simp [State.peerCounts]

/-- What READ_PEER answers, as the statement spells it. -/
def Answered (s : State) (i : Instr) (head result : List Byte) : Prop := Answers i s fun t =>
  t = { s with prt := { s.prt with answer := t.prt.answer, response := t.prt.response }, choices := t.choices } ∧
  Responds s t 14 .ok t.prt.response.payload ∧ t.prt.response.payload.length = 35 ∧
  t.prt.response.payload.take 27 = head ∧ (t.prt.response.payload.drop 27).take result.length = result ∧
  t.prt.response.payload.drop 33 =
    u8 s.ptb.entries.length ++ u8 (s.ptb.entries.filter fun p => p.state == .live).length

/-- The state that a READ_PEER in range reads: one answer and one free value further. -/
def reading (s : State) : State := s.counted.bumpChoices

theorem answered_of_parts {s : State} {i : Instr} {head part result rest : List Byte}
    (hexec : exec i s = .next ((reading s).answerWith 14 .ok (head ++ part ++ (reading s).peerCounts)))
    (hhead : head.length = 27) (hpart : part.length = 6) (hresult : part = result ++ rest) : Answered s i head result := by
  obtain ⟨hlength, htake, hrow, hcounts⟩ := parts_of_payload hhead hpart (peerCounts_length (reading s)) hresult
  exact ⟨_, hexec, rfl, Port.responds_answerWith _ _ rfl, hlength, htake, hrow, hcounts⟩

/-! ## The rows -/

/-- The row of a bay in the result table, as it is sent where there is one. -/
def rowSent (s : State) (b : Nat) : List Byte :=
  match s.alt.result.bind fun r => (r.rows.find? fun w => w.bay == b).map fun w => (w, r.epoch) with
  | some (w, e) => yesNo true ++ u16 w.grant ++ u8 w.feeder ++ u16 e
  | none => yesNo false

theorem resultPart_eq (s : State) (b : Nat) :
    ∃ rest, (reading s).resultPart b = rowSent s b ++ rest ∧ ((reading s).resultPart b).length = 6 := by
  have hrow : (reading s).rowOf b =
      s.alt.result.bind fun r => (r.rows.find? fun w => w.bay == b).map fun w => (w, r.epoch) := rfl
  unfold State.resultPart rowSent
  rw [hrow]
  cases s.alt.result.bind fun r => (r.rows.find? fun w => w.bay == b).map fun w => (w, r.epoch) with
  | none => exact ⟨_, resultFields_eq _ _ _ _, resultFields_length _ _ _ _⟩
  | some x => exact ⟨[], by simp [resultFields], resultFields_length _ _ _ _⟩

/-- The own part of the row: present or not, the own grant and feeder, and the latch epoch where there is a row. -/
def ownRowSent (s : State) (c : ConfigRecord) (b : Nat) : List Byte :=
  let ownRow := s.alt.result.bind fun r => (r.rows.find? fun w => w.bay == b).map fun _ => r.epoch
  yesNo ownRow.isSome ++ u16 s.alt.grant ++ u8 c.feeder ++ (ownRow.map u16).getD []

theorem ownResultPart_eq {s : State} {c : ConfigRecord} (hc : s.cfg = some c) :
    ∃ rest, (reading s).ownResultPart = ownRowSent s c c.bayId ++ rest ∧ (reading s).ownResultPart.length = 6 := by
  have hbay : (reading s).ownBay = c.bayId := by simp [State.ownBay, reading, State.counted, hc]
  have hfeeder : (reading s).ownFeeder = c.feeder := by simp [State.ownFeeder, reading, State.counted, hc]
  have hrow : ((reading s).rowOf c.bayId).map Prod.snd =
      s.alt.result.bind fun r => (r.rows.find? fun w => w.bay == c.bayId).map fun _ => r.epoch := by
    change (s.alt.result.bind _).map Prod.snd = _
    cases s.alt.result with
    | none => rfl
    | some r => simp only [Option.bind_some, Option.map_map, AltResult.rowOf]; rfl
  have hsome : ((reading s).rowOf c.bayId).isSome = (((reading s).rowOf c.bayId).map Prod.snd).isSome := by simp
  unfold State.ownResultPart ownRowSent
  rw [hbay, hfeeder, hsome, hrow]
  cases s.alt.result.bind fun r => (r.rows.find? fun w => w.bay == c.bayId).map fun _ => r.epoch with
  | none => exact ⟨_, by simp only [resultFields, Option.map_none, Option.getD_none, List.append_nil]; rfl, resultFields_length _ _ _ _⟩
  | some e => exact ⟨[], by simp [resultFields]; rfl, resultFields_length _ _ _ _⟩

/-! ## The entries -/

/-- The 27 bytes of an entry. -/
def entrySent (p : PeerEntry) : List Byte :=
  u8 (if p.state = .live then 0 else 1) ++ u8 p.bay ++ u16 p.epoch ++ p.claim.bytes ++ u8 p.silence ++ u16 p.held

theorem entryPayload_eq (s : State) (p : PeerEntry) :
    s.entryPayload p = entrySent p ++ s.resultPart p.bay ++ s.peerCounts := by
  simp [State.entryPayload, entrySent, PeerEntry.isLive]

theorem byIndex_taken {s : State} {n : Nat} (h62 : n ≤ 62) (hn : n < s.ptb.entries.length) : exec (.readPeerByIndex 0 n) s =
    .next ((reading s).answerWith 14 .ok ((reading s).indexPayload n)) := by
  have hpass : firstFail (peerIndexChecks 0 n s.ptb.entries.length) = none := by simp [peerIndexChecks, firstFail, h62, hn]
  simp only [exec, execReadPeerByIndex, hpass]
  rfl

theorem byBay_taken (s : State) {b : Nat} (h1 : 1 ≤ b) (h64 : b ≤ 64) : exec (.readPeerByBay b) s =
    .next ((reading s).answerWith 14 .ok ((reading s).bayPayload b)) := by
  have hpass : firstFail (peerBayChecks b) = none := by simp [peerBayChecks, firstFail, within, h1, h64]
  simp only [exec, execReadPeerByBay, hpass]
  rfl

theorem answered_entry {s : State} {i : Instr} {p : PeerEntry}
    (hexec : exec i s = .next ((reading s).answerWith 14 .ok ((reading s).entryPayload p))) :
    Answered s i (entrySent p) (rowSent s p.bay) := by
  obtain ⟨rest, hrow, hlength⟩ := resultPart_eq s p.bay
  rw [entryPayload_eq] at hexec
  exact answered_of_parts hexec (by simp [entrySent]) hlength hrow

/-- The bay byte of a bay that is not the own one (R47). -/
theorem bayPayload_of_other {s : State} {b : Nat} (h : s.cfg = none ∨ b ≠ s.ownBay) : (reading s).bayPayload b =
    match s.ptb.entries.find? fun p => p.bay == b with
    | some p => (reading s).entryPayload p
    | none => (reading s).absentPayload b := by
  have hother : ((reading s).cfg.isSome && b == (reading s).ownBay) = false := by
    obtain h | h := h
    · rw [show (reading s).cfg = none from h]
      rfl
    · rw [show (b == (reading s).ownBay) = false from beq_false_of_ne h, Bool.and_false]
  rw [State.bayPayload, hother]
  rfl

theorem answered_absent {s : State} {b : Nat} (h1 : 1 ≤ b) (h64 : b ≤ 64) (hother : s.cfg = none ∨ b ≠ s.ownBay)
    (habsent : ∀ p ∈ s.ptb.entries, p.bay ≠ b) : Answered s (.readPeerByBay b)
      (u8 2 ++ u8 b ++ u16 0 ++ emptyClaim.bytes ++ u8 0 ++ u16 0) (rowSent s b) := by
  have hfind : (s.ptb.entries.find? fun p => p.bay == b) = none := by simpa using habsent
  have hexec := byBay_taken s h1 h64
  rw [bayPayload_of_other hother, hfind] at hexec
  obtain ⟨rest, hrow, hlength⟩ := resultPart_eq s b
  exact answered_of_parts hexec (by simp) hlength hrow

theorem answered_own {s : State} {c : ConfigRecord} (hc : s.cfg = some c) (h1 : 1 ≤ c.bayId) (h64 : c.bayId ≤ 64) :
    Answered s (.readPeerByBay c.bayId)
      (u8 3 ++ u8 c.bayId ++ u16 ((s.lastClaim.map BuiltClaim.epoch).getD 0) ++ s.ownClaim.bytes ++ u8 0 ++ u16 0)
      (ownRowSent s c c.bayId) := by
  have hbay : (reading s).ownBay = c.bayId := by simp [State.ownBay, reading, State.counted, hc]
  have hown : ((reading s).cfg.isSome && c.bayId == (reading s).ownBay) = true := by
    rw [hbay, show (reading s).cfg = some c from hc]
    simp
  have hexec := byBay_taken s h1 h64
  rw [State.bayPayload, hown, if_pos rfl, State.ownPayload, hbay] at hexec
  obtain ⟨rest, hrow, hlength⟩ := ownResultPart_eq hc
  exact answered_of_parts hexec (by simp) hlength hrow

/-! ## The refusals -/

theorem byIndex_refused {s : State} {x n k : Nat} (h : firstFail (peerIndexChecks x n s.ptb.entries.length) = some k) :
    Refused (.readPeerByIndex x n) s 14 .range (u8 k) :=
  Port.refused_of_range (by simp only [exec, execReadPeerByIndex, h]; rfl)

theorem byBay_refused {s : State} {b : Nat} (h : b = 0 ∨ 64 < b) : Refused (.readPeerByBay b) s 14 .range [2#8] := by
  have hfail : firstFail (peerBayChecks b) = some 2 := by
    have hout : ¬(1 ≤ b ∧ b ≤ 64) := by omega
    simp [peerBayChecks, firstFail, within, hout]
  exact Port.refused_of_range (n := 2) (by simp only [exec, execReadPeerByBay, hfail]; rfl)

/-- Settles O34: the index and the bay choose what is read, and each payload is its three parts. -/
theorem readPeerAnswersEntries : Obligations.ReadPeerAnswersEntries := by
  intro s
  refine ⟨fun n p h62 hp => ?_, fun n hn => ?_, fun x n hx => ?_, fun b h1 h64 hother => ⟨fun p hp => ?_, ?_⟩, fun c b hc hb h1 h64 => ?_,
    fun b hb => byBay_refused hb⟩
  · have hn : n < s.ptb.entries.length := (List.getElem?_eq_some_iff.mp hp).1
    have hexec := byIndex_taken h62 hn
    rw [State.indexPayload, show (reading s).ptb.entries[n]? = some p from hp] at hexec
    exact answered_entry hexec
  · refine byIndex_refused (k := 2) ?_
    have hout : ¬(n ≤ 62 ∧ n < s.ptb.entries.length) := by omega
    simpa [peerIndexChecks, firstFail] using not_and.mp hout
  · refine byIndex_refused (k := 1) ?_
    have hsel : ¬x = 0 := by omega
    simp [peerIndexChecks, firstFail, hsel]
  · have hexec := byBay_taken s h1 h64
    rw [bayPayload_of_other hother, hp] at hexec
    have hbay : p.bay = b := by simpa using List.find?_some hp
    subst hbay
    exact answered_entry hexec
  · exact answered_absent h1 h64 hother
  · subst hb
    have hown := answered_own hc h1 h64
    refine ⟨fun m hm => ?_, fun hnone => ?_⟩
    · rw [State.ownClaim, Option.mem_def.mp hm] at hown
      exact hown
    · rw [State.ownClaim, hnone, State.idleClaim, show s.ownFeeder = c.feeder by simp [State.ownFeeder, hc]] at hown
      exact hown

end Sys2Proof.Proofs.ReadPeer
end

section
/-!
Captures (R161 to R167): what a capture's record and its place in the log are read from, and that a stored record stays.
-/
namespace Sys2Proof.Proofs.Captures

open Sys2Proof Sys2Proof.Machine Sys2Proof.Proofs.Acts

variable {s t u : State} {c : Cause} {d : BitVec 32} {b : Option Nat}

/-! ## The record and the log -/

/-- The registers that a record is read from (R163). -/
theorem record_congr (hseq : t.log.seq = s.log.seq) (hclk : t.clk = s.clk) (hses : t.ses = s.ses) (hgrant : t.alt.grant = s.alt.grant)
    (hstg : t.stg.applied = s.stg.applied ∧ t.stg.measured = s.stg.measured)
    (hrsv : t.rsv.active = s.rsv.active ∧ t.rsv.dActive = s.rsv.dActive) (c : Cause) (d : BitVec 32) (b : Option Nat) :
    t.record c d b = s.record c d b := by
  obtain ⟨happlied, hmeasured⟩ := hstg
  obtain ⟨hactive, hdemand⟩ := hrsv
  simp only [State.record, State.liveBus, State.energy, *]

theorem capture_eq (s : State) (c : Cause) (d : BitVec 32) (b : Option Nat) : s.capture c d b =
    if s.log.enables c then (s.setLog (s.log.count c)).store (s.record c d b) else s.setLog (s.log.count c) := by
  cases c <;> rfl

theorem store_log_congr (h : t.log = s.log) (r : LogRecord) : (t.store r).log = (s.store r).log := by
  unfold State.store
  rw [h]
  dsimp only
  (repeat' split) <;> rfl

theorem store_flags_congr (h : t.log = s.log) (hflags : t.prt.flags = s.prt.flags) (r : LogRecord) :
    (t.store r).prt.flags = (s.store r).prt.flags := by
  unfold State.store
  rw [h]
  dsimp only
  (repeat' split) <;> simp only [State.raise, State.setPrt_prt, State.setLog_prt, hflags]

/-- The log after a capture depends on the log and the record alone. -/
theorem capture_log_congr (hlog : t.log = s.log) (hrecord : t.record c d b = s.record c d b) :
    (t.capture c d b).log = (s.capture c d b).log := by
  rw [capture_eq, capture_eq, hlog, hrecord]
  split
  · exact store_log_congr (s := s.setLog (s.log.count c)) (t := t.setLog (s.log.count c)) rfl _
  · rfl

theorem capture_flags_congr (hlog : t.log = s.log) (hrecord : t.record c d b = s.record c d b)
    (hflags : t.prt.flags = s.prt.flags) : (t.capture c d b).prt.flags = (s.capture c d b).prt.flags := by
  rw [capture_eq, capture_eq, hlog, hrecord]
  split
  · exact store_flags_congr (s := s.setLog (s.log.count c)) (t := t.setLog (s.log.count c)) rfl hflags _
  · exact hflags

/-- The log of `t` is that of `s` with one capture, taken where the figures of its record stood as they stand in `t`. -/
theorem capturedAlone_of_capture (hu : u.log = s.log) (hlog : t.log = (u.capture c d b).log)
    (hrecord : (t.setLog s.log).record c d b = u.record c d b) : CapturedAlone s t c d b := by
  have hcapture : ((t.setLog s.log).capture c d b).log = (u.capture c d b).log := capture_log_congr hu.symm hrecord
  exact hlog.trans hcapture.symm

/-! ## A stored record stays -/

/-- The log of `t` goes on from that of `s`: its banks hold the records that they held, and further ones after them. -/
structure LogGrew (s t : State) : Prop where
  mask : t.log.mask = s.log.mask
  a : s.log.a.records <+: t.log.a.records
  b : s.log.b.records <+: t.log.b.records
  lost : s.log.lost ≤ 255 → s.log.lost ≤ t.log.lost ∧ t.log.lost ≤ 255

theorem LogGrew.refl (s : State) : LogGrew s s := ⟨rfl, List.prefix_rfl, List.prefix_rfl, fun h => ⟨le_rfl, h⟩⟩

theorem LogGrew.trans (h : LogGrew s t) (h' : LogGrew t u) : LogGrew s u :=
  ⟨h'.mask.trans h.mask, h.a.trans h'.a, h.b.trans h'.b, fun hs =>
    have ht := h.lost hs
    have hu := h'.lost ht.2
    ⟨ht.1.trans hu.1, hu.2⟩⟩

theorem LogGrew.of_log (h : t.log = s.log) : LogGrew s t := by
  refine ⟨by rw [h], by rw [h], by rw [h], fun hs => ?_⟩
  rw [h]
  exact ⟨le_rfl, hs⟩

theorem start_records (b : Bank) : b.start.records = b.records := by
  unfold Bank.start
  split <;> rfl

/-- Storing puts the record at the end of a bank, or loses it and counts it lost. -/
theorem store_cases (s : State) (r : LogRecord) :
    ((s.store r).log.a.records = s.log.a.records ++ [r] ∧ (s.store r).log.b.records = s.log.b.records ∧
        (s.store r).log.lost = s.log.lost) ∨
      ((s.store r).log.b.records = s.log.b.records ++ [r] ∧ (s.store r).log.a.records = s.log.a.records ∧
        (s.store r).log.lost = s.log.lost) ∨
      ((s.store r).log.a.records = s.log.a.records ∧ (s.store r).log.b.records = s.log.b.records ∧
        (s.store r).log.lost = min 255 (s.log.lost + 1)) := by
  unfold State.store
  split
  · left
    dsimp only
    split <;> simp [Bank.push, start_records]
  · split
    · right; left
      dsimp only
      split <;> simp [Bank.push, start_records]
    · right; right
      simp

theorem logGrew_store (s : State) (r : LogRecord) : LogGrew s (s.store r) := by
  have hmask : (s.store r).log.mask = s.log.mask := by
    unfold State.store
    dsimp only
    (repeat' split) <;> rfl
  obtain ⟨ha, hb, hlost⟩ | ⟨hb, ha, hlost⟩ | ⟨ha, hb, hlost⟩ := store_cases s r
  · exact ⟨hmask, ha ▸ List.prefix_append _ _, by rw [hb], fun h => by omega⟩
  · exact ⟨hmask, by rw [ha], hb ▸ List.prefix_append _ _, fun h => by omega⟩
  · exact ⟨hmask, by rw [ha], by rw [hb], fun h => by omega⟩

theorem logGrew_capture (s : State) (c : Cause) (d : BitVec 32) (b : Option Nat) : LogGrew s (s.capture c d b) := by
  have hcount : LogGrew s (s.setLog (s.log.count c)) := ⟨rfl, List.prefix_rfl, List.prefix_rfl, fun h => ⟨le_rfl, h⟩⟩
  rw [capture_eq]
  split
  · exact hcount.trans (logGrew_store _ _)
  · exact hcount

/-- Every operation that reaches the log through captures alone lets it grow. -/
theorem logGrew_keptByActs (s : State) : KeptByActs [] (LogGrew s) :=
  keptByActs_of_log (fun _ _ h hlog => h.trans (LogGrew.of_log hlog)) (fun _ c d b h => h.trans (logGrew_capture _ c d b))

/-- The record that stands in a bank after the records that stood in it before. -/
theorem mem_drop_of_prefix {xs ys zs : List LogRecord} {r : LogRecord} (h : xs <+: ys) (h' : ys ++ [r] <+: zs) :
    r ∈ zs.drop xs.length := by
  obtain ⟨ws, rfl⟩ := h
  obtain ⟨vs, rfl⟩ := h'
  simp [List.append_assoc]

/-- A capture among the acts of a command is logged as `Logged` says: counted lost it would have raised the lost count. -/
theorem logged_of_capture {n : Nat} {P : LogRecord → Prop} (hbefore : LogGrew s u) (hafter : LogGrew (u.capture c d b) t)
    (henabled : ∀ g : Log, g.mask.getLsbD (n - 1) = true → g.enables c = true) (hP : P (u.record c d b)) : Logged s t c n P := by
  intro hmask hlost hsame
  have hcapture : u.capture c d b = (u.setLog (u.log.count c)).store (u.record c d b) := by
    rw [capture_eq, if_pos (henabled _ (by rw [hbefore.mask]; exact hmask))]
  rw [hcapture] at hafter
  obtain ⟨hlo, hhi⟩ := hbefore.lost hlost.le
  have hnotLost : ((u.setLog (u.log.count c)).store (u.record c d b)).log.lost ≤ s.log.lost := by
    rw [← hsame]
    refine (hafter.lost ?_).1
    exact ((logGrew_store (u.setLog (u.log.count c)) (u.record c d b)).lost hhi).2
  refine ⟨u.record c d b, List.mem_append.mpr ?_, rfl, hP⟩
  obtain ⟨ha, -, -⟩ | ⟨hb, -, -⟩ | ⟨-, -, hcount⟩ := store_cases (u.setLog (u.log.count c)) (u.record c d b)
  · exact .inl (mem_drop_of_prefix hbefore.a (ha ▸ hafter.a))
  · exact .inr (mem_drop_of_prefix hbefore.b (hb ▸ hafter.b))
  · have hsum : min 255 (u.log.lost + 1) ≤ s.log.lost := hcount ▸ hnotLost
    omega

/-- The log of `t` goes on from a capture, taken where the log went on from that of `s`. -/
def CaptureBetween (s : State) (c : Cause) (d : BitVec 32) (b : Option Nat) (R : LogRecord → Prop) (t : State) : Prop :=
  ∃ u, LogGrew s u ∧ R (u.record c d b) ∧ LogGrew (u.capture c d b) t

theorem keptByActs_captureBetween (s : State) (c : Cause) (d : BitVec 32) (b : Option Nat) (R : LogRecord → Prop) :
    KeptByActs [] (CaptureBetween s c d b R) :=
  keptByActs_of_log (fun _ _ ⟨u, hu, hr, h⟩ hlog => ⟨u, hu, hr, h.trans (LogGrew.of_log hlog)⟩)
    fun _ c d b ⟨u, hu, hr, h⟩ => ⟨u, hu, hr, h.trans (logGrew_capture _ c d b)⟩

theorem captureBetween_of_capture {R : LogRecord → Prop} (h : LogGrew s u) (hr : R (u.record c d b)) :
    CaptureBetween s c d b R (u.capture c d b) := ⟨u, h, hr, LogGrew.refl _⟩

theorem logged_of_between {n : Nat} {R : LogRecord → Prop} (henabled : ∀ g : Log, g.mask.getLsbD (n - 1) = true → g.enables c = true)
    (h : CaptureBetween s c d b R t) : Logged s t c n R := by
  obtain ⟨u, hu, hr, ht⟩ := h
  exact logged_of_capture hu ht henabled hr

end Sys2Proof.Proofs.Captures
end

section
/-!
The stage line's record, its snapshots and the completion of a computation (O42, O43, O46), with the rule by which the setpoint
follows a change.
-/
namespace Sys2Proof.Proofs.StageLine

open Sys2Proof Sys2Proof.Machine

/-! ## The setpoint follows -/

/-- R101 in the statements' words is R101 in the model's. -/
theorem setpointFrom_eq (s : State) (x : Int) :
    s.setpointFrom x = if s.stg.isOpen then 0 else clampInt x s.lowerBound s.target := rfl

theorem follow_eq (s : State) : s.follow = s.setStg { s.stg with applied := s.setpointFrom s.stg.applied } := rfl

theorem setpointFrom_congr {s t : State} (hopen : t.stg.isOpen = s.stg.isOpen)
    (hbounds : t.lowerBound = s.lowerBound ∧ t.target = s.target) (x : Int) : t.setpointFrom x = s.setpointFrom x := by
  rw [setpointFrom_eq, setpointFrom_eq, hopen, hbounds.1, hbounds.2]

/-- The setpoint that has followed is the one that the statements describe, by the bounds that now stand. -/
theorem setpointFrom_follow (s : State) (x : Int) : s.follow.setpointFrom x = s.setpointFrom x :=
  setpointFrom_congr rfl s.follow_bounds x

/-! ## MEASURE (O43) -/

theorem exec_measure_none {bytes : List Byte} {s : State} (h : decodeMeasure bytes = none) : exec (.measure bytes) s = .next s := by
  simp only [exec, execMeasure, h]

theorem exec_measure_some {bytes : List Byte} {s : State} {m : Measure} (h : decodeMeasure bytes = some m) :
    exec (.measure bytes) s = .next (s.judgeMeasure m) := by
  simp only [exec, execMeasure, h]

theorem judgeMeasure_closed {s : State} (m : Measure) (h : s.stg.answer ≠ some .awaiting) : s.judgeMeasure m = s := by
  unfold State.judgeMeasure
  split
  · exact absurd ‹_› h
  all_goals rfl

theorem judgeMeasure_awaiting {s : State} (m : Measure) (h : s.stg.answer = some .awaiting) : s.judgeMeasure m =
    if m.seq = s.stg.seq then s.takeMeasure m
    else if m.seq = (s.stg.seq + 255) % 256 then s
    else s.setStg { s.stg with answer := some .spoiled } := by
  unfold State.judgeMeasure
  rw [h]

/-- The state of a taken record before its flags are acted on. -/
def measured (s : State) (m : Measure) : State :=
  s.setStg { s.stg with answer := some .answered, measured := m.power, volts := m.volts, gap := 0, meterLost := false,
                        stageFault := m.fault, isOpen := m.isOpen }

/-- A taken record: its values and flags stand, the setpoint follows, and STAGE_FAULT's beginning is captured and noticed. -/
theorem takeMeasure_eq (s : State) (m : Measure) : s.takeMeasure m =
    if m.fault && !s.stg.stageFault then (((measured s m).follow).captureNat .stageFault 0).raise .stageFault
    else (measured s m).follow := rfl

theorem measured_fault {s : State} {m : Measure} (h : m.fault = true) : (measured s m).follow.stg.applied = 0 := by
  have hforced : (measured s m).forcedZero = true := Setpoint.forcedZero_iff.mpr (.inr (.inr (.inr (.inr (.inl h)))))
  obtain ⟨hlow, htarget⟩ := Setpoint.bounds_of_forcedZero hforced
  rw [follow_eq, State.setStg_stg, setpointFrom_eq, hlow, htarget]
  dsimp only
  split
  · rfl
  · rw [Setpoint.clampInt_eq_max_min le_rfl]
    omega

/-- A capture with its notice writes the log and the port alone. -/
theorem captureRaise_frame (s : State) (c : Cause) (d : Nat) (n : Notice) : (s.captureNat c d).raise n =
    { s with log := ((s.captureNat c d).raise n).log, prt := ((s.captureNat c d).raise n).prt } := by
  ext1 <;> first | rfl | simp

theorem captureRaise_setpointFrom (s : State) (c : Cause) (d : Nat) (n : Notice) (x : Int) :
    ((s.captureNat c d).raise n).setpointFrom x = s.setpointFrom x :=
  setpointFrom_congr (by simp) (State.bounds_congr (by simp) (by simp) (by simp [State.isClaiming]) (by simp) (by simp) (by simp)
    (by simp) (by simp) (by simp) (by simp)) x

theorem takeMeasure_frame (s : State) (m : Measure) : s.takeMeasure m = { s with
    stg := { s.stg with
      answer := some .answered, measured := m.power, volts := m.volts, gap := 0, meterLost := false
      stageFault := m.fault, isOpen := m.isOpen, applied := (s.takeMeasure m).setpointFrom s.stg.applied }
    log := (s.takeMeasure m).log, prt := (s.takeMeasure m).prt } := by
  have hset : (s.takeMeasure m).setpointFrom s.stg.applied = (measured s m).follow.setpointFrom s.stg.applied ∧
      (s.takeMeasure m).stg = (measured s m).follow.stg := by
    rw [takeMeasure_eq]
    split
    · exact ⟨captureRaise_setpointFrom _ _ _ _ _, by simp⟩
    · exact ⟨rfl, rfl⟩
  obtain ⟨hset, hstg⟩ := hset
  ext1
  case stg =>
    rw [hset, hstg, setpointFrom_follow]
    rfl
  all_goals first | rfl | simp

/-- Settles O43: the echoed sequence decides, and a record taken is one change of the stage line with its consequences. -/
theorem measureIsJudgedByItsSequence : Obligations.MeasureIsJudgedByItsSequence := by
  intro bytes s
  refine ⟨exec_measure_none, fun m hm => ?_⟩
  have hexec := exec_measure_some (s := s) hm
  refine ⟨fun h => ?_, fun h hseq hlate => ?_, fun h hseq hlate => ?_, fun h hseq => ?_⟩
  · rw [Idle, hexec, judgeMeasure_closed m h]
  · rw [Idle, hexec, judgeMeasure_awaiting m h, if_neg hseq, if_pos hlate]
  · rw [hexec, judgeMeasure_awaiting m h, if_neg hseq, if_neg hlate]
    rfl
  · rw [judgeMeasure_awaiting m h, if_pos hseq] at hexec
    have happlied : (s.takeMeasure m).stg.applied = (measured s m).follow.stg.applied := by
      rw [takeMeasure_eq]
      split <;> simp
    refine ⟨_, hexec, takeMeasure_frame s m, fun hfault => happlied.trans (measured_fault hfault), fun hfault hold => ?_, fun hquiet => ?_⟩
    · have hbegins : s.takeMeasure m = (((measured s m).follow).captureNat .stageFault 0).raise .stageFault := by
        rw [takeMeasure_eq, hfault, hold]
        rfl
      rw [hbegins]
      refine ⟨by simp, fun hlength => ?_, ?_⟩
      · have hlength' : (measured s m).follow.log.counters.length = 24 := hlength
        rw [State.raise_counter, State.captureNat_counter _ _ _ _ hlength', if_pos rfl]
        rfl
      · refine Captures.capturedAlone_of_capture (u := (measured s m).follow) rfl rfl ?_
        refine Captures.record_congr ?_ ?_ ?_ ?_ ?_ ?_ _ _ _ <;> first | rfl | simp
    · have hsame : s.takeMeasure m = (measured s m).follow := by
        rw [takeMeasure_eq, if_neg]
        obtain hnone | hold := hquiet <;> simp [*]
      rw [hsame]
      exact ⟨rfl, rfl⟩

/-! ## Snapshots (O46) -/

/-- Every operation but SNAPSHOT and power-on reset leaves the record (R108). -/
theorem exec_snap {i : Instr} {s t : State} (ht : exec i s = .next t) (hsnap : i ≠ .snapshot) (hreset : i ≠ .powerOnReset) :
    t.snap = s.snap := by
  cases i <;> (simp only [exec] at ht; injection ht with ht; subst ht)
  case powerOnReset => exact absurd rfl hreset
  case snapshot => exact absurd rfl hsnap
  case claimFrame | eventFrame | queryFrame | offerFrame | takenFrame =>
    refine State.takeFrame_cases (P := fun u => u.snap = s.snap) rfl ?_ (fun _ => ?_) fun _ _ _ _ _ => ?_ <;> simp
  case configure | setTime | plug | vehicleUpdate | chainLoad | unplug | dispatch | mark | closeBank | releaseBank | readLog | readStatus
      | readSession | readPeerByIndex | readPeerByBay | readSnapshot | clearFlags | setNoticeMask | clearCounters =>
    refine State.command_cases (P := fun u => u.snap = s.snap) (fun _ _ h => h) rfl fun _ _ _ => ?_
    simp
  case droppedFrame | formatRefusal | measure => split <;> simp
  all_goals simp

theorem exec_snapshot (s : State) : exec .snapshot s =
    .next (s.counted.takeSnapshot.answerWith 15 .ok (u16 s.clk.epoch ++ u8 s.clk.tick)) := rfl

theorem exec_readSnapshot (s : State) : exec .readSnapshot s = .next (s.counted.answerWith 16 .ok (snapshotPayload s.snap)) := rfl

/-- Settles O46: the record is what SNAPSHOT put there, and its bytes are its fields in order. -/
theorem snapshotsAreTakenAndRead : Obligations.SnapshotsAreTakenAndRead := by
  refine ⟨fun s => ⟨_, exec_snapshot s, rfl, ⟨rfl, rfl⟩, _, rfl, rfl, rfl, rfl, rfl, rfl, rfl, rfl, rfl, rfl, fun hnone => ?_, fun v hv => ?_⟩,
    fun s => ⟨_, exec_readSnapshot s, rfl, ⟨rfl, rfl⟩, fun hnone => ?_, fun n hn => ?_⟩, rfl, fun i s t ht => exec_snap ht,
    fun s => ⟨_, rfl, rfl⟩⟩
  · simp [State.snapshotNow, State.counted, hnone, zeroIntegrator]
  · simp [State.snapshotNow, State.counted, Option.mem_def.mp hv]
  · change snapshotPayload s.snap = _
    rw [hnone]
    decide
  · change snapshotPayload s.snap = _
    rw [Option.mem_def.mp hn]
    simp [snapshotPayload, Integrator.bytes]

end Sys2Proof.Proofs.StageLine
end

section
/-!
The completion of a computation (R75, R78, R91), and the tick event that closes one exchange and opens the next (O42, O44).
-/
namespace Sys2Proof.Proofs.Tick

open Sys2Proof Sys2Proof.Machine

/-! ## The completion -/

/-- The grant that an undisturbed completion applies (R91). -/
def grantOf (s : State) (f : Flight) : Nat :=
  if s.lnk.station = .isolated then min f.inputs.ownGrant s.fairShare else f.inputs.ownGrant

/-- ALT after a completion. -/
def completed (s : State) (f : Flight) : Alt :=
  if s.alt.discard then { s.alt with flight := none }
  else { s.alt with flight := none, result := some f.inputs.result, grant := grantOf s f }

theorem altComplete_idle {s : State} (h : s.alt.flight = none) : s.altComplete = s := by
  unfold State.altComplete
  rw [h]

theorem altComplete_discarded {s : State} {f : Flight} (hf : s.alt.flight = some f) (hd : s.alt.discard = true) :
    s.altComplete = s.setAlt (completed s f) := by
  unfold State.altComplete completed
  rw [hf, if_pos hd]
  dsimp only
  rw [if_pos hd]
  rfl

theorem altComplete_applied {s : State} {f : Flight} (hf : s.alt.flight = some f) (hd : s.alt.discard = false) :
    s.altComplete = (s.setAlt { s.alt with flight := none, result := some f.inputs.result }).setGrant (grantOf s f) := by
  unfold State.altComplete
  rw [hf]
  dsimp only
  rw [if_neg (by simp [hd])]
  rfl

/-- The state that a completion leaves, marked for discard or not. -/
theorem altComplete_alt {s : State} {f : Flight} (hf : s.alt.flight = some f) : s.altComplete.alt = completed s f := by
  cases hd : s.alt.discard with
  | true => rw [altComplete_discarded hf hd]; rfl
  | false =>
    rw [altComplete_applied hf hd, State.setGrant_alt, completed, hd]
    rfl

theorem setGrant_eq (s : State) (g : Nat) : s.setGrant g = { s with
    alt := { s.alt with grant := g }
    rsv := { s.rsv with baseline := if s.rsv.active then g else s.rsv.baseline }
    stg := { s.stg with applied := (s.setGrant g).setpointFrom s.stg.applied } } := by
  have hset : (s.setGrant g).setpointFrom s.stg.applied = (s.setGrant g).stg.applied := by
    unfold State.setGrant
    dsimp only
    split <;> exact StageLine.setpointFrom_follow _ _
  rw [hset]
  ext1
  case alt => exact State.setGrant_alt s g
  case rsv =>
    rw [State.setGrant_rsv]
    dsimp only
    split <;> rfl
  case stg => exact Boundary.stg_eq_of_butApplied (by simp)
  all_goals simp

/-! ## A tick event at which no monitor steps -/

theorem rsvTick_of_steady {s : State} (h : s.steppedBands = s.rsv.bands) : s.rsvTick = s.watchEdges := by
  have hsame : s.setRsv { s.rsv with bands := s.steppedBands } = s := by rw [h]; rfl
  have hdemand : demandChanged s s = false := by simp [demandChanged]
  unfold State.rsvTick
  rw [hsame]
  simp only [hdemand]
  rfl

theorem steppedBands_congr {s t : State} (hcfg : t.cfg = s.cfg) (hrsv : t.rsv = s.rsv) : t.steppedBands = s.steppedBands := by
  unfold State.steppedBands
  rw [hcfg, hrsv]

/-- The tick's work before the computation's tick: the exchange and the edge watch, in either order. -/
def exchanged (s : State) : State :=
  if s.tickOrderMatters && Config.rsvFirst s.choices then s.watchEdges.stageTick else s.stageTick.watchEdges

theorem tickWork_of_steady {s : State} (h : s.steppedBands = s.rsv.bands) :
    s.tickWork = (exchanged s).altTick.bumpChoices.follow := by
  have hstage : s.stageTick.steppedBands = s.stageTick.rsv.bands := by
    rw [steppedBands_congr (s := s) (by simp) (by simp), h]
    simp
  unfold State.tickWork exchanged
  rw [rsvTick_of_steady h, rsvTick_of_steady hstage]

theorem exchanged_frame (s : State) : (exchanged s).alt = s.alt ∧ (exchanged s).lnk = s.lnk ∧ (exchanged s).ptb = s.ptb ∧
    (exchanged s).cfg = s.cfg ∧ (exchanged s).rsv.active = s.rsv.active ∧ (exchanged s).rsv.baseline = s.rsv.baseline := by
  unfold exchanged
  split <;> simp

/-- The tick's work where no monitor steps, in the words of O42. -/
theorem tickWork_alt {s : State} {f : Flight} (h : s.steppedBands = s.rsv.bands) (hf : s.alt.flight = some f) :
    (f.ticks < 4 → s.tickWork.alt = { s.alt with flight := some { f with ticks := f.ticks + 1 } }) ∧
      (4 ≤ f.ticks → s.tickWork.alt = completed s f ∧
        (s.alt.discard = false → s.tickWork.rsv.baseline = if s.rsv.active then grantOf s f else s.rsv.baseline)) := by
  obtain ⟨halt, hlnk, hptb, hcfg, hactive, hbaseline⟩ := exchanged_frame s
  have hflight : (exchanged s).alt.flight = some f := by rw [halt, hf]
  have hgrant : grantOf (exchanged s) f = grantOf s f := by
    simp only [grantOf, State.fairShare, State.lEff, State.ownService, State.bayCount, hlnk, hptb, hcfg]
  have hticks : (exchanged s).altTick = if f.ticks + 1 ≥ 5 then (exchanged s).altComplete
      else (exchanged s).setAlt { (exchanged s).alt with flight := some { f with ticks := f.ticks + 1 } } := by
    unfold State.altTick
    rw [hflight]
  have hwork : s.tickWork.alt = (exchanged s).altTick.alt ∧ s.tickWork.rsv = (exchanged s).altTick.rsv := by
    rw [tickWork_of_steady h]
    exact ⟨rfl, rfl⟩
  obtain ⟨hworkAlt, hworkRsv⟩ := hwork
  rw [hworkAlt, hworkRsv, hticks]
  refine ⟨fun hlt => ?_, fun hge => ?_⟩
  · rw [if_neg (by omega), State.setAlt_alt, halt]
  · rw [if_pos (by omega), altComplete_alt hflight]
    refine ⟨by rw [completed, completed, halt, hgrant], fun hd => ?_⟩
    rw [altComplete_applied hflight (by rw [halt, hd]), State.setGrant_rsv, hgrant]
    simp only [State.setAlt_rsv, hactive]
    split
    · rfl
    · exact hbaseline

/-- Settles O42: the completion drops or applies the result, and the fifth tick event forces it. -/
theorem completionAppliesOrDropsTheResult : Obligations.CompletionAppliesOrDropsTheResult := by
  intro s
  refine ⟨fun h => ?_, fun f hf => ⟨fun hd => ?_, fun hd => ⟨_, rfl, ?_⟩, fun hwithin hsteady => ⟨_, rfl, ?_⟩⟩⟩
  · simp only [Idle, exec, execAllotmentCompletion, altComplete_idle h]
  · simp only [exec, execAllotmentCompletion, altComplete_discarded hf hd]
    rfl
  · rw [hd, altComplete_applied hf hd]
    exact setGrant_eq _ _
  · obtain ⟨c, hevent, -⟩ := Boundary.tickEvent_eq_work hwithin
    rw [hevent]
    exact tickWork_alt (s := s.setClk c) hsteady hf

/-! ## The exchange (O44) -/

/-- The gap count after the close of an exchange that does not lose the meter (R97). -/
def gapAfter (s : State) : Nat :=
  if s.stg.answer = some .awaiting ∨ s.stg.answer = some .spoiled then min 4 (s.stg.gap + 1) else s.stg.gap

theorem closeExchange_kept {s : State} (h : s.losesMeter = false) : s.closeExchange = s.setStg { s.stg with gap := gapAfter s } := by
  unfold State.closeExchange gapAfter
  split
  · rename_i hanswer
    rw [if_neg (by simp [hanswer])]
    rfl
  · rename_i hanswer
    rw [if_neg (by simp [hanswer])]
    rfl
  all_goals
    rename_i hanswer
    have hgap : ¬s.stg.gap + 1 = Config.lostGaps := by simpa [State.losesMeter, hanswer] using h
    dsimp only
    rw [if_neg hgap]
    simp [hanswer, Config.lostGaps]

/-- The accounts after a tick event's power (R104, R105). -/
def meteredBy (s : State) (v : Session) : Session := { v with
  imp := v.imp.add (max s.stg.measured 0 * 10)
  exp := v.exp.add (max (-s.stg.measured) 0 * 10)
  resp := v.resp.add
    (if s.rsv.active = true ∧ s.rsv.standing ≠ some .withdrawn then ((s.rsv.baseline : Int) - s.stg.measured) * 10 else 0) }

theorem meter_eq (s : State) : s.meter s.stg.measured = s.modSes (meteredBy s) := by
  have hresponse : s.responseIncrement s.stg.measured =
      if s.rsv.active = true ∧ s.rsv.standing ≠ some .withdrawn then ((s.rsv.baseline : Int) - s.stg.measured) * 10 else 0 := by
    simp [State.responseIncrement, State.isWithdrawn]
  have himport : (if s.stg.measured > 0 then s.stg.measured * 10 else 0) = max s.stg.measured 0 * 10 := by
    split <;> omega
  have hexport : (if s.stg.measured < 0 then -s.stg.measured * 10 else 0) = max (-s.stg.measured) 0 * 10 := by
    split <;> omega
  unfold State.meter meteredBy
  rw [hresponse, himport, hexport]

/-- The setpoint of the exchange that opens (R102). -/
def raised (s : State) : Int := if s.stg.isOpen then 0 else min (s.stg.applied + s.rampStep) s.target

theorem stepped_eq {s : State} (h : s.SetpointOk) : s.stepped = raised s := by
  unfold State.SetpointOk at h
  unfold State.stepped raised
  by_cases hopen : s.stg.isOpen = true
  · rw [if_pos hopen, if_pos hopen]
  · rw [if_neg hopen] at h
    rw [if_neg hopen, if_neg hopen]
    split <;> omega

/-- The stage line after a tick event that does not lose the meter. -/
def exchangedStg (s : State) : Stg := { s.stg with
  seq := (s.stg.seq + 1) % 256
  answer := some .awaiting
  gap := gapAfter s
  applied := raised s
  sent := setpointRecord ((s.stg.seq + 1) % 256) (raised s) }

theorem stageTick_kept {s : State} (hkept : s.losesMeter = false) (hok : s.SetpointOk) :
    s.stageTick = (s.setSes (s.ses.map (meteredBy s))).setStg (exchangedStg s) := by
  have hclosed : s.stageTick = ((s.setStg { s.stg with gap := gapAfter s }).modSes (meteredBy s)).openExchange := by
    unfold State.stageTick
    rw [closeExchange_kept hkept]
    dsimp only
    rw [meter_eq]
    rfl
  have hbounds := Setpoint.bounds_modSes (s.setStg { s.stg with gap := gapAfter s }) (meteredBy s) (fun _ => rfl)
  have hraised : ((s.setStg { s.stg with gap := gapAfter s }).modSes (meteredBy s)).stepped = raised s := by
    rw [← stepped_eq hok]
    unfold State.stepped
    rw [hbounds.2]
    rfl
  rw [hclosed]
  unfold State.openExchange
  rw [hraised]
  rfl

theorem watchEdges_rsv (s : State) : s.watchEdges.rsv =
    { s.rsv with edgeWatch := min 3 (s.rsv.edgeWatch + 1), senseFault := s.watchEdges.rsv.senseFault } := by
  unfold State.watchEdges State.beginSenseFault
  dsimp only
  split
  · split
    · rfl
    · simp [Config.edgeWatchLimit]
  · rfl

theorem watchEdges_target (s : State) : s.watchEdges.lowerBound = s.lowerBound ∧ s.watchEdges.target = s.target :=
  State.bounds_congr (by simp) (by simp) (by simp [State.isClaiming]) (by simp) (by simp) (by simp) (by simp) (by simp) (by simp) (by simp)

theorem exchangedStg_congr {s t : State} (hstg : t.stg = s.stg) (hcfg : t.cfg = s.cfg) (htarget : t.target = s.target) :
    exchangedStg t = exchangedStg s := by
  simp only [exchangedStg, gapAfter, raised, State.rampStep, hstg, hcfg, htarget]

theorem meteredBy_congr {s t : State} (hstg : t.stg = s.stg) (hactive : t.rsv.active = s.rsv.active)
    (hstanding : t.rsv.standing = s.rsv.standing) (hbaseline : t.rsv.baseline = s.rsv.baseline) : meteredBy t = meteredBy s := by
  unfold meteredBy
  rw [hstg, hactive, hstanding, hbaseline]

/-- The exchange and the edge watch reach different blocks, so that their order shows in captures alone. -/
theorem exchanged_blocks {s : State} (hkept : s.losesMeter = false) (hok : s.SetpointOk) :
    (exchanged s).stg = exchangedStg s ∧ (exchanged s).ses = s.ses.map (meteredBy s) ∧
      (exchanged s).rsv = { s.rsv with edgeWatch := min 3 (s.rsv.edgeWatch + 1), senseFault := (exchanged s).rsv.senseFault } := by
  have hwatched : s.watchEdges.losesMeter = false ∧ s.watchEdges.SetpointOk := by
    refine ⟨by simpa [State.losesMeter] using hkept, ?_⟩
    exact State.SetpointOk_congr hok (by simp) (by simp) (watchEdges_target s)
  unfold exchanged
  split
  · rw [stageTick_kept hwatched.1 hwatched.2]
    refine ⟨exchangedStg_congr (by simp) (by simp) (watchEdges_target s).2, ?_, watchEdges_rsv s⟩
    have hses : s.watchEdges.ses = s.ses := by simp
    have hmetered : meteredBy s.watchEdges = meteredBy s := meteredBy_congr (by simp) (by simp) (by simp) (by simp)
    simp only [State.setStg_ses, State.setSes_ses, hses, hmetered]
  · rw [stageTick_kept hkept hok]
    refine ⟨by simp, by simp, ?_⟩
    exact watchEdges_rsv ((s.setSes (s.ses.map (meteredBy s))).setStg (exchangedStg s))

/-- The setpoint of the opened exchange stands between its bounds, so that nothing is left to follow. -/
theorem exchanged_setpointOk {s : State} (hkept : s.losesMeter = false) (hok : s.SetpointOk) : (exchanged s).SetpointOk := by
  obtain ⟨hstg, hses, hrsv⟩ := exchanged_blocks hkept hok
  have hbounds : (exchanged s).lowerBound = s.lowerBound ∧ (exchanged s).target = s.target := by
    have hmod := Setpoint.bounds_modSes s (meteredBy s) (fun _ => rfl)
    obtain ⟨halt, hlnk, -⟩ := exchanged_frame s
    have hprk : (exchanged s).prk = s.prk := by
      unfold exchanged
      split <;> simp
    rw [← hmod.1, ← hmod.2]
    exact State.bounds_congr (by rw [hstg]; rfl) (by rw [hstg]; rfl) (by simp [State.isClaiming, State.modSes, hlnk])
      (by rw [hses]; rfl) (by rw [hprk]; rfl) (by rw [hrsv]; rfl) (by rw [hrsv]; rfl) (by rw [hrsv]; rfl) (by rw [hrsv]; rfl)
      (by rw [halt]; rfl)
  have hle := s.lowerBound_le_target
  unfold State.SetpointOk at hok ⊢
  rw [hbounds.1, hbounds.2, hstg]
  unfold exchangedStg raised
  dsimp only
  by_cases hopen : s.stg.isOpen = true
  · rw [if_pos hopen, if_pos hopen]
  · rw [if_neg hopen] at hok
    rw [if_neg hopen, if_neg hopen]
    omega

theorem tickWork_kept {s : State} (hsteady : s.steppedBands = s.rsv.bands) (hflight : s.alt.flight = none)
    (hkept : s.losesMeter = false) (hok : s.SetpointOk) : s.tickWork = (exchanged s).bumpChoices := by
  have hnone : (exchanged s).altTick = exchanged s := by
    unfold State.altTick
    rw [(exchanged_frame s).1, hflight]
  rw [tickWork_of_steady hsteady, hnone]
  exact State.follow_of_setpoint _ (exchanged_setpointOk hkept hok)

/-- Settles O44: with no band stepping, no flight and the meter kept, the tick is the exchange and the edge watch alone. -/
theorem tickRunsTheExchange : Obligations.TickRunsTheExchange := by
  intro s htick howed hsteady hflight hok hkept
  refine ⟨_, rfl, ?_⟩
  rw [Boundary.tickEvent_within howed htick]
  let u := s.setClk { s.clk with tick := s.clk.tick + 1 }
  have hu : s.tickWithin = (exchanged u).bumpChoices := tickWork_kept (s := u) hsteady hflight hkept hok
  obtain ⟨hstg, hses, hrsv⟩ := exchanged_blocks (s := u) hkept hok
  have hframe : (exchanged u).clk = u.clk ∧ (exchanged u).lnk = u.lnk ∧ (exchanged u).alt = u.alt ∧ (exchanged u).ptb = u.ptb ∧
      (exchanged u).prk = u.prk ∧ (exchanged u).cfg = u.cfg ∧ (exchanged u).snap = u.snap ∧
      (exchanged u).lastClaim = u.lastClaim := by
    unfold exchanged
    split <;> simp
  obtain ⟨hclk, hlnk, halt, hptb, hprk, hcfg, hsnap, hclaim⟩ := hframe
  rw [hu]
  refine ⟨?_, hses, hclk, hlnk, halt, hptb, hprk, hcfg, hsnap, hclaim, hrsv⟩
  simp only [State.bumpChoices, State.setChoices_stg, hstg]
  rfl

end Sys2Proof.Proofs.Tick
end

section
/-!
The loss of the meter and the end of the edge watch (R97, R98, R113, R114): the tick event at which they come about, with what
its other acts leave of their counters and notices (O45).
-/
namespace Sys2Proof.Proofs.Losses

open Sys2Proof Sys2Proof.Machine Sys2Proof.Proofs.Acts Sys2Proof.Proofs.Captures

/-! ## A counter and a notice that other captures leave -/

/-- The counter of a cause and a notice flag, at these values. -/
structure Shows (c : Cause) (n : Notice) (count : Nat) (flag : Bool) (s : State) : Prop where
  length : s.log.counters.length = 24
  counter : s.counter c = count
  flagged : s.flagged n = flag

variable {c : Cause} {n : Notice} {count : Nat} {flag : Bool} {s t u : State}

theorem Shows.congr (h : Shows c n count flag s) (hlog : t.log.counters = s.log.counters) (hprt : t.prt.flags = s.prt.flags) :
    Shows c n count flag t :=
  ⟨by rw [hlog, h.length], by rw [State.counter_congr hlog, h.counter], by rw [State.flagged_congr hprt, h.flagged]⟩

/-- The notices that a capture itself may raise (R166, R167). -/
def bankNotices : List Notice := [.bankAFull, .bankBFull, .logOverflow]

theorem store_flagged (s : State) (r : LogRecord) (hn : n ∉ bankNotices) : (s.store r).flagged n = s.flagged n := by
  simp only [bankNotices, List.mem_cons, List.not_mem_nil, or_false, not_or] at hn
  obtain ⟨ha, hb, ho⟩ := hn
  have hset (g : Log) : (s.setLog g).flagged n = s.flagged n := rfl
  unfold State.store
  dsimp only
  (repeat' split) <;> simp only [State.raise_flagged, ha, hb, ho, hset, decide_false, Bool.false_or]

theorem capture_flagged_other (s : State) (c : Cause) (d : BitVec 32) (b : Option Nat) (hn : n ∉ bankNotices) :
    (s.capture c d b).flagged n = s.flagged n := by
  rw [capture_eq]
  split
  · exact store_flagged _ _ hn
  · rfl

theorem Shows.capture {e : Cause} (d : BitVec 32) (b : Option Nat) (he : c ≠ e) (hn : n ∉ bankNotices) (h : Shows c n count flag s) :
    Shows c n count flag (s.capture e d b) :=
  ⟨by rw [State.capture_counters_length, h.length], by rw [State.capture_counter _ _ _ _ _ h.length, if_neg he, h.counter],
    by rw [capture_flagged_other _ _ _ _ hn, h.flagged]⟩

theorem Shows.raise {m : Notice} (hm : n ≠ m) (h : Shows c n count flag s) : Shows c n count flag (s.raise m) :=
  ⟨h.length, h.counter, by rw [State.raise_flagged, decide_eq_false hm, Bool.false_or, h.flagged]⟩

/-- Its own capture with its notice counts one and sets the flag. -/
theorem Shows.begins (d : Nat) (h : Shows c n count flag s) : Shows c n (min 63 (count + 1)) true ((s.captureNat c d).raise n) := by
  refine ⟨by simpa using h.length, ?_, by simp⟩
  rw [State.raise_counter, State.captureNat_counter _ _ _ _ h.length, if_pos rfl, h.counter]

/-- The causes and the notices of the events of the reserve unit. -/
def eventCauses : List Cause := [.eventTaken, .eventChanged, .eventEnded]
def eventNotices : List Notice := [.eventTaken, .eventEnded, .shortfall]

/-- A condition of the stage line or of the sensing, with its notice: no event's, no bank's. -/
structure Apart (c : Cause) (n : Notice) : Prop where
  cause : c ∉ eventCauses
  notice : n ∉ eventNotices
  bank : n ∉ bankNotices

theorem Shows.computeShares (taking : Bool) (ha : Apart c n) (h : Shows c n count flag s) : Shows c n count flag (s.computeShares taking) := by
  have hshort : n ≠ .shortfall := fun he => ha.notice (by simp [eventNotices, he])
  unfold State.computeShares
  dsimp only
  split
  · exact Shows.congr (h.raise hshort) rfl rfl
  · exact h.congr rfl rfl

theorem Shows.changeDemand (o d : Nat) (ha : Apart c n) (h : Shows c n count flag s) : Shows c n count flag (s.changeDemand o d) := by
  have hset : Shows c n count flag (s.setRsv { s.rsv with dActive := d }) := h.congr rfl rfl
  exact (hset.computeShares false ha).capture _ _ (fun he => ha.cause (by simp [eventCauses, he])) ha.bank

theorem Shows.endEvent (ha : Apart c n) (h : Shows c n count flag s) : Shows c n count flag s.endEvent := by
  have hended : Shows c n count flag ((s.capture .eventEnded s.responseDetail none).raise .eventEnded) :=
    (h.capture _ _ (fun he => ha.cause (by simp [eventCauses, he])) ha.bank).raise fun he => ha.notice (by simp [eventNotices, he])
  exact hended.congr rfl rfl

theorem Shows.takeEvent (o q d r : Nat) (ha : Apart c n) (h : Shows c n count flag s) : Shows c n count flag (s.takeEvent o q d r) := by
  have hcause : c ≠ .eventTaken := fun he => ha.cause (by simp [eventCauses, he])
  have hnotice : n ≠ .eventTaken := fun he => ha.notice (by simp [eventNotices, he])
  unfold State.takeEvent
  dsimp only
  generalize hx : s.setRsv _ = x
  have hset : Shows c n count flag x := h.congr (by rw [← hx]; rfl) (by rw [← hx]; rfl)
  have hshares : Shows c n count flag (x.computeShares true).altDiscard := (hset.computeShares true ha).congr (by simp) (by simp)
  exact (hshares.capture _ _ hcause ha.bank).raise hnotice

theorem Shows.judgeEvent (o q d r : Nat) (ha : Apart c n) (h : Shows c n count flag s) : Shows c n count flag (s.judgeEvent o q d r) := by
  unfold State.judgeEvent
  split
  · split
    · split
      · split
        · exact h.endEvent ha
        · unfold State.holderUpdate
          dsimp only
          split
          · exact h.congr rfl rfl
          · exact Shows.changeDemand _ _ ha (h.congr rfl rfl)
      · exact h
    · split
      · exact Shows.changeDemand _ _ ha (h.congr rfl rfl)
      · exact h
  · split
    · exact h.takeEvent _ _ _ _ ha
    · exact h

theorem Shows.sendEvent (d r : Nat) (ha : Apart c n) (h : Shows c n count flag s) : Shows c n count flag (s.sendEvent d r) :=
  Shows.judgeEvent _ _ _ _ ha (h.congr (by simp) (by simp))

/-- The monitors' part of a tick event, before the edge watch. -/
def monitored (s : State) : State :=
  let s1 := s.setRsv { s.rsv with bands := s.steppedBands }
  if demandChanged s s1 then s1.sendDemand else s1

theorem rsvTick_eq (s : State) : s.rsvTick = (monitored s).watchEdges := rfl

theorem Shows.monitored (ha : Apart c n) (h : Shows c n count flag s) : Shows c n count flag (monitored s) := by
  unfold Losses.monitored
  dsimp only
  split
  · exact Shows.sendEvent _ _ ha (h.congr rfl rfl)
  · exact h.congr rfl rfl

theorem Shows.watchEdges_other (hc : c ≠ .senseFault) (hn : n ≠ .senseFault) (hbank : n ∉ bankNotices) (h : Shows c n count flag s) :
    Shows c n count flag s.watchEdges := by
  unfold State.watchEdges State.beginSenseFault
  dsimp only
  split
  · split
    · exact h.congr rfl rfl
    · refine ((h.congr ?_ ?_).capture _ _ hc hbank).raise hn
      all_goals rfl
  · exact h.congr rfl rfl

theorem Shows.closeExchange_other (hc : c ≠ .meterLost) (hn : n ≠ .meterLost) (hbank : n ∉ bankNotices) (h : Shows c n count flag s) :
    Shows c n count flag s.closeExchange := by
  unfold State.closeExchange
  split
  · exact h
  · exact h
  all_goals
    dsimp only
    split
    · refine ((h.congr ?_ ?_).capture _ _ hc hbank).raise hn
      all_goals rfl
    · exact h.congr rfl rfl

theorem Shows.stageTick_other (hc : c ≠ .meterLost) (hn : n ≠ .meterLost) (hbank : n ∉ bankNotices) (h : Shows c n count flag s) :
    Shows c n count flag s.stageTick := by
  have hclosed := h.closeExchange_other hc hn hbank
  exact hclosed.congr (by simp [State.stageTick]) (by simp [State.stageTick])

/-! ## The two orders of a tick event -/

/-- The end of a tick's work: the computation's tick, and the setpoint that follows. -/
def finished (s : State) : State := s.altTick.bumpChoices.follow

theorem tickWork_cases {P : State → Prop} (hrsv : P (finished s.rsvTick.stageTick)) (hstg : P (finished s.stageTick.rsvTick)) :
    P s.tickWork := by
  unfold State.tickWork
  dsimp only
  split
  · exact hrsv
  · exact hstg

theorem logGrew_finished (s : State) : LogGrew s (finished s) := LogGrew.of_log (by simp [finished])

theorem Shows.finished (h : Shows c n count flag s) : Shows c n count flag (finished s) :=
  h.congr (by simp [Losses.finished]) (by simp [Losses.finished])

/-! ## The loss of the meter (R97, R98) -/

/-- The state in which METER_LOST is captured: nothing is measured, and the setpoint has followed to 0. -/
def dark (s : State) : State := (s.setStg { s.stg with gap := 4, meterLost := true, measured := 0 }).follow

/-- The stage line of an exchange opened with the meter lost. -/
structure Unmetered (seq : Nat) (s : State) : Prop where
  lost : s.stg.meterLost = true
  measured : s.stg.measured = 0
  gap : s.stg.gap = 4
  answer : s.stg.answer = some .awaiting
  sent : s.stg.sent = setpointRecord seq 0
  numbered : s.stg.seq = seq

theorem setpoint_of_lost (h : s.stg.meterLost = true) (hok : s.SetpointOk) : s.target = 0 ∧ s.stg.applied = 0 := by
  have hforced : s.forcedZero = true := Setpoint.forcedZero_iff.mpr (.inr (.inr (.inr (.inr (.inr h)))))
  obtain ⟨hlow, htarget⟩ := Setpoint.bounds_of_forcedZero hforced
  unfold State.SetpointOk at hok
  rw [hlow, htarget] at hok
  refine ⟨htarget, ?_⟩
  split at hok <;> omega

theorem closeExchange_lost (hgap : s.stg.gap = 3) (hanswer : s.stg.answer = some .awaiting ∨ s.stg.answer = some .spoiled) :
    s.closeExchange = ((dark s).captureNat .meterLost 0).raise .meterLost := by
  unfold State.closeExchange
  obtain h | h := hanswer <;> rw [h, hgap] <;> rfl

theorem dark_applied (s : State) : (dark s).stg.applied = 0 :=
  (setpoint_of_lost (s := dark s) rfl (State.follow_setpoint _)).2

theorem stageTick_lost (hgap : s.stg.gap = 3) (hanswer : s.stg.answer = some .awaiting ∨ s.stg.answer = some .spoiled) :
    Unmetered ((s.stg.seq + 1) % 256) s.stageTick := by
  have hstg : s.closeExchange.stg = (dark s).stg := by rw [closeExchange_lost hgap hanswer]; simp
  let m := s.closeExchange.meter s.closeExchange.stg.measured
  have hm : m.stg = (dark s).stg := hstg
  have hlost : m.stg.meterLost = true := by rw [hm]; rfl
  have hforced : m.forcedZero = true := Setpoint.forcedZero_iff.mpr (.inr (.inr (.inr (.inr (.inr hlost)))))
  have hstepped : m.stepped = 0 := by
    unfold State.stepped
    rw [(Setpoint.bounds_of_forcedZero hforced).2, hm, dark_applied]
    simp
  have hopened : s.stageTick = m.openExchange := rfl
  have hseq : m.stg.seq = s.stg.seq := by rw [hm]; rfl
  refine ⟨hlost, ?_, ?_, rfl, ?_, ?_⟩
  · rw [hopened, State.openExchange, State.setStg_stg, hm]; rfl
  · rw [hopened, State.openExchange, State.setStg_stg, hm]; rfl
  · rw [hopened, State.openExchange, State.setStg_stg, hseq, hstepped]
  · rw [hopened, State.openExchange, State.setStg_stg, hseq]

theorem Unmetered.congr {seq : Nat} (h : Unmetered seq s) (ht : t.stg = { s.stg with applied := t.stg.applied }) : Unmetered seq t := by
  obtain ⟨hlost, hmeasured, hgap, hanswer, hsent, hseq⟩ := h
  constructor <;> rw [ht] <;> assumption

theorem stageTick_log (hgap : s.stg.gap = 3) (hanswer : s.stg.answer = some .awaiting ∨ s.stg.answer = some .spoiled) :
    s.stageTick.log = ((dark s).captureNat .meterLost 0).log := by
  have hclosed : s.stageTick.log = s.closeExchange.log := by simp [State.stageTick]
  rw [hclosed, closeExchange_lost hgap hanswer]
  rfl

theorem Shows.stageTick_lost (hgap : s.stg.gap = 3) (hanswer : s.stg.answer = some .awaiting ∨ s.stg.answer = some .spoiled)
    (h : Shows .meterLost .meterLost count flag s) : Shows .meterLost .meterLost (min 63 (count + 1)) true s.stageTick := by
  have hdark : Shows .meterLost .meterLost count flag (dark s) := h.congr rfl rfl
  have hclosed : Shows .meterLost .meterLost (min 63 (count + 1)) true s.closeExchange := by
    rw [closeExchange_lost hgap hanswer]
    exact hdark.begins 0
  exact hclosed.congr (by simp [State.stageTick]) (by simp [State.stageTick])

theorem meterLost_apart : Apart .meterLost .meterLost := ⟨by decide, by decide, by decide⟩

theorem senseFault_apart : Apart .senseFault .senseFault := ⟨by decide, by decide, by decide⟩

theorem Shows.rsvTick (h : Shows .meterLost .meterLost count flag s) : Shows .meterLost .meterLost count flag s.rsvTick :=
  (h.monitored meterLost_apart).watchEdges_other (by decide) (by decide) (by decide)

theorem logGrew_monitored (s : State) : LogGrew s (monitored s) := by
  unfold Losses.monitored
  dsimp only
  split
  · exact (logGrew_keptByActs s).sendEvent (Spares.nil _) _ _ (LogGrew.of_log rfl)
  · exact LogGrew.of_log rfl

theorem logGrew_rsvTick (s : State) : LogGrew s s.rsvTick :=
  (logGrew_keptByActs s).watchEdges (Spares.nil _) (logGrew_monitored s)

theorem logGrew_stageTick (s : State) : LogGrew s s.stageTick :=
  ((logGrew_keptByActs s).closeExchange (Spares.nil _) (LogGrew.refl s)).trans (LogGrew.of_log (by simp [State.stageTick]))

theorem logged_meterLost (hgap : u.stg.gap = 3) (hanswer : u.stg.answer = some .awaiting ∨ u.stg.answer = some .spoiled)
    (hbefore : LogGrew s u) (hafter : LogGrew u.stageTick t) :
    Logged s t .meterLost 14 fun r => r.detail = 0#32 ∧ r.measured = 0 ∧ r.applied = 0 := by
  have hgrew : LogGrew ((dark u).captureNat .meterLost 0) u.stageTick := LogGrew.of_log (stageTick_log hgap hanswer)
  refine logged_of_capture (hbefore.trans (LogGrew.of_log (t := dark u) rfl)) (hgrew.trans hafter) (fun _ h => h) ⟨rfl, rfl, dark_applied u⟩

/-- What a tick event leaves that loses the meter, but for the setpoint. -/
structure LostAt (s t : State) : Prop where
  stage : Unmetered ((s.stg.seq + 1) % 256) t
  shown : Shows .meterLost .meterLost (min 63 (s.counter .meterLost + 1)) true t
  logged : Logged s t .meterLost 14 fun r => r.detail = 0#32 ∧ r.measured = 0 ∧ r.applied = 0

theorem tickWork_lost (hlength : s.log.counters.length = 24) (hgap : s.stg.gap = 3)
    (hanswer : s.stg.answer = some .awaiting ∨ s.stg.answer = some .spoiled) : LostAt s s.tickWork := by
  have hshown : Shows .meterLost .meterLost (s.counter .meterLost) (s.flagged .meterLost) s := ⟨hlength, rfl, rfl⟩
  have hticked (x : State) : (finished x).stg = { x.stg with applied := (finished x).stg.applied } :=
    Boundary.stg_eq_of_butApplied (by simp [finished])
  have hrsv (x : State) : x.rsvTick.stg = { x.stg with applied := x.rsvTick.stg.applied } := Boundary.stg_eq_of_butApplied (by simp)
  refine tickWork_cases ?_ ?_
  · have hgap' : s.rsvTick.stg.gap = 3 := by simpa using hgap
    have hanswer' : s.rsvTick.stg.answer = some .awaiting ∨ s.rsvTick.stg.answer = some .spoiled := by simpa using hanswer
    have hstage := stageTick_lost hgap' hanswer'
    have hseq : s.rsvTick.stg.seq = s.stg.seq := by simp
    rw [hseq] at hstage
    exact ⟨hstage.congr (hticked _), (hshown.rsvTick.stageTick_lost hgap' hanswer').finished,
      logged_meterLost hgap' hanswer' (logGrew_rsvTick s) (logGrew_finished _)⟩
  · exact ⟨((stageTick_lost hgap hanswer).congr (hrsv _)).congr (hticked _), (hshown.stageTick_lost hgap hanswer).rsvTick.finished,
      logged_meterLost hgap hanswer (LogGrew.refl s) ((logGrew_rsvTick _).trans (logGrew_finished _))⟩

/-! ## The edge watch (R113, R114) -/

/-- The sensing after its edge watch has run out. -/
structure Blind (s t : State) : Prop where
  watch : t.rsv.edgeWatch = 3
  fault : t.rsv.senseFault = true
  freq : t.rsv.freq = s.rsv.freq
  shown : Shows .senseFault .senseFault (min 63 (s.counter .senseFault + 1)) true t
  logged : Logged s t .senseFault 16 fun r => r.detail = 0#32

theorem monitored_sensing (s : State) : (monitored s).rsv.edgeWatch = s.rsv.edgeWatch ∧
    (monitored s).rsv.senseFault = s.rsv.senseFault ∧ (monitored s).rsv.freq = s.rsv.freq := by
  unfold monitored
  dsimp only
  split <;> simp

/-- The state in which SENSE_FAULT is captured. -/
def blinded (s : State) : State := s.setRsv { s.rsv with edgeWatch := 3, senseFault := true }

theorem watchEdges_begins (hwatch : s.rsv.edgeWatch = 2) (hfault : s.rsv.senseFault = false) :
    s.watchEdges = ((blinded s).captureNat .senseFault 0).raise .senseFault := by
  unfold State.watchEdges State.edgeWatchExpires State.beginSenseFault
  simp only [hwatch, State.setRsv_rsv, hfault]
  rfl

theorem watchEdges_again (hwatch : s.rsv.edgeWatch = 2) (hfault : s.rsv.senseFault = true) :
    s.watchEdges = s.setRsv { s.rsv with edgeWatch := 3 } := by
  unfold State.watchEdges State.edgeWatchExpires State.beginSenseFault
  simp only [hwatch, State.setRsv_rsv, hfault]
  rfl

theorem rsvTick_blind (hgrew : LogGrew s u) (hrsv : u.rsv = s.rsv)
    (hshown : Shows .senseFault .senseFault (s.counter .senseFault) flag u) (hwatch : s.rsv.edgeWatch = 2)
    (hfault : s.rsv.senseFault = false) (hafter : LogGrew u.rsvTick t) (htrsv : t.rsv.edgeWatch = u.rsvTick.rsv.edgeWatch ∧
      t.rsv.senseFault = u.rsvTick.rsv.senseFault ∧ t.rsv.freq = u.rsvTick.rsv.freq)
    (htshown : ∀ {count flag}, Shows .senseFault .senseFault count flag u.rsvTick → Shows .senseFault .senseFault count flag t) :
    Blind s t := by
  obtain ⟨hmwatch, hmfault, -⟩ := monitored_sensing u
  rw [hrsv] at hmwatch hmfault
  have hticked := watchEdges_begins (hmwatch.trans hwatch) (hmfault.trans hfault)
  rw [← rsvTick_eq] at hticked
  have hblinded : Shows .senseFault .senseFault (s.counter .senseFault) flag (blinded (monitored u)) :=
    (hshown.monitored senseFault_apart).congr rfl rfl
  obtain ⟨htwatch, htfault, htfreq⟩ := htrsv
  have hmonitored : LogGrew s (blinded (monitored u)) := (hgrew.trans (logGrew_monitored u)).trans (LogGrew.of_log rfl)
  have hnoticed : LogGrew ((blinded (monitored u)).captureNat .senseFault 0) u.rsvTick := LogGrew.of_log (by rw [hticked]; rfl)
  refine ⟨?_, ?_, by rw [htfreq]; simp [hrsv], htshown (hticked ▸ hblinded.begins 0),
    logged_of_capture hmonitored (hnoticed.trans hafter) (fun _ h => h) rfl⟩
  · rw [htwatch, hticked]; simp [blinded]
  · rw [htfault, hticked]; simp [blinded]

theorem tickWork_blind (hlength : s.log.counters.length = 24) (hwatch : s.rsv.edgeWatch = 2) (hfault : s.rsv.senseFault = false) :
    Blind s s.tickWork := by
  have hshown : Shows .senseFault .senseFault (s.counter .senseFault) (s.flagged .senseFault) s := ⟨hlength, rfl, rfl⟩
  refine tickWork_cases ?_ ?_
  · exact rsvTick_blind (LogGrew.refl s) rfl hshown hwatch hfault ((logGrew_stageTick _).trans (logGrew_finished _))
      (by simp [finished]) fun h => (h.stageTick_other (by decide) (by decide) (by decide)).finished
  · exact rsvTick_blind (logGrew_stageTick s) (by simp) (hshown.stageTick_other (by decide) (by decide) (by decide)) hwatch hfault
      (logGrew_finished _) (by simp [finished]) fun h => h.finished

theorem steppedBands_of_senseFault (h : s.rsv.senseFault = true) : s.steppedBands = s.rsv.bands := by
  unfold State.steppedBands
  rw [h]
  split <;> rfl

/-- With SENSE_FAULT present the edge watch's end raises nothing further. -/
theorem exchanged_blind (hwatch : s.rsv.edgeWatch = 2) (hfault : s.rsv.senseFault = true)
    (hshown : Shows .senseFault .senseFault count flag s) :
    (Tick.exchanged s).rsv = { s.rsv with edgeWatch := 3 } ∧ Shows .senseFault .senseFault count flag (Tick.exchanged s) := by
  have hstaged : s.stageTick.rsv = s.rsv := by simp
  unfold Tick.exchanged
  split
  · rw [watchEdges_again hwatch hfault]
    refine ⟨by simp, Shows.stageTick_other (by decide) (by decide) (by decide) (hshown.congr ?_ ?_)⟩ <;> rfl
  · rw [watchEdges_again (by rw [hstaged, hwatch]) (by rw [hstaged, hfault])]
    exact ⟨by simp, (hshown.stageTick_other (by decide) (by decide) (by decide)).congr rfl rfl⟩

theorem altTick_rsv (s : State) : s.altTick.rsv = { s.rsv with baseline := s.altTick.rsv.baseline } := by
  unfold State.altTick
  split
  · rfl
  · rename_i f hf
    split
    · cases hd : s.alt.discard with
      | true => rw [Tick.altComplete_discarded hf hd]; rfl
      | false =>
        rw [Tick.altComplete_applied hf hd, State.setGrant_rsv]
        split <;> rfl
    · rfl

/-- Settles O45: in either order of a tick's acts, the row's condition begins, and the other acts raise neither it nor its
notice. -/
theorem meterLostAndEdgeWatch : Obligations.MeterLostAndEdgeWatch := by
  intro s hwithin hlength
  obtain ⟨c, hevent, hclk⟩ := Boundary.tickEvent_eq_work hwithin
  refine ⟨fun hgap hanswer => ?_, fun hwatch hfault => ?_, fun hwatch hfault => ?_⟩
  · have hlost : s.losesMeter = true := by
      obtain h | h := hanswer <;> simp [State.losesMeter, hgap, h, Config.lostGaps]
    refine Boundary.answers_of_tickWhere rfl hlost ?_
    have hok := Setpoint.setpointOk_tickWork (s.setClk c)
    obtain ⟨hstage, hshown, hlogged⟩ := tickWork_lost (s := s.setClk c) hlength hgap hanswer
    rw [← hevent] at hok hstage hshown hlogged
    obtain ⟨htarget, happlied⟩ := setpoint_of_lost hstage.lost hok
    exact ⟨hstage.lost, hstage.measured, htarget, happlied, hstage.gap, hstage.answer, hstage.numbered, hstage.sent, hshown.flagged,
      hshown.counter, hlogged⟩
  · refine Boundary.answers_of_tickWhere rfl (by simp [State.edgeWatchExpires, hwatch, Config.edgeWatchLimit]) ?_
    obtain ⟨hthree, hbegun, hfreq, hshown, hlogged⟩ := tickWork_blind (s := s.setClk c) hlength hwatch hfault
    rw [hevent]
    exact ⟨hthree, hbegun, hshown.flagged, hshown.counter, hfreq, hlogged⟩
  · refine Boundary.answers_of_tickWhere rfl (by simp [State.edgeWatchExpires, hwatch, Config.edgeWatchLimit]) ?_
    have hshown : Shows .senseFault .senseFault (s.counter .senseFault) (s.flagged .senseFault) (s.setClk c) := ⟨hlength, rfl, rfl⟩
    have hsteady : (s.setClk c).steppedBands = (s.setClk c).rsv.bands := steppedBands_of_senseFault hfault
    have hwork := Tick.tickWork_of_steady hsteady
    obtain ⟨hrsv, hkept⟩ := exchanged_blind (s := s.setClk c) hwatch hfault hshown
    have hfinished : Shows .senseFault .senseFault (s.counter .senseFault) (s.flagged .senseFault) s.tickEvent := by
      rw [hevent, hwork]
      exact hkept.finished
    have halt : s.tickEvent.rsv = (Tick.exchanged (s.setClk c)).altTick.rsv := by rw [hevent, hwork]; rfl
    refine ⟨?_, hfinished.flagged, hfinished.counter, ?_⟩
    · rw [halt, altTick_rsv, hrsv]
      rfl
    · have hkeptClk : s.tickEvent.clk = c := by rw [hevent]; simp
      rw [hkeptClk]
      exact hclk

end Sys2Proof.Proofs.Losses
end

section
/-!
A rising edge of the grid sense input (R113, R114): the period it closes, and the beginning and end of SENSE_FAULT (O47).
-/
namespace Sys2Proof.Proofs.GridEdges

open Sys2Proof Sys2Proof.Machine

variable {s : State} {n : Nat}

/-- The reserve unit with an edge taken. -/
def edged (s : State) : State := s.setRsv { s.rsv with edgeWatch := 0, edgeSeen := true }

theorem gridEdge_first (h : s.rsv.edgeSeen = false) : s.gridEdge n = edged s := by
  unfold State.gridEdge
  rw [h]
  rfl

theorem gridEdge_inRange (h : s.rsv.edgeSeen = true) (hlow : 45000 ≤ 10000000000 / n) (hhigh : 10000000000 / n ≤ 65000) :
    s.gridEdge n = (edged s).setRsv { (edged s).rsv with freq := some (10000000000 / n), senseFault := false } := by
  have hrange : inGridRange (periodFrequency n) = true := decide_eq_true ⟨hlow, hhigh⟩
  unfold State.gridEdge
  rw [h, hrange]
  rfl

theorem gridEdge_outside (h : s.rsv.edgeSeen = true) (hout : 10000000000 / n < 45000 ∨ 65000 < 10000000000 / n) :
    s.gridEdge n = (edged s).beginSenseFault := by
  have hrange : inGridRange (periodFrequency n) = false := decide_eq_false (by unfold periodFrequency; omega)
  unfold State.gridEdge
  rw [h, hrange]
  rfl

/-- The edge of a station that has seen one before changes the edge watch alone. -/
theorem edged_eq (h : s.rsv.edgeSeen = true) : edged s = s.setRsv { s.rsv with edgeWatch := 0 } := by
  unfold edged
  rw [← h]

/-- The state in which an edge's SENSE_FAULT is captured. -/
def faulted (s : State) : State := s.setRsv { s.rsv with edgeWatch := 0, senseFault := true }

theorem gridEdge_stays (h : s.rsv.edgeSeen = true) (hout : 10000000000 / n < 45000 ∨ 65000 < 10000000000 / n)
    (hfault : s.rsv.senseFault = true) : s.gridEdge n = faulted s := by
  have hsame : s.setRsv { s.rsv with edgeWatch := 0 } = faulted s := by
    unfold faulted
    rw [← hfault]
  have hpresent : (faulted s).rsv.senseFault = true := rfl
  rw [gridEdge_outside h hout, edged_eq h, hsame, State.beginSenseFault, if_pos hpresent]

theorem gridEdge_begins (h : s.rsv.edgeSeen = true) (hout : 10000000000 / n < 45000 ∨ 65000 < 10000000000 / n)
    (hfault : s.rsv.senseFault = false) : s.gridEdge n = ((faulted s).captureNat .senseFault 0).raise .senseFault := by
  have habsent : ¬(s.setRsv { s.rsv with edgeWatch := 0 }).rsv.senseFault = true := by simp [hfault]
  rw [gridEdge_outside h hout, edged_eq h, State.beginSenseFault, if_neg habsent]
  rfl

/-- Settles O47: an edge is the first, closes a period within the range, or closes one outside it. -/
theorem gridEdgesMeasureTheFrequency : Obligations.GridEdgesMeasureTheFrequency := by
  intro n s _
  refine ⟨fun h => ?_, fun h hlow hhigh => ?_, fun h hout => ⟨_, rfl, ?_⟩⟩
  · exact congrArg _ (gridEdge_first h)
  · have hedge : exec (.gsenseEdge n) s = .next (s.gridEdge n) := rfl
    rw [hedge, gridEdge_inRange h hlow hhigh, edged_eq h]
    rfl
  · cases hfault : s.rsv.senseFault with
    | true =>
      rw [gridEdge_stays h hout hfault]
      exact ⟨rfl, fun _ => ⟨rfl, rfl⟩, nofun⟩
    | false =>
      rw [gridEdge_begins h hout hfault]
      refine ⟨StageLine.captureRaise_frame (faulted s) _ _ _, nofun, fun _ => ⟨by simp, fun hlength => ?_, ?_⟩⟩
      · have hshown : Losses.Shows .senseFault .senseFault (s.counter .senseFault) (s.flagged .senseFault) (faulted s) :=
          ⟨hlength, rfl, rfl⟩
        exact (hshown.begins 0).counter
      · refine Captures.capturedAlone_of_capture (u := faulted s) rfl rfl (Captures.record_congr ?_ ?_ ?_ ?_ ?_ ?_ _ _ _)
        all_goals first | rfl | simp

end Sys2Proof.Proofs.GridEdges
end

section
/-!
The readiness figures (R65, R66): each of them by the inequalities that the rules give for it (O39).
-/
namespace Sys2Proof.Proofs.Readiness

open Sys2Proof Sys2Proof.Machine

/-! ## A power that closes a shortfall in time -/

/-- The least power of which `t` seconds give `x`. -/
theorem lt_ceil_iff {x t a : Nat} (ht : 0 < t) : a < (x + t - 1) / t ↔ a * t < x := by
  rw [Nat.lt_iff_add_one_le, Nat.le_div_iff_mul_le ht, Nat.add_mul, Nat.one_mul]
  omega

theorem le_ceil_mul {x t : Nat} (ht : 0 < t) : x ≤ (x + t - 1) / t * t :=
  Nat.not_lt.mp fun h => lt_irrefl _ ((lt_ceil_iff ht).mpr h)

theorem pred_ceil_mul_lt {x t : Nat} (ht : 0 < t) (hx : 0 < x) : (((x + t - 1) / t : Nat) - 1 : Int) * t < x := by
  have hpos : 0 < (x + t - 1) / t := (lt_ceil_iff ht).mpr (by simpa using hx)
  obtain ⟨m, hm⟩ : ∃ m, (x + t - 1) / t = m + 1 := ⟨_, (Nat.succ_pred_eq_of_pos hpos).symm⟩
  have hlt : m * t < x := (lt_ceil_iff ht).mp (by rw [hm]; exact Nat.lt_succ_self m)
  rw [hm]
  push_cast
  rw [Int.add_sub_cancel]
  exact_mod_cast hlt

/-! ## The figures -/

theorem askFigure_le (v : Session) : v.askFigure ≤ v.pAccept := by
  unfold Session.askFigure
  split
  · exact le_rfl
  · refine Nat.div_le_of_le_mul ?_
    rw [Nat.mul_comm]
    exact Nat.mul_le_mul_right _ (by omega)

theorem aim_fst (v : Session) : v.aim.1 = ((v.chain.legs[v.chain.cursor]?).map Leg.req).getD v.floor := by
  have hleg : v.chain.cursorLeg = v.chain.legs[v.chain.cursor]? := rfl
  unfold Session.aim
  rw [hleg]
  cases v.chain.legs[v.chain.cursor]? <;> rfl

theorem surplusFigure_eq (v : Session) : v.surplusFigure =
    (v.energy : Int) - max ((((v.chain.legs[v.chain.cursor]?).map Leg.req).getD v.floor : Nat) : Int) v.floor := by
  rw [Session.surplusFigure, aim_fst]
  push_cast
  rfl

section Leg

variable {v : Session} {l : Leg} {now lead : Nat}

theorem aim_of_leg (hl : v.chain.cursorLeg = some l) : v.aim = (l.req, some l.dep) := by
  unfold Session.aim
  rw [hl]

theorem needFigure_of_leg (hl : v.chain.cursorLeg = some l) : v.needFigure now lead =
    if l.req - v.energy = 0 then 0
    else if timeToLead now lead l.dep ≤ 0 then v.askFigure
    else ((l.req - v.energy) * 36 + (timeToLead now lead l.dep).toNat - 1) / (timeToLead now lead l.dep).toNat := by
  unfold Session.needFigure Session.shortfallWh
  rw [aim_of_leg hl]

theorem lateFigure_of_leg (hl : v.chain.cursorLeg = some l) :
    v.lateFigure now lead = (decide (0 < l.req - v.energy) && decide (timeToLead now lead l.dep ≤ 0)) := by
  unfold Session.lateFigure Session.shortfallWh
  rw [aim_of_leg hl]

end Leg

theorem need_of_noLeg {v : Session} (now lead : Nat) (h : v.chain.cursorLeg = none) :
    v.needFigure now lead = 0 ∧ v.lateFigure now lead = false := by
  have haim : v.aim = (v.floor, none) := by
    unfold Session.aim
    rw [h]
  unfold Session.needFigure Session.lateFigure
  rw [haim]
  exact ⟨rfl, rfl⟩

/-- The need and its marks before the lead time, within it, and without a shortfall (R65, R66). -/
theorem readied_of_leg {v : Session} (c : ConfigRecord) (now grant : Nat) (pending : Bool) {l : Leg} (hl : v.chain.cursorLeg = some l) :
    let r := v.readied c now grant pending
    let short := l.req - v.energy
    let lead := (l.dep - now) * 2 - c.lead * 60
    (short = 0 → r.need = 0 ∧ r.late = false ∧ r.atRisk = false) ∧
      (0 < short → lead ≤ 0 → r.need = r.ask ∧ r.late = true ∧ r.atRisk = false) ∧
      (0 < short → 0 < lead → r.late = false ∧
        (r.atRisk = true ↔ (r.ask : Int) * lead < short * 36) ∧
        (r.atRisk = true → r.need = r.ask) ∧
        (r.atRisk = false → (short : Int) * 36 ≤ r.need * lead ∧ ((r.need : Int) - 1) * lead < short * 36)) := by
  have hneed := needFigure_of_leg (now := now) (lead := c.lead) hl
  have hlate := lateFigure_of_leg (now := now) (lead := c.lead) hl
  have hlead : timeToLead now c.lead l.dep = (l.dep - now) * 2 - c.lead * 60 := rfl
  rw [hlead] at hneed hlate
  simp only [Session.readied]
  refine ⟨fun hshort => ?_, fun hshort hle => ?_, fun hshort hlt => ?_⟩
  · rw [if_pos hshort] at hneed
    rw [hneed, hlate, hshort]
    simp
  · rw [if_neg hshort.ne', if_pos hle] at hneed
    rw [hneed, hlate]
    simp [hshort, hle]
  · obtain ⟨t, ht⟩ := Int.eq_ofNat_of_zero_le hlt.le
    have htpos : 0 < t := by omega
    rw [if_neg hshort.ne', if_neg (by omega), ht, Int.toNat_natCast] at hneed
    have hnotLate : v.lateFigure now c.lead = false := by rw [hlate]; simp; omega
    have hrisk : v.askFigure < v.needFigure now c.lead ↔ v.askFigure * t < (l.req - v.energy) * 36 := by
      rw [hneed]
      exact lt_ceil_iff htpos
    rw [ht]
    refine ⟨hnotLate, ?_, fun h => ?_, fun h => ?_⟩
    · rw [decide_eq_true_iff, hrisk]
      norm_cast
    · exact min_eq_right (of_decide_eq_true h).le
    · rw [min_eq_left (not_lt.mp (of_decide_eq_false h)), hneed]
      refine ⟨by exact_mod_cast le_ceil_mul htpos, ?_⟩
      exact_mod_cast pred_ceil_mul_lt htpos (by omega)

/-- Settles O39: each figure is its rule's, and the need before the cap is the ceiling that the inequalities describe. -/
theorem readinessFigures : Obligations.ReadinessFigures := by
  intro v c now grant pending
  dsimp only
  refine ⟨rfl, askFigure_le v, min_le_right _ _, fun h => ?_, fun l hl => readied_of_leg c now grant pending hl, fun h => ?_,
    fun hlate hrisk hsettled => ?_, rfl, surplusFigure_eq v, ?_, fun hfloor => ?_, rfl, rfl, rfl, rfl⟩
  · obtain ⟨hneed, hlate⟩ := need_of_noLeg now c.lead h
    simp [Session.readied, hneed, hlate]
  · simp only [Session.readied] at h ⊢
    refine if_pos ?_
    obtain h | h | h := h <;> simp [h]
  · simp only [Session.readied] at hlate hrisk ⊢
    refine if_neg ?_
    simp [hlate, hrisk, hsettled]
  · rw [← surplusFigure_eq]
    rfl
  · refine if_pos (.inr ?_)
    rw [surplusFigure_eq]
    omega

end Sys2Proof.Proofs.Readiness
end

section
/-!
Rotation order (R80): a list of distinct bays 1..64, walked in it, is the same list in another order, by ascending place.
-/
namespace Sys2Proof.Proofs.Rotation

open Sys2Proof Sys2Proof.Machine

/-- The place of a bay in the rotation order of origin `o`. -/
def place (o b : Nat) : Nat := (b + 63 - o % 64) % 64

theorem place_eq {o : Nat} (ho : o < 64) (b : Nat) : place o b = (b + 63 - o) % 64 := by
  rw [place, Nat.mod_eq_of_lt ho]

theorem mem_rotationOrder {o b : Nat} (hlow : 1 ≤ b) (hhigh : b ≤ 64) : b ∈ rotationOrder o := by
  refine List.mem_map.mpr ⟨place o b, List.mem_range.mpr (Nat.mod_lt _ (by decide)), ?_⟩
  unfold place
  omega

theorem rotationOrder_pairwise (o : Nat) : (rotationOrder o).Pairwise fun a b => place o a < place o b := by
  refine List.pairwise_map.mpr (List.Pairwise.imp_of_mem (fun ha hb hab => ?_) List.pairwise_lt_range)
  have hlt := List.mem_range.mp ha
  have hlt' := List.mem_range.mp hb
  unfold place
  omega

section List

variable {α : Type} {bay : α → Nat} {xs : List α}

theorem inRotation_pairwise (bay : α → Nat) (o : Nat) (xs : List α) :
    (inRotation bay o xs).Pairwise fun a b => place o (bay a) < place o (bay b) := by
  refine List.Pairwise.filterMap _ (fun a a' haa' b hb b' hb' => ?_) (rotationOrder_pairwise o)
  have hba : bay b = a := by simpa using List.find?_some hb
  have hba' : bay b' = a' := by simpa using List.find?_some hb'
  rwa [hba, hba']

theorem find_bay (hnodup : (xs.map bay).Nodup) {x : α} (hx : x ∈ xs) : xs.find? (fun y => bay y == bay x) = some x := by
  obtain ⟨y, hy⟩ : ∃ y, xs.find? (fun y => bay y == bay x) = some y :=
    Option.isSome_iff_exists.mp (List.find?_isSome.mpr ⟨x, hx, by simp⟩)
  have hbay : bay y = bay x := by simpa using List.find?_some hy
  rw [hy, List.inj_on_of_nodup_map hnodup (List.mem_of_find?_eq_some hy) hx hbay]

theorem mem_inRotation (hnodup : (xs.map bay).Nodup) (hrange : ∀ x ∈ xs, 1 ≤ bay x ∧ bay x ≤ 64) {o : Nat} {x : α} :
    x ∈ inRotation bay o xs ↔ x ∈ xs := by
  refine List.mem_filterMap.trans ⟨fun ⟨b, _, hb⟩ => List.mem_of_find?_eq_some hb, fun hx => ?_⟩
  obtain ⟨hlow, hhigh⟩ := hrange x hx
  exact ⟨bay x, mem_rotationOrder hlow hhigh, find_bay hnodup hx⟩

theorem inRotation_perm (o : Nat) (hnodup : (xs.map bay).Nodup) (hrange : ∀ x ∈ xs, 1 ≤ bay x ∧ bay x ≤ 64) :
    (inRotation bay o xs).Perm xs := by
  have hplaces : (inRotation bay o xs).Nodup :=
    (inRotation_pairwise bay o xs).imp fun h heq => absurd h (by rw [heq]; exact lt_irrefl _)
  exact (List.perm_ext_iff_of_nodup hplaces hnodup.of_map).mpr fun x => mem_inRotation hnodup hrange

end List

end Sys2Proof.Proofs.Rotation
end

section
/-!
Pass 2 of the allotment (R85 to R87): what a walk leaves of the headroom, and that each round makes a claim ineligible or leaves
less headroom than there are eligible claims (O41).
-/
namespace Sys2Proof.Proofs.PassTwo

open Sys2Proof Sys2Proof.Machine

/-! ## Headroom -/

theorem get_use (h : Headroom) (f g x : Nat) :
    (h.use f x).feeders.get g = if min f 3 = min g 3 then h.feeders.get g - x else h.feeders.get g := by
  match f, g with
  | 0, 0 | 0, 1 | 0, 2 | 0, _ + 3 => simp [Headroom.use, PerFeeder.get, PerFeeder.set]
  | 1, 0 | 1, 1 | 1, 2 | 1, _ + 3 => simp [Headroom.use, PerFeeder.get, PerFeeder.set]
  | 2, 0 | 2, 1 | 2, 2 | 2, _ + 3 => simp [Headroom.use, PerFeeder.get, PerFeeder.set]
  | _ + 3, 0 | _ + 3, 1 | _ + 3, 2 | _ + 3, _ + 3 => simp [Headroom.use, PerFeeder.get, PerFeeder.set]

theorem get_use_same (h : Headroom) (f x : Nat) : (h.use f x).feeders.get f = h.feeders.get f - x := by
  rw [get_use, if_pos rfl]

theorem get_use_le (h : Headroom) (f g x : Nat) : (h.use f x).feeders.get g ≤ h.feeders.get g := by
  rw [get_use]
  split <;> omega

section Walk

variable {amount : Taker → Headroom → Nat}

theorem walk_cons (t : Taker) (ts : List Taker) (h : Headroom) : walk amount (t :: ts) h =
    ({ t with grant := t.grant + amount t h } :: (walk amount ts (h.use t.feeder (amount t h))).1,
      (walk amount ts (h.use t.feeder (amount t h))).2) := rfl

theorem walk_le (ts : List Taker) (h : Headroom) :
    (walk amount ts h).2.service ≤ h.service ∧ ∀ f, (walk amount ts h).2.feeders.get f ≤ h.feeders.get f := by
  induction ts generalizing h with
  | nil => exact ⟨le_rfl, fun _ => le_rfl⟩
  | cons t ts ih =>
    obtain ⟨hservice, hfeeders⟩ := ih (h.use t.feeder (amount t h))
    exact ⟨hservice.trans (Nat.sub_le _ _), fun f => (hfeeders f).trans (get_use_le _ _ _ _)⟩

theorem walk_length (ts : List Taker) (h : Headroom) : (walk amount ts h).1.length = ts.length := by
  induction ts generalizing h with
  | nil => rfl
  | cons t ts ih => rw [walk_cons, List.length_cons, ih, List.length_cons]

end Walk

/-! ## Eligible claims -/

/-- Whether a claim is eligible over a headroom (R85). -/
def isEligible (h : Headroom) (t : Taker) : Bool := decide (0 < t.remainder) && decide (0 < h.feeders.get t.feeder)

theorem isEligible_iff {h : Headroom} {t : Taker} : isEligible h t = true ↔ 0 < t.remainder ∧ 0 < h.feeders.get t.feeder := by
  simp [isEligible]

theorem eligibleCount_cons (t : Taker) (ts : List Taker) (h : Headroom) :
    eligibleCount (t :: ts) h = eligibleCount ts h + if isEligible h t then 1 else 0 := by
  have hcount (xs : List Taker) : eligibleCount xs h = (xs.filter (isEligible h)).length := rfl
  rw [hcount, hcount, List.filter_cons]
  split <;> rfl

theorem eligibleCount_le_length (ts : List Taker) (h : Headroom) : eligibleCount ts h ≤ ts.length := List.length_filter_le _ _

theorem eligibleCount_mono (ts : List Taker) {h k : Headroom} (hle : ∀ f, k.feeders.get f ≤ h.feeders.get f) :
    eligibleCount ts k ≤ eligibleCount ts h := by
  induction ts with
  | nil => exact le_rfl
  | cons t ts ih =>
    rw [eligibleCount_cons, eligibleCount_cons]
    have hone : (if isEligible k t then 1 else 0) ≤ (if isEligible h t then 1 else 0) := by
      by_cases hk : isEligible k t = true
      · obtain ⟨hremainder, hfeeder⟩ := isEligible_iff.mp hk
        rw [if_pos hk, if_pos (isEligible_iff.mpr ⟨hremainder, hfeeder.trans_le (hle _)⟩)]
      · rw [if_neg hk]
        exact Nat.zero_le _
    omega

/-- A claim after its turn. -/
def served (t : Taker) (x : Nat) : Taker := { t with grant := t.grant + x }

theorem remainder_served (t : Taker) (x : Nat) : (served t x).remainder = t.remainder - x := by
  simp [served, Taker.remainder, Nat.sub_add_eq]

/-- After a round of share `q` the eligible claims are among those before it, and each of them took the whole share. -/
theorem round_spec (q : Nat) (ts : List Taker) (h : Headroom) :
    let r := walk (shareAmount q) ts h
    eligibleCount r.1 r.2 ≤ eligibleCount ts h ∧ r.2.service ≤ h.service - q * eligibleCount r.1 r.2 := by
  induction ts generalizing h with
  | nil => exact ⟨le_rfl, le_rfl⟩
  | cons t ts ih =>
    rw [walk_cons]
    generalize hx : shareAmount q t h = x
    change min q (min t.remainder (h.feeders.get t.feeder)) = x at hx
    obtain ⟨hcount, hservice⟩ := ih (h.use t.feeder x)
    have hmono := hcount.trans (eligibleCount_mono ts fun f => get_use_le h t.feeder f x)
    have hleft : (walk (shareAmount q) ts (h.use t.feeder x)).2.feeders.get t.feeder ≤ h.feeders.get t.feeder - x :=
      ((walk_le ts _).2 t.feeder).trans_eq (get_use_same h t.feeder x)
    generalize walk (shareAmount q) ts (h.use t.feeder x) = rest at *
    have hspent : (h.use t.feeder x).service = h.service - x := rfl
    rw [hspent] at hservice
    change eligibleCount (served t x :: rest.1) rest.2 ≤ _ ∧ rest.2.service ≤ h.service - q * eligibleCount (served t x :: rest.1) rest.2
    rw [eligibleCount_cons, eligibleCount_cons]
    by_cases helig : isEligible rest.2 (served t x) = true
    · obtain ⟨hremainder, hfeeder⟩ := isEligible_iff.mp helig
      rw [remainder_served] at hremainder
      change 0 < rest.2.feeders.get t.feeder at hfeeder
      have hbefore : isEligible h t = true := isEligible_iff.mpr ⟨by omega, by omega⟩
      have hwhole : x = q := by omega
      rw [if_pos helig, if_pos hbefore, Nat.mul_add, Nat.mul_one]
      refine ⟨Nat.add_le_add_right hmono 1, hservice.trans ?_⟩
      omega
    · rw [if_neg helig, Nat.add_zero]
      exact ⟨hmono.trans (Nat.le_add_right _ _), hservice.trans (by omega)⟩

/-! ## The end of pass 2 -/

theorem fill_ended (fuel : Nat) {ts : List Taker} {h : Headroom} (hend : eligibleCount ts h = 0 ∨ h.service = 0) :
    fill fuel ts h = (ts, h) := by
  cases fuel with
  | zero => rfl
  | succ fuel =>
    unfold fill
    exact if_pos hend

theorem fill_last (fuel : Nat) {ts : List Taker} {h : Headroom} (hgo : ¬(eligibleCount ts h = 0 ∨ h.service = 0))
    (hshare : h.service / eligibleCount ts h = 0) : fill (fuel + 1) ts h = walk unitAmount ts h := by
  rw [fill]
  dsimp only
  rw [if_neg hgo, if_pos hshare]

theorem fill_round (fuel : Nat) {ts : List Taker} {h : Headroom} (hgo : ¬(eligibleCount ts h = 0 ∨ h.service = 0))
    (hshare : ¬h.service / eligibleCount ts h = 0) : fill (fuel + 1) ts h =
      fill fuel (walk (shareAmount (h.service / eligibleCount ts h)) ts h).1
        (walk (shareAmount (h.service / eligibleCount ts h)) ts h).2 := by
  rw [fill]
  dsimp only
  rw [if_neg hgo, if_neg hshare]

/-- A round leaves fewer eligible claims, or less headroom than there are of them. -/
theorem round_progress {ts : List Taker} {h : Headroom} (hpos : 0 < eligibleCount ts h) :
    let r := walk (shareAmount (h.service / eligibleCount ts h)) ts h
    eligibleCount r.1 r.2 < eligibleCount ts h ∨ r.2.service < eligibleCount r.1 r.2 := by
  obtain ⟨hcount, hservice⟩ := round_spec (h.service / eligibleCount ts h) ts h
  dsimp only
  generalize walk (shareAmount (h.service / eligibleCount ts h)) ts h = r at *
  refine (Nat.lt_or_eq_of_le hcount).imp_right fun hsame => ?_
  have hmod := Nat.mod_lt h.service hpos
  have hdiv : h.service / eligibleCount ts h * eligibleCount ts h + h.service % eligibleCount ts h = h.service :=
    Nat.div_add_mod' _ _
  rw [hsame] at hservice ⊢
  omega

/-- Pass 2 as its rounds go: it has ended, or it hands out its last units, or it goes on after a round; within one round more
than there are eligible claims. -/
theorem fill_induction {motive : Nat → List Taker → Headroom → Prop}
    (ended : ∀ fuel ts h, eligibleCount ts h = 0 ∨ h.service = 0 → motive fuel ts h)
    (last : ∀ fuel ts h, ¬(eligibleCount ts h = 0 ∨ h.service = 0) → h.service / eligibleCount ts h = 0 → motive (fuel + 1) ts h)
    (round : ∀ fuel ts h, ¬(eligibleCount ts h = 0 ∨ h.service = 0) → ¬h.service / eligibleCount ts h = 0 →
      motive fuel (walk (shareAmount (h.service / eligibleCount ts h)) ts h).1
        (walk (shareAmount (h.service / eligibleCount ts h)) ts h).2 → motive (fuel + 1) ts h)
    (n : Nat) : ∀ (ts : List Taker) (h : Headroom), eligibleCount ts h ≤ n → motive (n + 1) ts h := by
  induction n with
  | zero => exact fun ts h hn => ended _ _ _ (.inl (Nat.le_zero.mp hn))
  | succ n ih =>
    intro ts h hn
    by_cases hend : eligibleCount ts h = 0 ∨ h.service = 0
    · exact ended _ _ _ hend
    by_cases hshare : h.service / eligibleCount ts h = 0
    · exact last _ _ _ hend hshare
    have hpos : 0 < eligibleCount ts h := Nat.pos_of_ne_zero fun h0 => hend (.inl h0)
    refine round _ _ _ hend hshare ?_
    obtain hfewer | hrest := round_progress hpos
    · exact ih _ _ (by omega)
    · by_cases hend' : (walk (shareAmount (h.service / eligibleCount ts h)) ts h).2.service = 0
      · exact ended _ _ _ (.inr hend')
      · exact last _ _ _ (by omega) (Nat.div_eq_of_lt hrest)

/-- How pass 2 stands once it has ended: what further rounds would change, and what it leaves. -/
structure Ended (fuel : Nat) (ts : List Taker) (h : Headroom) : Prop where
  stable : ∀ k, fill (fuel + k) ts h = fill fuel ts h
  left : (fill fuel ts h).2.service < ts.length ∨ (fill fuel ts h).2.service = 0 ∨
    eligibleCount (fill fuel ts h).1 (fill fuel ts h).2 = 0

theorem fill_ends (n : Nat) (ts : List Taker) (h : Headroom) (hn : eligibleCount ts h ≤ n) : Ended (n + 1) ts h := by
  refine fill_induction (fun fuel ts h hend => ⟨fun k => ?_, ?_⟩) (fun fuel ts h hgo hshare => ⟨fun k => ?_, .inl ?_⟩)
    (fun fuel ts h hgo hshare hnext => ⟨fun k => ?_, ?_⟩) n ts h hn
  · rw [fill_ended _ hend, fill_ended _ hend]
  · rw [fill_ended _ hend]
    exact .inr hend.symm
  · rw [Nat.succ_add_eq_add_succ, fill_last _ hgo hshare, Nat.add_succ, fill_last _ hgo hshare]
  · rw [fill_last _ hgo hshare]
    have hfew : h.service < eligibleCount ts h := (Nat.div_eq_zero_iff.mp hshare).resolve_left fun h0 => hgo (.inl h0)
    exact ((walk_le ts h).1.trans_lt hfew).trans_le (eligibleCount_le_length ts h)
  · rw [Nat.add_right_comm, fill_round _ hgo hshare, fill_round _ hgo hshare, hnext.stable]
  · rw [fill_round _ hgo hshare, ← walk_length (amount := shareAmount (h.service / eligibleCount ts h)) ts h]
    exact hnext.left

/-- Settles O41: each round of an equal share makes a claim ineligible or is the last but one. -/
theorem passTwoEndsWithin65Rounds : Obligations.PassTwoEndsWithin65Rounds := by
  intro ts h hlength
  obtain ⟨hstable, hleft⟩ := fill_ends 64 ts h ((eligibleCount_le_length ts h).trans hlength)
  refine ⟨hstable, ?_⟩
  obtain hfew | hnone | hended := hleft
  · exact .inl (hfew.trans_le hlength)
  · exact .inl (by rw [hnone]; decide)
  · exact .inr hended

end Sys2Proof.Proofs.PassTwo
end

section
/-!
The shares of an event (R129): the floors of the demand's fractions, and the leftover handed out in rotation order (O51).
-/
namespace Sys2Proof.Proofs.Shares

open Sys2Proof Sys2Proof.Machine

/-! ## Handing out the leftover -/

/-- Whether a member's share is below its pledge. -/
def below (m : MemberShare) : Bool := decide (m.share < m.pledge)

theorem below_iff {m : MemberShare} : below m = true ↔ m.share < m.pledge := decide_eq_true_iff

/-- A member after its turn, `left` units being left. -/
def topped (m : MemberShare) (left : Nat) : MemberShare :=
  { m with share := m.share + if below m = true ∧ 0 < left then 1 else 0 }

theorem handOut_cons (m : MemberShare) (ms : List MemberShare) (left : Nat) :
    handOut (m :: ms) left = topped m left :: handOut ms (if below m then left - 1 else left) := by
  by_cases h : m.share < m.pledge
  · by_cases hleft : 0 < left
    · simp [handOut, topped, below, h, hleft]
    · obtain rfl : left = 0 := by omega
      simp [handOut, topped, below, h]
  · simp [handOut, topped, below, h]

theorem handOut_map (ms : List MemberShare) (left : Nat) :
    (handOut ms left).map (fun x => (x.bay, x.pledge)) = ms.map fun x => (x.bay, x.pledge) := by
  induction ms generalizing left with
  | nil => rfl
  | cons m ms ih => rw [handOut_cons, List.map_cons, ih]; rfl

/-- The units handed out: all that is left, where there are as many members below their pledge. -/
theorem handOut_sum (ms : List MemberShare) (left : Nat) :
    ((handOut ms left).map MemberShare.share).sum = (ms.map MemberShare.share).sum + min left (ms.filter below).length := by
  induction ms generalizing left with
  | nil => simp [handOut]
  | cons m ms ih =>
    rw [handOut_cons, List.map_cons, List.sum_cons, ih, List.map_cons, List.sum_cons, List.filter_cons]
    by_cases h : below m = true
    · rw [if_pos h, if_pos h, List.length_cons]
      by_cases hleft : 0 < left
      · simp only [topped, h, hleft, and_self, if_true]
        omega
      · simp only [topped, hleft, and_false, if_false]
        omega
    · have hunit : ¬(below m = true ∧ 0 < left) := fun ⟨hbelow, _⟩ => h hbelow
      rw [if_neg h, if_neg h]
      simp only [topped, if_neg hunit]
      omega

/-- A member's turn comes after those before it that were below their pledge. -/
theorem mem_handOut {x : MemberShare} {ms : List MemberShare} {left : Nat} (hx : x ∈ handOut ms left) :
    ∃ pre m post, ms = pre ++ m :: post ∧ x = topped m (left - (pre.filter below).length) := by
  induction ms generalizing left with
  | nil => exact absurd hx List.not_mem_nil
  | cons m ms ih =>
    rw [handOut_cons] at hx
    obtain rfl | hx := List.mem_cons.mp hx
    · exact ⟨[], m, ms, rfl, rfl⟩
    · obtain ⟨pre, k, post, rfl, rfl⟩ := ih hx
      refine ⟨m :: pre, k, post, rfl, ?_⟩
      rw [List.filter_cons]
      by_cases h : below m = true
      · rw [if_pos h, if_pos h, List.length_cons, Nat.sub_sub, Nat.add_comm 1]
      · rw [if_neg h, if_neg h]

/-! ## The floors -/

/-- A member with the share that is no fraction. -/
def wholeShare (share : Member → Nat) (m : Member) : MemberShare := { bay := m.bay, pledge := m.pledge, share := share m }

/-- The floor of a member's fraction of the demand. -/
def fraction (d p : Nat) (m : Member) : Nat := d * m.pledge / p

theorem fraction_lt_iff {d p : Nat} {m : Member} (h : d < p) : fraction d p m < m.pledge ↔ 0 < m.pledge := by
  unfold fraction
  rw [Nat.div_lt_iff_lt_mul (by omega), Nat.mul_comm]
  exact ⟨fun hlt => Nat.pos_of_ne_zero fun h0 => by simp [h0] at hlt, fun hpos => Nat.mul_lt_mul_of_pos_left h hpos⟩

/-- The fractions' floors and what they cut off. -/
theorem sum_fractions (ms : List Member) {d p : Nat} (h : d < p) :
    p * (ms.map (fraction d p)).sum ≤ d * (ms.map Member.pledge).sum ∧
      d * (ms.map Member.pledge).sum ≤
        p * ((ms.map (fraction d p)).sum + (ms.filter fun m => decide (fraction d p m < m.pledge)).length) := by
  induction ms with
  | nil => simp
  | cons m ms ih =>
    obtain ⟨hlow, hhigh⟩ := ih
    have hfloor : p * fraction d p m ≤ d * m.pledge := Nat.mul_div_le _ _
    have hcut : d * m.pledge < p * (fraction d p m + 1) := Nat.lt_mul_div_succ _ (by omega)
    rw [List.filter_cons]
    simp only [List.map_cons, List.sum_cons, Nat.mul_add, decide_eq_true_eq] at *
    refine ⟨by omega, ?_⟩
    split
    · rw [List.length_cons, Nat.mul_succ]
      omega
    · rename_i hzero
      have hpledge : m.pledge = 0 := by
        rw [fraction_lt_iff h] at hzero
        omega
      rw [hpledge]
      omega

/-- The leftover has no more units than there are members below their pledge. -/
theorem leftover_le (ms : List Member) {d : Nat} (h : d < (ms.map Member.pledge).sum) :
    (ms.map (fraction d (ms.map Member.pledge).sum)).sum ≤ d ∧
      d ≤ (ms.map (fraction d (ms.map Member.pledge).sum)).sum +
        (ms.filter fun m => decide (fraction d (ms.map Member.pledge).sum m < m.pledge)).length := by
  obtain ⟨hlow, hhigh⟩ := sum_fractions ms h
  generalize (ms.map Member.pledge).sum = p at *
  have hp : 0 < p := by omega
  refine ⟨Nat.le_of_mul_le_mul_left (hlow.trans_eq (Nat.mul_comm d p)) hp, Nat.le_of_mul_le_mul_left ?_ hp⟩
  exact (Nat.mul_comm p d).trans_le hhigh

/-! ## The shares -/

section Frozen

variable {members : List Member} {o d : Nat}

/-- The frozen set in rotation order. -/
def ordered (members : List Member) (o : Nat) : List Member := inRotation Member.bay o members

/-- What is left of the demand after the floors. -/
def leftoverOf (members : List Member) (d : Nat) : Nat := d - (members.map (fraction d (members.map Member.pledge).sum)).sum

theorem memberShares_whole (h : (members.map Member.pledge).sum ≤ d) :
    memberShares members o d = (ordered members o).map (wholeShare fun m => if (members.map Member.pledge).sum = 0 then 0 else m.pledge) := by
  unfold memberShares
  dsimp only
  split
  · rfl
  · rfl

theorem memberShares_fractions (hperm : (ordered members o).Perm members) (h : d < (members.map Member.pledge).sum) :
    memberShares members o d = handOut ((ordered members o).map (wholeShare (fraction d (members.map Member.pledge).sum)))
      (leftoverOf members d) := by
  have hsum : (((ordered members o).map (wholeShare (fraction d (members.map Member.pledge).sum))).map MemberShare.share).sum =
      (members.map (fraction d (members.map Member.pledge).sum)).sum := by
    rw [List.map_map]
    exact (hperm.map _).sum_eq
  unfold memberShares leftoverOf
  dsimp only
  rw [if_neg (by omega), if_neg (by omega), ← hsum]
  rfl

theorem map_wholeShare (share : Member → Nat) (ms : List Member) :
    (ms.map (wholeShare share)).map (fun x => (x.bay, x.pledge)) = ms.map fun m => (m.bay, m.pledge) := by
  rw [List.map_map]
  rfl

theorem filter_below (share : Member → Nat) (ms : List Member) :
    ((ms.map (wholeShare share)).filter below).length = (ms.filter fun m => decide (share m < m.pledge)).length := by
  rw [List.filter_map, List.length_map]
  rfl

theorem pledge_of_sum_zero {m : Member} (h : (members.map Member.pledge).sum = 0) (hm : m ∈ members) : m.pledge = 0 :=
  Nat.le_zero.mp ((List.le_sum_of_mem (List.mem_map_of_mem hm)).trans_eq h)

/-- The members before one in rotation order are those of a lower place. -/
theorem filter_place {pre post : List Member} {m : Member} (ho : o < 64) (hperm : (ordered members o).Perm members)
    (hsplit : ordered members o = pre ++ m :: post) (share : Member → Nat) :
    (pre.filter fun k => decide (share k < k.pledge)).length =
      (members.filter fun k => decide (share k < k.pledge ∧ (k.bay + 63 - o) % 64 < (m.bay + 63 - o) % 64)).length := by
  have hplaces := Rotation.inRotation_pairwise Member.bay o members
  change (ordered members o).Pairwise _ at hplaces
  rw [hsplit, List.pairwise_append, List.pairwise_cons] at hplaces
  simp only [Rotation.place_eq ho] at hplaces
  obtain ⟨-, ⟨hpost, -⟩, hpre⟩ := hplaces
  have hlater : (post.filter fun k => decide (share k < k.pledge ∧ (k.bay + 63 - o) % 64 < (m.bay + 63 - o) % 64)) = [] := by
    refine List.filter_eq_nil_iff.mpr fun k hk => ?_
    have := hpost k hk
    simp only [decide_eq_true_eq, not_and, not_lt]
    omega
  have hearlier : (pre.filter fun k => decide (share k < k.pledge ∧ (k.bay + 63 - o) % 64 < (m.bay + 63 - o) % 64)) =
      pre.filter fun k => decide (share k < k.pledge) := by
    refine List.filter_congr fun k hk => ?_
    have := hpre k hk m List.mem_cons_self
    simp [this]
  rw [← (hperm.filter _).length_eq, hsplit, List.filter_append, List.filter_cons, if_neg (by simp), hlater, hearlier, List.append_nil]

end Frozen

/-- Settles O51: the shares are the pledges, or the floors with the leftover handed out, of the same members in another order. -/
theorem sharesServeTheDemand : Obligations.SharesServeTheDemand := by
  intro members o d hnodup hrange ho
  dsimp only
  have hperm : (ordered members o).Perm members := Rotation.inRotation_perm o hnodup hrange
  by_cases h : (members.map Member.pledge).sum ≤ d
  · rw [memberShares_whole h]
    have hshare {m : Member} (hm : m ∈ members) : (if (members.map Member.pledge).sum = 0 then 0 else m.pledge) = m.pledge := by
      split
      · exact (pledge_of_sum_zero ‹_› hm).symm
      · rfl
    refine ⟨?_, ?_, fun x hx => ?_⟩
    · rw [map_wholeShare]
      exact hperm.map _
    · rw [List.map_map, (hperm.map _).sum_eq, min_eq_left h]
      exact congrArg List.sum (List.map_congr_left fun m hm => hshare hm)
    · obtain ⟨m, hm, rfl⟩ := List.mem_map.mp hx
      have heq := hshare (hperm.mem_iff.mp hm)
      exact ⟨heq.le, fun _ => heq, fun hlt => absurd h (by omega)⟩
  · have hlt : d < (members.map Member.pledge).sum := by omega
    obtain ⟨hfloors, hcover⟩ := leftover_le members hlt
    rw [memberShares_fractions hperm hlt]
    refine ⟨?_, ?_, fun x hx => ?_⟩
    · rw [handOut_map, map_wholeShare]
      exact hperm.map _
    · have hleft : leftoverOf members d = d - (members.map (fraction d (members.map Member.pledge).sum)).sum := rfl
      rw [handOut_sum, filter_below, (hperm.filter _).length_eq, List.map_map, (hperm.map _).sum_eq, min_eq_left (by omega),
        min_eq_right hlt.le]
      change (members.map (fraction d (members.map Member.pledge).sum)).sum + leftoverOf members d = d
      omega
    · obtain ⟨pre, k, post, hsplit, rfl⟩ := mem_handOut hx
      obtain ⟨pre', rest, horder, rfl, hrest⟩ := List.map_eq_append_iff.mp hsplit
      obtain ⟨m, post', rfl, rfl, rfl⟩ := List.map_eq_cons_iff.mp hrest
      have hbefore := filter_place ho hperm horder (fraction d (members.map Member.pledge).sum)
      have hfraction : fraction d (members.map Member.pledge).sum m ≤ m.pledge := by
        unfold fraction
        refine Nat.div_le_of_le_mul ?_
        exact Nat.mul_le_mul_right _ hlt.le
      rw [filter_below, hbefore]
      simp only [topped, below_iff, wholeShare, Nat.sub_pos_iff_lt]
      refine ⟨?_, fun hle => absurd hle h, fun _ => rfl⟩
      split <;> omega

end Sys2Proof.Proofs.Shares
end

section
/-!
The results of the allotment (R80 to R89): the two passes as walks over the claims, what they hand out and what they leave (O40).
-/
namespace Sys2Proof.Proofs.Results

open Sys2Proof Sys2Proof.Machine Sys2Proof.Proofs.PassTwo

/-! ## What a walk keeps of its claims -/

/-- The figures of a claim that the passes do not change. -/
def figuresOf (t : Taker) : Nat × Nat × Option Int × Nat × Nat := (t.bay, t.feeder, t.dep, t.need, t.ask)

section Walk

variable {amount : Taker → Headroom → Nat} {ts : List Taker} {h : Headroom}

theorem walk_figures (ts : List Taker) (h : Headroom) : (walk amount ts h).1.map figuresOf = ts.map figuresOf := by
  induction ts generalizing h with
  | nil => rfl
  | cons t ts ih => rw [walk_cons, List.map_cons, ih]; rfl

theorem walk_feeders {amount : Taker → Headroom → Nat} {ts : List Taker} (hts : ∀ t ∈ ts, t.feeder ≤ 3) (h : Headroom) :
    ∀ t ∈ (walk amount ts h).1, t.feeder ≤ 3 := by
  intro t ht
  have hfigures := List.mem_map_of_mem (f := figuresOf) ht
  rw [walk_figures] at hfigures
  obtain ⟨u, hu, heq⟩ := List.mem_map.mp hfigures
  have hfeeder : u.feeder = t.feeder := congrArg (fun x => x.2.1) heq
  exact hfeeder ▸ hts u hu

theorem fill_figures (fuel : Nat) (ts : List Taker) (h : Headroom) : (fill fuel ts h).1.map figuresOf = ts.map figuresOf := by
  induction fuel generalizing ts h with
  | zero => rfl
  | succ fuel ih =>
    unfold fill
    dsimp only
    split
    · rfl
    · split
      · exact walk_figures ts h
      · rw [ih, walk_figures]

/-- The claims keep to their asks where each takes no more than its remainder. -/
theorem walk_within (hamount : ∀ t ∈ ts, ∀ k, t.grant + amount t k ≤ t.ask) : ∀ t ∈ (walk amount ts h).1, t.grant ≤ t.ask := by
  induction ts generalizing h with
  | nil => exact fun _ ht => absurd ht List.not_mem_nil
  | cons t ts ih =>
    rw [walk_cons]
    refine List.forall_mem_cons.mpr ⟨hamount t List.mem_cons_self _, ih fun u hu => hamount u (List.mem_cons_of_mem _ hu)⟩

end Walk

theorem fill_within (fuel : Nat) {ts : List Taker} {h : Headroom} (hts : ∀ t ∈ ts, t.grant ≤ t.ask) :
    ∀ t ∈ (fill fuel ts h).1, t.grant ≤ t.ask := by
  have hshare (q : Nat) (t : Taker) (ht : t ∈ ts) (k : Headroom) : t.grant + shareAmount q t k ≤ t.ask := by
    have hle := hts t ht
    unfold shareAmount Taker.remainder
    omega
  induction fuel generalizing ts h with
  | zero => exact hts
  | succ fuel ih =>
    unfold fill
    dsimp only
    split
    · exact hts
    · split
      · refine walk_within fun t ht k => ?_
        have hle := hts t ht
        unfold unitAmount Taker.remainder
        split <;> omega
      · refine ih (walk_within (hshare _)) fun q t ht k => ?_
        have hle := walk_within (hshare _) t ht
        unfold shareAmount Taker.remainder
        omega

/-! ## What a walk hands out -/

/-- The grants on a feeder. -/
def grantsOn (f : Nat) (ts : List Taker) : Nat := ((ts.filter fun t => t.feeder == f).map Taker.grant).sum

/-- All grants. -/
def grantsOf (ts : List Taker) : Nat := (ts.map Taker.grant).sum

theorem grantsOn_cons (f : Nat) (t : Taker) (ts : List Taker) :
    grantsOn f (t :: ts) = (if t.feeder = f then t.grant else 0) + grantsOn f ts := by
  unfold grantsOn
  rw [List.filter_cons]
  by_cases hf : t.feeder = f <;> simp [hf]

theorem get_use_of_le {h : Headroom} {f g x : Nat} (hf : f ≤ 3) (hg : g ≤ 3) :
    (h.use f x).feeders.get g = if f = g then h.feeders.get g - x else h.feeders.get g := by
  rw [get_use, min_eq_left hf, min_eq_left hg]

/-- What a walk and its end hand out of a feeder's headroom is what the claims on it take. -/
theorem walk_conserves_feeder {amount : Taker → Headroom → Nat} (hamount : ∀ t h, amount t h ≤ h.feeders.get t.feeder)
    {ts : List Taker} (hts : ∀ t ∈ ts, t.feeder ≤ 3) (h : Headroom) {f : Nat} (hf : f ≤ 3) :
    grantsOn f (walk amount ts h).1 + (walk amount ts h).2.feeders.get f = grantsOn f ts + h.feeders.get f := by
  induction ts generalizing h with
  | nil => rfl
  | cons t ts ih =>
    obtain ⟨ht, hrest⟩ := List.forall_mem_cons.mp hts
    have hx := hamount t h
    have hnext := ih hrest (h.use t.feeder (amount t h))
    rw [get_use_of_le ht hf] at hnext
    rw [walk_cons, grantsOn_cons, grantsOn_cons]
    dsimp only
    split at hnext
    · rename_i heq
      rw [if_pos heq, if_pos heq]
      subst heq
      omega
    · rename_i hne
      rw [if_neg hne, if_neg hne]
      omega

theorem walk_conserves_service {amount : Taker → Headroom → Nat} (hamount : ∀ t h, amount t h ≤ h.service) (ts : List Taker)
    (h : Headroom) : grantsOf (walk amount ts h).1 + (walk amount ts h).2.service = grantsOf ts + h.service := by
  induction ts generalizing h with
  | nil => rfl
  | cons t ts ih =>
    have hx := hamount t h
    have hnext := ih (h.use t.feeder (amount t h))
    have hused : (h.use t.feeder (amount t h)).service = h.service - amount t h := rfl
    rw [walk_cons]
    simp only [grantsOf, List.map_cons, List.sum_cons] at hnext ⊢
    omega

/-- The equal shares of a round do not pass the headroom, for no more claims take one than were eligible (R85). -/
theorem round_conserves_service (q : Nat) (ts : List Taker) (h : Headroom) (hq : q * eligibleCount ts h ≤ h.service) :
    grantsOf (walk (shareAmount q) ts h).1 + (walk (shareAmount q) ts h).2.service = grantsOf ts + h.service := by
  induction ts generalizing h with
  | nil => rfl
  | cons t ts ih =>
    rw [walk_cons]
    generalize hx : shareAmount q t h = x
    change min q (min t.remainder (h.feeders.get t.feeder)) = x at hx
    have hmono := Nat.mul_le_mul_left q (eligibleCount_mono ts fun f => get_use_le h t.feeder f x)
    have hused : (h.use t.feeder x).service = h.service - x := rfl
    have htaken : x ≤ h.service ∧ q * eligibleCount ts h ≤ h.service - x := by
      rw [eligibleCount_cons, Nat.mul_add] at hq
      by_cases helig : isEligible h t = true
      · rw [if_pos helig] at hq
        omega
      · rw [isEligible_iff] at helig
        omega
    have hnext := ih (h.use t.feeder x) (by omega)
    simp only [grantsOf, List.map_cons, List.sum_cons] at hnext ⊢
    omega

theorem floorAmount_le (t : Taker) (h : Headroom) : floorAmount t h ≤ h.service ∧ floorAmount t h ≤ h.feeders.get t.feeder := by
  unfold floorAmount
  omega

theorem unitAmount_le (t : Taker) (h : Headroom) : unitAmount t h ≤ h.service ∧ unitAmount t h ≤ h.feeders.get t.feeder := by
  unfold unitAmount
  split <;> omega

theorem fill_conserves (fuel : Nat) {ts : List Taker} (hts : ∀ t ∈ ts, t.feeder ≤ 3) (h : Headroom) :
    grantsOf (fill fuel ts h).1 + (fill fuel ts h).2.service = grantsOf ts + h.service ∧
      ∀ f, f ≤ 3 → grantsOn f (fill fuel ts h).1 + (fill fuel ts h).2.feeders.get f = grantsOn f ts + h.feeders.get f := by
  induction fuel generalizing ts h with
  | zero => exact ⟨rfl, fun _ _ => rfl⟩
  | succ fuel ih =>
    unfold fill
    dsimp only
    split
    · exact ⟨rfl, fun _ _ => rfl⟩
    · split
      · exact ⟨walk_conserves_service (fun t k => (unitAmount_le t k).1) ts h,
          fun f hf => walk_conserves_feeder (fun t k => (unitAmount_le t k).2) hts h hf⟩
      · let q := h.service / eligibleCount ts h
        have hround := round_conserves_service q ts h (Nat.div_mul_le_self _ _)
        have hshare (t : Taker) (k : Headroom) : shareAmount q t k ≤ k.feeders.get t.feeder := by
          unfold shareAmount
          omega
        obtain ⟨hservice, hfeeder⟩ := ih (walk_feeders hts h) (walk (shareAmount q) ts h).2
        exact ⟨hservice.trans hround, fun f hf => (hfeeder f hf).trans (walk_conserves_feeder hshare hts h hf)⟩

/-! ## A walk in the claims' words -/

theorem took_cons (b a : Taker) (bs as : List Taker) (n : Nat) :
    took (b :: bs) (a :: as) (n + 1) = (a.grant - b.grant) + took bs as n := rfl

theorem tookOn_cons (b a : Taker) (bs as : List Taker) (n f : Nat) :
    tookOn (b :: bs) (a :: as) (n + 1) f = (if b.feeder = f then a.grant - b.grant else 0) + tookOn bs as n f := by
  unfold tookOn
  rw [List.zip_cons_cons, List.take_succ_cons, List.filter_cons]
  by_cases hf : b.feeder = f <;> simp [hf]

/-- A walk of the model is one of the statements', where its amounts read H and the claim's own h. -/
theorem walked_walk (amount : Taker → Nat → Nat → Nat) {ts : List Taker} (hts : ∀ t ∈ ts, t.feeder ≤ 3) (h : Headroom) :
    Walked amount ts (walk (fun t k => amount t k.service (k.feeders.get t.feeder)) ts h).1 h
      (walk (fun t k => amount t k.service (k.feeders.get t.feeder)) ts h).2 := by
  induction ts generalizing h with
  | nil => exact ⟨rfl, fun n b a hb => absurd hb (by simp), rfl, fun f _ => rfl⟩
  | cons t ts ih =>
    obtain ⟨ht, hrest⟩ := List.forall_mem_cons.mp hts
    rw [walk_cons]
    generalize hx : amount t h.service (h.feeders.get t.feeder) = x
    obtain ⟨hlength, hgrants, hservice, hfeeders⟩ := ih hrest (h.use t.feeder x)
    generalize walk (fun t k => amount t k.service (k.feeders.get t.feeder)) ts (h.use t.feeder x) = rest at *
    have hused : (h.use t.feeder x).service = h.service - x := rfl
    have htaken : t.grant + x - t.grant = x := Nat.add_sub_cancel_left _ _
    refine ⟨congrArg (· + 1) hlength, fun n b a hb ha => ?_, ?_, fun f hf => ?_⟩
    · cases n with
      | zero =>
        obtain rfl := Option.some_inj.mp hb
        obtain rfl := Option.some_inj.mp ha
        rw [← hx]
        rfl
      | succ n =>
        rw [List.getElem?_cons_succ] at hb ha
        have hb3 : b.feeder ≤ 3 := hrest b (List.mem_of_getElem? hb)
        rw [hgrants n b a hb ha, took_cons, tookOn_cons, get_use_of_le ht hb3, hused, htaken, Nat.sub_sub]
        split
        · rw [Nat.sub_sub]
        · rw [Nat.zero_add]
    · rw [hservice, hused, List.length_cons, took_cons, htaken, Nat.sub_sub]
    · rw [hfeeders f hf, List.length_cons, tookOn_cons, get_use_of_le ht hf, htaken]
      split
      · rw [Nat.sub_sub]
      · rw [Nat.zero_add]

theorem eligible_eq (ts : List Taker) (h : Headroom) : eligible ts h = ts.filter (isEligible h) := by
  refine List.filter_congr fun t _ => ?_
  simp [isEligible, Taker.remainder]

theorem eligible_length (ts : List Taker) (h : Headroom) : (eligible ts h).length = eligibleCount ts h := by
  rw [eligible_eq]
  rfl

/-- Pass 2 of the model is that of the statements. -/
theorem filled_fill (n : Nat) (ts : List Taker) (h : Headroom) (hn : eligibleCount ts h ≤ n) (hts : ∀ t ∈ ts, t.feeder ≤ 3) :
    Filled ts h (fill (n + 1) ts h).1 (fill (n + 1) ts h).2 := by
  refine fill_induction (motive := fun fuel ts h => (∀ t ∈ ts, t.feeder ≤ 3) → Filled ts h (fill fuel ts h).1 (fill fuel ts h).2)
    (fun fuel ts h hend _ => ?_) (fun fuel ts h hgo hshare hts => ?_) (fun fuel ts h hgo hshare hnext hts => ?_) n ts h hn hts
  · rw [fill_ended _ hend]
    refine Filled.ended _ _ (hend.imp_left fun h0 => ?_)
    exact List.length_eq_zero_iff.mp ((eligible_length ts h).trans h0)
  · rw [fill_last _ hgo hshare]
    have hfew : h.service < eligibleCount ts h := (Nat.div_eq_zero_iff.mp hshare).resolve_left fun h0 => hgo (.inl h0)
    refine Filled.last _ _ _ _ (Nat.pos_of_ne_zero fun h0 => hgo (.inr h0)) (hfew.trans_eq (eligible_length ts h).symm) ?_
    have hunit : unitAmount = fun t k => if 0 < k.service ∧ t.grant < t.ask ∧ 0 < k.feeders.get t.feeder then 1 else 0 := by
      funext t k
      simp [unitAmount, Taker.remainder]
    rw [hunit]
    exact walked_walk (fun t all left => if 0 < all ∧ t.grant < t.ask ∧ 0 < left then 1 else 0) hts h
  · rw [fill_round _ hgo hshare]
    refine Filled.round _ _ _ _ _ _ (h.service / eligibleCount ts h) (fun h0 => hgo (.inl ?_)) ?_ (Nat.pos_of_ne_zero hshare) ?_
      (hnext (walk_feeders hts h))
    · rw [← eligible_length, h0]
      rfl
    · rw [eligible_length]
    · exact walked_walk (fun t _ left => min (h.service / eligibleCount ts h) (min (t.ask - t.grant) left)) hts h

/-! ## Departure order (R83) -/

/-- The order of pass 1: by departure, NONE last, ties by rotation. -/
def sooner (o : Nat) (a b : Taker) : Prop :=
  match a.dep, b.dep with
  | some x, some y => x < y ∨ (x = y ∧ Rotation.place o a.bay < Rotation.place o b.bay)
  | some _, none => True
  | none, some _ => False
  | none, none => Rotation.place o a.bay < Rotation.place o b.bay

section Order

variable {o : Nat} {a b c : Taker}

theorem sooner_of_departsBy (hplace : Rotation.place o a.bay < Rotation.place o b.bay) (h : departsBy a.dep b.dep = true) :
    sooner o a b := by
  unfold sooner
  unfold departsBy at h
  cases ha : a.dep <;> cases hb : b.dep <;> simp only [ha, hb, decide_eq_true_eq] at h ⊢
  · exact hplace
  · exact absurd h (by decide)
  · omega

theorem sooner_of_not_departsBy (h : ¬departsBy a.dep b.dep = true) : sooner o b a := by
  unfold sooner
  unfold departsBy at h
  cases ha : a.dep <;> cases hb : b.dep <;> simp only [ha, hb, decide_eq_true_eq, not_true, not_le] at h ⊢
  exact .inl h

theorem departsBy_of_sooner (hab : departsBy a.dep b.dep = true) (hbc : sooner o b c) : departsBy a.dep c.dep = true := by
  unfold sooner at hbc
  unfold departsBy at hab ⊢
  cases ha : a.dep <;> cases hb : b.dep <;> cases hc : c.dep <;> simp only [ha, hb, hc, decide_eq_true_eq] at hab hbc ⊢
  · exact absurd hab (by decide)
  · omega

theorem insert_perm (t : Taker) (us : List Taker) : (insertByDeparture t us).Perm (t :: us) := by
  induction us with
  | nil => exact List.Perm.refl _
  | cons u us ih =>
    unfold insertByDeparture
    split
    · exact List.Perm.refl _
    · exact (ih.cons u).trans (List.Perm.swap _ _ _)

theorem insert_pairwise {t : Taker} {us : List Taker} (hplace : ∀ u ∈ us, Rotation.place o t.bay < Rotation.place o u.bay)
    (hus : us.Pairwise (sooner o)) : (insertByDeparture t us).Pairwise (sooner o) := by
  induction us with
  | nil => exact List.pairwise_singleton _ _
  | cons u us ih =>
    obtain ⟨hu, hrest⟩ := List.pairwise_cons.mp hus
    obtain ⟨hplaceu, hplaces⟩ := List.forall_mem_cons.mp hplace
    unfold insertByDeparture
    split
    · rename_i hdep
      refine List.pairwise_cons.mpr ⟨List.forall_mem_cons.mpr ⟨sooner_of_departsBy hplaceu hdep, fun x hx => ?_⟩, hus⟩
      exact sooner_of_departsBy (hplaces x hx) (departsBy_of_sooner hdep (hu x hx))
    · rename_i hdep
      refine List.pairwise_cons.mpr ⟨fun x hx => ?_, ih hplaces hrest⟩
      obtain rfl | hx := List.mem_cons.mp ((insert_perm t us).mem_iff.mp hx)
      · exact sooner_of_not_departsBy hdep
      · exact hu x hx

theorem departureOrder_perm (ts : List Taker) : (departureOrder ts).Perm ts := by
  induction ts with
  | nil => exact List.Perm.refl _
  | cons t ts ih => exact (insert_perm t _).trans (ih.cons t)

theorem departureOrder_pairwise {ts : List Taker} (hts : ts.Pairwise fun a b => Rotation.place o a.bay < Rotation.place o b.bay) :
    (departureOrder ts).Pairwise (sooner o) := by
  induction ts with
  | nil => exact List.Pairwise.nil
  | cons t ts ih =>
    obtain ⟨ht, hrest⟩ := List.pairwise_cons.mp hts
    exact insert_pairwise (fun u hu => ht u ((departureOrder_perm ts).mem_iff.mp hu)) (ih hrest)

end Order

/-! ## The claims that enter (R82) -/

/-- What was latched: distinct bays 1..64, feeders 0..3, and an own need within the own ask. -/
structure Latched (i : AltInputs) : Prop where
  distinct : (i.ownBay :: i.peers.map PeerEntry.bay).Nodup
  bays : ∀ b ∈ i.ownBay :: i.peers.map PeerEntry.bay, 1 ≤ b ∧ b ≤ 64
  ownFeeder : i.own.feeder ≤ 3
  feeders : ∀ p ∈ i.peers, p.claim.feeder ≤ 3
  need : i.own.need ≤ i.own.ask

/-- The copies that are live. -/
def livePeers (i : AltInputs) : List PeerEntry := i.peers.filter fun p => p.state == .live

/-- The claims of a computation, as latched. -/
def entering (i : AltInputs) : List Taker := i.ownTaker :: (livePeers i).map i.peerTaker

section Entering

variable {i : AltInputs}

theorem entering_bays (i : AltInputs) : (entering i).map Taker.bay = i.ownBay :: (livePeers i).map PeerEntry.bay := by
  simp [entering, AltInputs.ownTaker, AltInputs.peerTaker, Function.comp_def]

theorem bays_sublist (i : AltInputs) : ((entering i).map Taker.bay).Sublist (i.ownBay :: i.peers.map PeerEntry.bay) := by
  rw [entering_bays]
  exact (List.filter_sublist.map _).cons_cons _

theorem Latched.enteringNodup (hi : Latched i) : ((entering i).map Taker.bay).Nodup := hi.distinct.sublist (bays_sublist i)

theorem Latched.enteringBays (hi : Latched i) : ∀ t ∈ entering i, 1 ≤ t.bay ∧ t.bay ≤ 64 :=
  fun _ ht => hi.bays _ ((bays_sublist i).mem (List.mem_map_of_mem ht))

theorem Latched.enteringFeeders (hi : Latched i) : ∀ t ∈ entering i, t.feeder ≤ 3 := by
  refine List.forall_mem_cons.mpr ⟨hi.ownFeeder, fun t ht => ?_⟩
  obtain ⟨p, hp, rfl⟩ := List.mem_map.mp ht
  exact hi.feeders p (List.mem_of_mem_filter hp)

theorem Latched.enteringNeed (hi : Latched i) : ∀ t ∈ entering i, t.need ≤ t.ask ∧ t.grant = 0 := by
  refine List.forall_mem_cons.mpr ⟨⟨hi.need, rfl⟩, fun t ht => ?_⟩
  obtain ⟨p, hp, rfl⟩ := List.mem_map.mp ht
  exact ⟨min_le_right _ _, rfl⟩

end Entering

/-! ## The passes -/

section Passes

variable {i : AltInputs}

/-- Pass 1 over the claims in departure order. -/
def floored (i : AltInputs) : List Taker × Headroom := walk floorAmount (departureOrder i.takers) i.headroom

/-- The claims of pass 2 in rotation order. -/
def turnOf (i : AltInputs) : List Taker := inRotation Taker.bay i.origin (floored i).1

theorem passes_eq (i : AltInputs) : i.passes = fill 65 (turnOf i) (floored i).2 := rfl

theorem Latched.order_perm (hi : Latched i) : (departureOrder i.takers).Perm (entering i) :=
  (departureOrder_perm _).trans (Rotation.inRotation_perm i.origin hi.enteringNodup hi.enteringBays)

theorem bays_of_figures {ts us : List Taker} (h : (ts.map figuresOf).Perm (us.map figuresOf)) :
    (ts.map Taker.bay).Perm (us.map Taker.bay) := by
  have hbays := h.map Prod.fst
  rwa [List.map_map, List.map_map] at hbays

theorem Latched.floored_figures (hi : Latched i) : ((floored i).1.map figuresOf).Perm ((entering i).map figuresOf) := by
  unfold floored
  rw [walk_figures]
  exact hi.order_perm.map _

theorem Latched.turn_perm (hi : Latched i) : (turnOf i).Perm (floored i).1 := by
  have hbays := bays_of_figures hi.floored_figures
  refine Rotation.inRotation_perm i.origin (hbays.nodup_iff.mpr hi.enteringNodup) fun t ht => ?_
  obtain ⟨u, hu, hbay⟩ := List.mem_map.mp (hbays.mem_iff.mp (List.mem_map_of_mem ht))
  exact hbay ▸ hi.enteringBays u hu

theorem Latched.passes_figures (hi : Latched i) : (i.passes.1.map figuresOf).Perm ((entering i).map figuresOf) := by
  rw [passes_eq, fill_figures]
  exact (hi.turn_perm.map _).trans hi.floored_figures

theorem Latched.orderFeeders (hi : Latched i) : ∀ t ∈ departureOrder i.takers, t.feeder ≤ 3 :=
  fun t ht => hi.enteringFeeders t (hi.order_perm.mem_iff.mp ht)

theorem Latched.turnFeeders (hi : Latched i) : ∀ t ∈ turnOf i, t.feeder ≤ 3 :=
  fun t ht => walk_feeders hi.orderFeeders _ t (hi.turn_perm.mem_iff.mp ht)

theorem turn_length (hi : Latched i) : (turnOf i).length ≤ 64 := by
  have hnodup : ((turnOf i).map Taker.bay).Nodup :=
    ((hi.turn_perm.map Taker.bay).trans (bays_of_figures hi.floored_figures)).nodup_iff.mpr hi.enteringNodup
  have hbays : ∀ b ∈ (turnOf i).map Taker.bay, b ∈ Finset.Icc 1 64 := by
    intro b hb
    have hmem := ((hi.turn_perm.map Taker.bay).trans (bays_of_figures hi.floored_figures)).mem_iff.mp hb
    obtain ⟨t, ht, rfl⟩ := List.mem_map.mp hmem
    exact Finset.mem_Icc.mpr (hi.enteringBays t ht)
  have hcard := Finset.card_le_card (s := ((turnOf i).map Taker.bay).toFinset) (t := Finset.Icc 1 64)
    fun b hb => hbays b (List.mem_toFinset.mp hb)
  rw [List.toFinset_card_of_nodup hnodup, List.length_map] at hcard
  exact hcard

theorem grants_of_zero {ts : List Taker} (h : ∀ t ∈ ts, t.grant = 0) : grantsOf ts = 0 ∧ ∀ f, grantsOn f ts = 0 := by
  refine ⟨List.sum_eq_zero fun x hx => ?_, fun f => List.sum_eq_zero fun x hx => ?_⟩
  · obtain ⟨t, ht, rfl⟩ := List.mem_map.mp hx
    exact h t ht
  · obtain ⟨t, ht, rfl⟩ := List.mem_map.mp hx
    exact h t (List.mem_of_mem_filter ht)

/-- What both passes hand out and leave is the headroom of R81. -/
theorem Latched.conserves (hi : Latched i) : grantsOf i.passes.1 + i.passes.2.service = i.headroom.service ∧
    ∀ f, f ≤ 3 → grantsOn f i.passes.1 + i.passes.2.feeders.get f = i.headroom.feeders.get f := by
  have hzero := grants_of_zero fun t ht => (hi.enteringNeed t (hi.order_perm.mem_iff.mp ht)).2
  have hserviceOne : grantsOf (floored i).1 + (floored i).2.service = grantsOf (departureOrder i.takers) + i.headroom.service :=
    walk_conserves_service (fun t h => (floorAmount_le t h).1) _ _
  have hfeederOne (f : Nat) (hf : f ≤ 3) : grantsOn f (floored i).1 + (floored i).2.feeders.get f =
      grantsOn f (departureOrder i.takers) + i.headroom.feeders.get f :=
    walk_conserves_feeder (fun t h => (floorAmount_le t h).2) hi.orderFeeders _ hf
  obtain ⟨hserviceTwo, hfeederTwo⟩ := fill_conserves 65 hi.turnFeeders (floored i).2
  have hturn : grantsOf (turnOf i) = grantsOf (floored i).1 := (hi.turn_perm.map _).sum_eq
  have hturnOn (f : Nat) : grantsOn f (turnOf i) = grantsOn f (floored i).1 := ((hi.turn_perm.filter _).map _).sum_eq
  rw [passes_eq]
  refine ⟨?_, fun f hf => ?_⟩
  · rw [hserviceTwo, hturn, hserviceOne, hzero.1, Nat.zero_add]
  · rw [hfeederTwo f hf, hturnOn, hfeederOne f hf, hzero.2, Nat.zero_add]

theorem Latched.within (hi : Latched i) : ∀ t ∈ i.passes.1, t.grant ≤ t.ask := by
  rw [passes_eq]
  refine fill_within 65 fun t ht => ?_
  refine walk_within (ts := departureOrder i.takers) (fun u hu k => ?_) t (hi.turn_perm.mem_iff.mp ht)
  obtain ⟨hneed, hgrant⟩ := hi.enteringNeed u (hi.order_perm.mem_iff.mp hu)
  unfold floorAmount
  omega

/-- Each row is a claim that entered, with its grant. -/
theorem Latched.entered (hi : Latched i) {t : Taker} (ht : t ∈ i.passes.1) : ∃ u ∈ entering i, figuresOf u = figuresOf t :=
  List.mem_map.mp (hi.passes_figures.mem_iff.mp (List.mem_map_of_mem ht))

theorem headroom_feeders (i : AltInputs) {f : Nat} (hf : f ≤ 3) : i.headroom.feeders.get f = i.fEff.get f - heldOn i.peers f := by
  unfold AltInputs.headroom
  interval_cases f <;> rfl

theorem rows_eq (i : AltInputs) : i.result.rows = i.passes.1.map Taker.row := rfl

theorem rows_grants (i : AltInputs) : (i.result.rows.map Row.grant).sum = grantsOf i.passes.1 := by
  rw [rows_eq, List.map_map]
  rfl

theorem rows_grantsOn (i : AltInputs) (f : Nat) :
    ((i.result.rows.filter fun w => w.feeder == f).map Row.grant).sum = grantsOn f i.passes.1 := by
  rw [rows_eq, List.filter_map, List.map_map]
  rfl

theorem Latched.rows_bays (hi : Latched i) : (i.result.rows.map Row.bay).Perm (i.ownBay :: (livePeers i).map PeerEntry.bay) := by
  rw [← entering_bays, rows_eq, List.map_map]
  exact bays_of_figures hi.passes_figures

/-- The own row and the rows of live copies keep to their asks and feeders. -/
theorem Latched.row_bounds (hi : Latched i) {w : Row} (hw : w ∈ i.result.rows) : (w.bay = i.ownBay → w.grant ≤ i.own.ask) ∧
    ∀ p ∈ livePeers i, w.bay = p.bay → w.feeder = p.claim.feeder ∧ w.grant ≤ i.askUsed p.claim := by
  obtain ⟨t, ht, rfl⟩ := List.mem_map.mp hw
  obtain ⟨u, hu, hfigures⟩ := hi.entered ht
  have hbay : u.bay = t.bay := congrArg (fun x => x.1) hfigures
  have hfeeder : u.feeder = t.feeder := congrArg (fun x => x.2.1) hfigures
  have hask : u.ask = t.ask := congrArg (fun x => x.2.2.2.2) hfigures
  have hgrant : t.grant ≤ u.ask := (hi.within t ht).trans_eq hask.symm
  have hsame {v : Taker} (hv : v ∈ entering i) (hvbay : t.bay = v.bay) : u = v :=
    List.inj_on_of_nodup_map hi.enteringNodup hu hv (hbay.trans hvbay)
  refine ⟨fun hown => ?_, fun p hp hpbay => ?_⟩
  · have hu' := hsame (v := i.ownTaker) List.mem_cons_self hown
    rw [hu'] at hgrant
    exact hgrant
  · have hu' := hsame (v := i.peerTaker p) (List.mem_cons_of_mem _ (List.mem_map_of_mem hp)) hpbay
    rw [hu'] at hgrant hfeeder
    exact ⟨hfeeder.symm, hgrant⟩

/-- A claim alone takes what its ask and the limits leave (R89). -/
theorem Latched.alone (hi : Latched i) (hnone : i.peers = []) :
    i.result.rows.map Row.grant = [min i.own.ask (min i.lEff (i.fEff.get i.own.feeder))] := by
  have henter : entering i = [i.ownTaker] := by simp [entering, livePeers, hnone]
  have hfigures := hi.passes_figures
  rw [henter] at hfigures
  obtain ⟨t, hpasses, ht⟩ := List.map_eq_singleton_iff.mp (List.perm_singleton.mp hfigures)
  have hask : t.ask = i.own.ask := congrArg (fun x => x.2.2.2.2) ht
  have hfeeder : t.feeder = i.own.feeder := congrArg (fun x => x.2.1) ht
  obtain ⟨hservice, hfeeders⟩ := hi.conserves
  have hroom := hfeeders i.own.feeder hi.ownFeeder
  rw [headroom_feeders i hi.ownFeeder] at hroom
  have hheadroom : i.headroom.service = i.lEff - heldTotal i.peers := rfl
  have hheld : heldTotal i.peers = 0 ∧ heldOn i.peers i.own.feeder = 0 := by simp [heldTotal, heldOn, hnone]
  have hwithin : t.grant ≤ t.ask := hi.within t (by rw [hpasses]; exact List.mem_singleton_self t)
  have hcount : eligibleCount (turnOf i) (floored i).2 ≤ 64 := (eligibleCount_le_length _ _).trans (turn_length hi)
  have hlength : (turnOf i).length = 1 := by
    have hlen := congrArg List.length hpasses
    have hkept := congrArg List.length (fill_figures 65 (turnOf i) (floored i).2)
    rw [List.length_map, List.length_map] at hkept
    exact hkept.symm.trans hlen
  have hended := (fill_ends 64 _ _ hcount).left
  rw [hlength] at hended
  change i.passes.2.service < 1 ∨ i.passes.2.service = 0 ∨ eligibleCount i.passes.1 i.passes.2 = 0 at hended
  rw [hpasses] at hservice hroom hended
  simp only [grantsOf, grantsOn, hfeeder, List.map_cons, List.map_nil, List.sum_cons, List.sum_nil, List.filter_cons, List.filter_nil,
    beq_self_eq_true, if_true] at hservice hroom
  rw [eligibleCount_cons, show eligibleCount [] i.passes.2 = 0 from rfl] at hended
  rw [rows_eq, hpasses]
  refine congrArg (fun x => [x]) ?_
  change t.grant = _
  by_cases helig : isEligible i.passes.2 t = true
  · rw [if_pos helig] at hended
    omega
  · rw [isEligible_iff, Taker.remainder, hfeeder] at helig
    omega

end Passes

/-- Settles O40: both passes are walks that conserve the headroom, and the rows are what they leave. -/
theorem resultsObeyTheirBounds : Obligations.ResultsObeyTheirBounds := by
  intro i hdistinct hbays hown hfeeders hneed
  have hi : Latched i := ⟨hdistinct, hbays, hown, hfeeders, hneed⟩
  obtain ⟨hservice, hfeeder⟩ := hi.conserves
  have hheadroom : i.headroom.service = i.lEff - heldTotal i.peers := rfl
  dsimp only
  refine ⟨hi.rows_bays, fun f hf => ?_, ?_, fun w hw => ?_, rfl, rfl, hi.alone, fun horigin => ?_⟩
  · have hroom := hfeeder f hf
    rw [headroom_feeders i hf] at hroom
    rw [rows_grantsOn]
    change grantsOn f i.passes.1 + heldOn i.peers f + i.passes.2.feeders.get f = _ ∧ _
    omega
  · rw [rows_grants]
    change grantsOf i.passes.1 + heldTotal i.peers + i.passes.2.service = _
    omega
  · obtain ⟨hownRow, hpeers⟩ := hi.row_bounds hw
    refine ⟨hownRow, fun p hp hbay => ?_⟩
    obtain ⟨hsame, hgrant⟩ := hpeers p hp hbay
    unfold AltInputs.askUsed at hgrant
    refine ⟨hsame, ?_, fun hisolated => ?_⟩
    · split at hgrant <;> omega
    · rw [if_pos hisolated] at hgrant
      omega
  · have hplace (b : Nat) := Rotation.place_eq horigin b
    refine ⟨departureOrder i.takers, (floored i).1, turnOf i, i.passes.1, (floored i).2, i.passes.2, hi.order_perm, ?_, ?_,
      hi.turn_perm, ?_, filled_fill 64 _ _ ((eligibleCount_le_length _ _).trans (turn_length hi)) hi.turnFeeders, rfl, rfl, rfl⟩
    · have horder := departureOrder_pairwise (o := i.origin) (Rotation.inRotation_pairwise Taker.bay i.origin (entering i))
      unfold sooner at horder
      simp only [hplace] at horder
      exact horder
    · exact walked_walk (fun t all left => min t.need (min all left)) hi.orderFeeders i.headroom
    · have hturn := Rotation.inRotation_pairwise Taker.bay i.origin (floored i).1
      simp only [hplace] at hturn
      exact hturn

end Sys2Proof.Proofs.Results
end

section
/-!
Access to the line (R18, R19, R24): the choice of a frame, the backoff and the beginning of a transmission (O27).
-/
namespace Sys2Proof.Proofs.LineAccess

open Sys2Proof Sys2Proof.Machine

/-! ## The choice of R19 -/

theorem kindRank_lt (k : FrameKey) : kindRank k < 5 := by
  cases k <;> simp [kindRank]

/-- The chosen entry, in the model's own ranks. -/
theorem chooseEntry_some {q : List QEntry} {e : QEntry} (h : chooseEntry q = some e) : e.attempts < 12 ∧
    (∀ x ∈ q, x.attempts < 12 → kindRank (keyOf e.frame) ≤ kindRank (keyOf x.frame)) ∧
    ∃ before after, q = before ++ e :: after ∧ ∀ x ∈ before, x.attempts < 12 → kindRank (keyOf e.frame) < kindRank (keyOf x.frame) := by
  obtain ⟨lower, r, upper, hrange, hfound, hlower⟩ := List.findSome?_eq_some_iff.mp h
  obtain ⟨he, before, after, hsplit, hbefore⟩ := List.find?_eq_some_iff_append.mp hfound
  simp only [Bool.and_eq_true, decide_eq_true_eq, beq_iff_eq] at he
  obtain ⟨hattempts, hrank⟩ := he
  have hmin : ∀ x ∈ q, x.attempts < 12 → kindRank (keyOf e.frame) ≤ kindRank (keyOf x.frame) := by
    intro x hx hlt
    by_contra hless
    have hsorted := hrange ▸ List.pairwise_lt_range (n := 5)
    obtain ⟨-, hrest, -⟩ := List.pairwise_append.mp hsorted
    have hmem : kindRank (keyOf x.frame) ∈ lower ++ r :: upper := hrange ▸ List.mem_range.mpr (kindRank_lt _)
    obtain hlow | hhigh := List.mem_append.mp hmem
    · have hnone := List.find?_eq_none.mp (hlower _ hlow) x hx
      simp [Config.maxAttempts, hlt] at hnone
    · obtain heq | hupper := List.mem_cons.mp hhigh
      · omega
      · have := List.rel_of_pairwise_cons hrest hupper
        omega
  refine ⟨hattempts, hmin, before, after, hsplit, fun x hx hlt => ?_⟩
  have hle := hmin x (hsplit ▸ List.mem_append_left _ hx) hlt
  have hne := hbefore x hx
  simp only [Bool.not_eq_true', Bool.and_eq_false_iff, decide_eq_false_iff_not, Config.maxAttempts, beq_eq_false_iff_ne] at hne
  omega

theorem chooseEntry_none {q : List QEntry} : chooseEntry q = none ↔ ∀ x ∈ q, 12 ≤ x.attempts := by
  refine List.findSome?_eq_none_iff.trans ⟨fun h x hx => ?_, fun h r _ => List.find?_eq_none.mpr fun x hx => ?_⟩
  · have hnone := List.find?_eq_none.mp (h _ (List.mem_range.mpr (kindRank_lt (keyOf x.frame)))) x hx
    simpa [Config.maxAttempts] using hnone
  · have := h x hx
    simp [Config.maxAttempts]
    omega

/-! ## The line idle and busy -/

theorem accessChosen_idle {l : Lnk} (h : l.lineIdle = true) (bay : Nat) : accessChosen l bay = match chooseEntry l.queue with
    | none => .notContending
    | some e => .backoff (keyOf e.frame) ((bay * 5 + e.attempts * 11) % 64 * 8) := by
  unfold accessChosen
  rw [h]
  rfl

theorem accessChosen_busy {l : Lnk} (h : l.lineIdle = false) (bay : Nat) :
    accessChosen l bay = if (chooseEntry l.queue).isSome then .waiting else .notContending := by
  unfold accessChosen
  rw [h]
  cases chooseEntry l.queue <;> rfl

theorem rechoose_of_quiet {s : State} (h : s.lnk.access.isSending = false) :
    s.rechoose = s.setLnk { s.lnk with access := accessChosen s.lnk s.ownBay } := by
  unfold State.rechoose
  rw [if_neg (by simp [h])]

section Line

variable {s : State}

theorem lineGetsBusy_quiet (h : s.lnk.access.isSending = false) : s.lineGetsBusy = s.setLnk { s.lnk with
    lineIdle := false
    armed := if s.lnk.lineIdle then decide (s.lnk.station ≠ .unconfigured) else s.lnk.armed
    access := if (chooseEntry s.lnk.queue).isSome then .waiting else .notContending } := by
  unfold State.lineGetsBusy
  rw [if_neg (by simp [h]), rechoose_of_quiet (by exact h), accessChosen_busy (by rfl)]
  rfl

theorem lineGetsBusy_sending (h : s.lnk.access.isSending = true) :
    s.lineGetsBusy = s.setLnk { s.lnk with lineIdle := false, armed := false } := by
  unfold State.lineGetsBusy
  rw [if_pos h]

/-- The line fallen idle and the receive path armed. -/
def quieted (s : State) : State := s.setLnk { s.lnk with lineIdle := true, armed := decide (s.lnk.station ≠ .unconfigured) }

theorem lineFallsIdle_quiet (h : s.lnk.access.isSending = false) (hbackoff : ∀ k n, s.lnk.access ≠ .backoff k n) :
    s.lineFallsIdle = (quieted s).rechoose := by
  unfold State.lineFallsIdle
  rw [if_neg (by simp [h])]
  dsimp only
  split
  · exact absurd ‹_› (hbackoff _ _)
  · rfl

theorem lineFallsIdle_backoff {k : FrameKey} {n : Nat} (h : s.lnk.access = .backoff k n) : s.lineFallsIdle = quieted s := by
  unfold State.lineFallsIdle
  rw [if_neg (by simp [h, Access.isSending])]
  dsimp only
  split
  · rfl
  · rename_i hnot
    exact absurd h (hnot _ _)

theorem beginDriving_eq {k : FrameKey} {n : Nat} {e : QEntry} (h : s.lnk.access = .backoff k n) (hidle : s.lnk.lineIdle = true)
    (he : s.lnk.queue.find? (QEntry.hasKey k) = some e) : s.beginDriving =
      s.setLnk { s.lnk with access := .sending k (e.frame.bytes s.ownBay s.clk.epoch) none, armed := false } := by
  unfold State.beginDriving
  simp only [h, he, hidle, if_true]

end Line

/-- Settles O27: the choice by rank and place, and each event of the line as one change of LNK. -/
theorem accessToTheLine : Obligations.AccessToTheLine := by
  refine ⟨fun q e he => ?_, fun q => chooseEntry_none, fun s => ⟨fun h => ⟨?_, fun hbackoff => ?_, fun k n hbackoff => ?_⟩,
    fun h => congrArg Host.Outcome.next (lineGetsBusy_sending h),
    fun k n e hbackoff hidle he => congrArg Host.Outcome.next (beginDriving_eq hbackoff hidle he)⟩⟩
  · intro rank
    have hrank (x : QEntry) : rank x = kindRank (keyOf x.frame) := by
      obtain ⟨f, attempts, age⟩ := x
      cases f <;> rfl
    simp only [hrank]
    exact chooseEntry_some he
  · exact congrArg Host.Outcome.next (lineGetsBusy_quiet h)
  · refine congrArg Host.Outcome.next ((lineFallsIdle_quiet h hbackoff).trans ?_)
    rw [rechoose_of_quiet (by exact h), accessChosen_idle (by rfl)]
    rfl
  · exact congrArg Host.Outcome.next (lineFallsIdle_backoff hbackoff)

end Sys2Proof.Proofs.LineAccess
end

section
/-!
Entry into ISOLATED (R31, R91): the cap, with the setpoint that follows it, and then the capture and the notice.
-/
namespace Sys2Proof.Proofs.Isolation

open Sys2Proof Sys2Proof.Machine Sys2Proof.Proofs.Captures Sys2Proof.Proofs.Losses

/-- A station with its state changed to ISOLATED and the cap of R91 in force, before the capture. -/
def capped (s : State) : State := (s.setLnk { s.lnk with station := .isolated }).setGrant (min s.alt.grant s.fairShare)

theorem enterIsolated_eq (s : State) : s.enterIsolated = ((capped s).captureNat .isolated 0).raise .isolated := rfl

section Entry

variable {s : State}

theorem capped_eq (s : State) : capped s = { s with
    lnk := { s.lnk with station := .isolated }
    alt := { s.alt with grant := min s.alt.grant s.fairShare }
    rsv := { s.rsv with baseline := if s.rsv.active then min s.alt.grant s.fairShare else s.rsv.baseline }
    stg := { s.stg with applied := (capped s).setpointFrom s.stg.applied } } :=
  Tick.setGrant_eq _ _

theorem enterIsolated_frame (s : State) : s.enterIsolated = { capped s with log := s.enterIsolated.log, prt := s.enterIsolated.prt } := by
  rw [enterIsolated_eq]
  exact StageLine.captureRaise_frame (capped s) _ _ _

theorem enterIsolated_lnk (s : State) : s.enterIsolated.lnk = { s.lnk with station := .isolated } := by
  rw [enterIsolated_frame, capped_eq]

theorem enterIsolated_alt (s : State) : s.enterIsolated.alt = { s.alt with grant := min s.alt.grant s.fairShare } := by
  rw [enterIsolated_frame, capped_eq]

theorem enterIsolated_rsv (s : State) : s.enterIsolated.rsv =
    { s.rsv with baseline := if s.rsv.active then min s.alt.grant s.fairShare else s.rsv.baseline } := by
  rw [enterIsolated_frame, capped_eq]

theorem enterIsolated_stg (s : State) : s.enterIsolated.stg =
    { s.stg with applied := s.enterIsolated.setpointFrom s.stg.applied } := by
  have hset : s.enterIsolated.setpointFrom s.stg.applied = (capped s).setpointFrom s.stg.applied := by
    rw [enterIsolated_eq]
    exact StageLine.captureRaise_setpointFrom _ _ _ _ _
  rw [hset, enterIsolated_frame]
  dsimp only
  conv_lhs => rw [capped_eq]

theorem capped_log (s : State) : (capped s).log = s.log ∧ (capped s).prt = s.prt := by
  rw [capped_eq]
  exact ⟨rfl, rfl⟩

theorem enterIsolated_begins {count : Nat} {flag : Bool} (h : Shows .isolated .isolated count flag s) :
    Shows .isolated .isolated (min 63 (count + 1)) true s.enterIsolated := by
  obtain ⟨hlog, hprt⟩ := capped_log s
  exact (h.congr (t := capped s) (by rw [hlog]) (by rw [hprt])).begins 0

theorem enterIsolated_other {c : Cause} {n : Notice} {count : Nat} {flag : Bool} (hc : c ≠ .isolated) (hn : n ≠ .isolated)
    (hbank : n ∉ bankNotices) (h : Shows c n count flag s) : Shows c n count flag s.enterIsolated := by
  obtain ⟨hlog, hprt⟩ := capped_log s
  exact ((h.congr (t := capped s) (by rw [hlog]) (by rw [hprt])).capture _ _ hc hbank).raise hn

/-- The capture of the entry stands alone in what it adds to the log, and reads the figures under the cap. -/
theorem enterIsolated_captured {t x : State} (hx : x.log = s.log)
    (ht : t.log = s.enterIsolated.log ∧ t.clk = s.clk ∧ t.ses = s.ses ∧ t.alt.grant = s.enterIsolated.alt.grant ∧
      t.stg = s.enterIsolated.stg ∧ t.rsv.active = s.rsv.active ∧ t.rsv.dActive = s.rsv.dActive) :
    CapturedAlone x t .isolated 0#32 none := by
  obtain ⟨hlog, hclk, hses, hgrant, hstg, hactive, hdemand⟩ := ht
  have hcapped := enterIsolated_frame s
  have hcappedEq := capped_eq s
  refine capturedAlone_of_capture (u := capped s) ((capped_log s).1.trans hx.symm) hlog
    (record_congr ?_ ?_ ?_ ?_ ⟨?_, ?_⟩ ⟨?_, ?_⟩ _ _ _)
  · rw [(capped_log s).1, State.setLog_log, hx]
  · rw [State.setLog_clk, hclk, hcappedEq]
  · rw [State.setLog_ses, hses, hcappedEq]
  · rw [State.setLog_alt, hgrant, hcapped]
  · rw [State.setLog_stg, hstg, hcapped]
  · rw [State.setLog_stg, hstg, hcapped]
  · rw [State.setLog_rsv, hactive, hcappedEq]
  · rw [State.setLog_rsv, hdemand, hcappedEq]

end Entry

/-! ## A missed epoch (R30) -/

/-- The streak after a missed epoch. -/
def missed (s : State) : State := s.setLnk { s.lnk with streak := min 8 (s.lnk.streak + 1) }

theorem missEpoch_eq (s : State) :
    s.missEpoch = if s.lnk.station = .active ∧ 7 ≤ s.lnk.streak then (missed s).enterIsolated else missed s := by
  have hlimit : (missed s).lnk.streak = 8 ∧ (missed s).lnk.station = .active ↔ s.lnk.station = .active ∧ 7 ≤ s.lnk.streak := by
    change min 8 (s.lnk.streak + 1) = 8 ∧ s.lnk.station = .active ↔ _
    rw [and_comm]
    refine and_congr_right fun _ => ?_
    omega
  have hmiss : s.missEpoch = if (missed s).lnk.streak = 8 ∧ (missed s).lnk.station = .active then (missed s).enterIsolated
      else missed s := rfl
  rw [hmiss]
  split
  · rw [if_pos (hlimit.mp ‹_›)]
  · rw [if_neg (fun h => ‹¬_› (hlimit.mpr h))]

theorem missEpoch_lnk (s : State) : s.missEpoch.lnk = { s.lnk with
    streak := min 8 (s.lnk.streak + 1)
    station := if s.lnk.station = .active ∧ 7 ≤ s.lnk.streak then .isolated else s.lnk.station } := by
  rw [missEpoch_eq]
  split
  · rw [enterIsolated_lnk]
    rfl
  · rfl

end Sys2Proof.Proofs.Isolation
end

section
/-!
Frames that are not delivered (R14 to R17, R31): the field checks in the statements' words, the frames dropped, and the frame of
the own bay id (O29).
-/
namespace Sys2Proof.Proofs.FrameChecks

open Sys2Proof Sys2Proof.Machine Sys2Proof.Proofs.Losses

/-! ## The field checks (R17) -/

theorem departureOk_iff {d : Option Int} : departureOk d = true ↔ ∀ x ∈ d, -43200 ≤ x ∧ x ≤ 86399 := by
  cases d <;> simp [departureOk, Config.minDeparture, Config.maxDeparture]

theorem within_iff {a n b : Nat} : within a n b = true ↔ a ≤ n ∧ n ≤ b := decide_eq_true_iff

theorem ascending_iff (xs : List Int) : ascending xs = true ↔ xs.Pairwise (· < ·) := by
  rw [← List.isChain_iff_pairwise]
  induction xs with
  | nil => simp [ascending]
  | cons a xs ih =>
    cases xs with
    | nil => simp [ascending]
    | cons b rest => rw [ascending, Bool.and_eq_true, ih, List.isChain_cons_cons, decide_eq_true_iff]

theorem rawLegOk_iff {cap cursor i : Nat} {l : RawLeg} : rawLegOk cap cursor i l = true ↔
    (-43200 ≤ l.dep ∧ l.dep ≤ 86399 ∧ l.req ≤ cap) ∧ (if i < cursor then l.state = 1 ∨ l.state = 2 else l.state = 0) := by
  unfold rawLegOk
  rw [Bool.and_eq_true, Bool.and_eq_true, departureOk_iff, decide_eq_true_iff]
  split <;> simp [and_assoc]

/-- The legs of an OFFER: in range, with history before the cursor and PENDING legs from it on. -/
theorem rawLegs_iff (cap : Nat) (ls : List RawLeg) (cursor : Nat) :
    ((ls.mapIdx fun i l => rawLegOk cap cursor i l).all id) = true ↔
      (∀ l ∈ ls, -43200 ≤ l.dep ∧ l.dep ≤ 86399 ∧ l.req ≤ cap) ∧
        (∀ l ∈ ls.take cursor, l.state = 1 ∨ l.state = 2) ∧ ∀ l ∈ ls.drop cursor, l.state = 0 := by
  induction ls generalizing cursor with
  | nil => simp
  | cons l ls ih =>
    have hshift : (ls.mapIdx fun i x => rawLegOk cap cursor (i + 1) x) = ls.mapIdx fun i x => rawLegOk cap (cursor - 1) i x := by
      refine congrArg (fun f => ls.mapIdx f) ?_
      funext i x
      rw [Bool.eq_iff_iff, rawLegOk_iff, rawLegOk_iff]
      have hlt : i + 1 < cursor ↔ i < cursor - 1 := by omega
      simp only [hlt]
    rw [List.mapIdx_cons, hshift, List.all_cons, Bool.and_eq_true, ih, id, rawLegOk_iff]
    cases cursor with
    | zero => simp; tauto
    | succ n => simp; tauto

/-- The field checks of a frame command (R17). -/
theorem fieldsFail_iff {i : Instr} (hi : (frameSender i).isSome) : fieldsFail i = false ↔ FrameInRange i := by
  cases i
  case claimFrame b e c =>
    simp [fieldsFail, FrameInRange, claimFieldsOk, departureOk_iff, Config.dayEpochs, and_assoc]
  case eventFrame b o q d r =>
    simp only [fieldsFail, FrameInRange, eventFieldsOk, Bool.not_eq_false', Bool.and_eq_true, within_iff, decide_eq_true_eq]
    tauto
  case queryFrame b bus => simp [fieldsFail, FrameInRange, busFieldOk, within_iff]
  case takenFrame b bus x => simp [fieldsFail, FrameInRange, takenFieldsOk, busFieldOk, within_iff]
  case offerFrame b o =>
    simp only [fieldsFail, FrameInRange, offerFieldsOk, busFieldOk, capacityOk, Bool.not_eq_false', Bool.and_eq_true, within_iff,
      decide_eq_true_eq, ascending_iff, rawLegs_iff, Config.dayEpochs, and_assoc]
  all_goals cases hi

/-! ## The judgement of a frame -/

theorem exists_deliver {i : Instr} {b : Nat} {ok : Bool} {deliver : State → State}
    (hexec : ∀ s, exec i s = .next (s.takeFrame b ok deliver)) (hok : fieldsFail i = !ok) :
    ∃ deliver : State → State, ∀ s, exec i s = .next (s.takeFrame b (!fieldsFail i) deliver) := by
  rw [hok, Bool.not_not]
  exact ⟨deliver, hexec⟩

/-- A frame row is the judgement of a frame by its sender and its field checks. -/
theorem exec_frame {i : Instr} {b : Nat} (hi : frameSender i = some b) :
    ∃ deliver : State → State, ∀ s, exec i s = .next (s.takeFrame b (!fieldsFail i) deliver) := by
  cases i
  case claimFrame | eventFrame | queryFrame | offerFrame | takenFrame =>
    obtain rfl := Option.some_inj.mp hi
    exact exists_deliver (fun _ => rfl) rfl
  all_goals cases hi

section Judged

variable {s : State} {b : Nat} {ok : Bool} {deliver : State → State}

theorem takeFrame_untaken (h : s.receives = false) : s.takeFrame b ok deliver = s := by
  unfold State.takeFrame
  rw [h]
  rfl

theorem takeFrame_noBay (h : s.receives = true) (hb : ¬(1 ≤ b ∧ b ≤ 64)) : s.takeFrame b ok deliver = s.dropFrame := by
  unfold State.takeFrame
  rw [h, decide_eq_false hb]
  rfl

theorem takeFrame_own (h : s.receives = true) (hb : 1 ≤ b ∧ b ≤ 64) (hown : b = s.ownBay) :
    s.takeFrame b ok deliver = s.hearOwnBay := by
  unfold State.takeFrame
  rw [h, decide_eq_true hb, if_pos hown]
  rfl

theorem takeFrame_delivers (h : s.Delivers b) : s.takeFrame b ok deliver = if ok then deliver s else s.dropFrame := by
  obtain ⟨hreceives, hlow, hhigh, hother⟩ := h
  unfold State.takeFrame
  rw [hreceives, decide_eq_true ⟨hlow, hhigh⟩, if_neg hother]
  rfl

end Judged

theorem dropped_of_exec {i : Instr} {s : State} (h : exec i s = .next s.dropFrame) : Dropped i s := h

/-! ## The own bay id (R31) -/

/-- DUP_BAY begun, with its capture and notice. -/
def heard (s : State) : State := ((s.setLnk { s.lnk with dupBay := true }).captureNat .dupBay 0).raise .dupBay

theorem hearOwnBay_again {s : State} (h : s.lnk.dupBay = true) : s.hearOwnBay = s := by
  unfold State.hearOwnBay
  rw [if_pos h]

theorem hearOwnBay_first {s : State} (h : s.lnk.dupBay = false) :
    s.hearOwnBay = if s.lnk.station = .active then (heard s).enterIsolated else heard s := by
  have hstation : (heard s).lnk.station = s.lnk.station := by simp [heard]
  rw [← hstation]
  unfold State.hearOwnBay
  rw [if_neg (by simp [h])]
  rfl

theorem heard_frame (s : State) : heard s =
    { s with lnk := { s.lnk with dupBay := true }, log := (heard s).log, prt := (heard s).prt } :=
  StageLine.captureRaise_frame (s.setLnk { s.lnk with dupBay := true }) _ _ _

theorem heard_log (s : State) : (heard s).log = (s.capture .dupBay 0#32 none).log :=
  Captures.capture_log_congr (s := s) (t := s.setLnk { s.lnk with dupBay := true }) rfl rfl

theorem heard_fairShare (s : State) : (heard s).fairShare = s.fairShare := by
  have hframe := heard_frame s
  rw [hframe]
  rfl

theorem heard_shows {s : State} (hlength : s.log.counters.length = 24) :
    Shows .dupBay .dupBay (min 63 (s.counter .dupBay + 1)) true (heard s) := by
  have hshown : Shows .dupBay .dupBay (s.counter .dupBay) (s.flagged .dupBay) (s.setLnk { s.lnk with dupBay := true }) :=
    ⟨hlength, rfl, rfl⟩
  exact hshown.begins 0

theorem heard_isolated {s : State} (hlength : s.log.counters.length = 24) :
    Shows .isolated .isolated (s.counter .isolated) (s.flagged .isolated) (heard s) := by
  have hshown : Shows .isolated .isolated (s.counter .isolated) (s.flagged .isolated) (s.setLnk { s.lnk with dupBay := true }) :=
    ⟨hlength, rfl, rfl⟩
  exact (hshown.capture _ _ (by decide) (by decide)).raise (by decide)

/-- The frame of the own bay id at a station that is not ACTIVE. -/
theorem heard_captured (s : State) : CapturedAlone s (heard s) .dupBay 0#32 none := by
  refine Captures.capturedAlone_of_capture (u := s.setLnk { s.lnk with dupBay := true }) rfl rfl
    (Captures.record_congr ?_ ?_ ?_ ?_ ?_ ?_ _ _ _)
  · rfl
  all_goals rw [heard_frame]
  all_goals first | rfl | exact ⟨rfl, rfl⟩

/-- Settles O29: each frame is judged by the receive path, its sender and its fields, in that order. -/
theorem framesThatAreNotDelivered : Obligations.FramesThatAreNotDelivered := by
  refine ⟨fun i b s hi => ?_, fun bytes whole s => ⟨fun h => ?_, fun h hdecode => ?_, fun i b h hdecode hi hother hrange => ?_⟩⟩
  · obtain ⟨deliver, hexec⟩ := exec_frame hi
    refine ⟨fun h => ?_, fun h hb => dropped_of_exec ?_, fun h hrange => dropped_of_exec ?_, fun h hlow hhigh hown => ?_⟩
    · rw [Idle, hexec, takeFrame_untaken h]
    · rw [hexec, takeFrame_noBay h hb]
    · have hfail : fieldsFail i = true := by
        rw [← fieldsFail_iff (by simp [hi])] at hrange
        simpa using hrange
      rw [hexec, takeFrame_delivers h, hfail]
      rfl
    · have hheard : exec i s = .next s.hearOwnBay := by rw [hexec, takeFrame_own h ⟨hlow, hhigh⟩ hown]
      refine ⟨fun hdup => ?_, fun hdup hlength => ⟨_, hheard, ?_⟩⟩
      · rw [Idle, hheard, hearOwnBay_again hdup]
      · by_cases hactive : s.lnk.station = .active
        · rw [(hearOwnBay_first hdup).trans (if_pos hactive)]
          have hdupShown := Isolation.enterIsolated_other (by decide) (by decide) (by decide) (heard_shows hlength)
          have hisolated := Isolation.enterIsolated_begins (heard_isolated hlength)
          have hlnk := Isolation.enterIsolated_lnk (heard s)
          have halt := Isolation.enterIsolated_alt (heard s)
          rw [heard_fairShare] at halt
          have hcaptured : CapturedAlone (s.capture .dupBay 0#32 none) (heard s).enterIsolated .isolated 0#32 none :=
            Isolation.enterIsolated_captured (heard_log s).symm
              ⟨rfl, by simp, by simp, rfl, rfl, by simp, by simp⟩
          have hframe := heard_frame s
          refine ⟨by rw [hlnk, hframe], hdupShown.flagged, hdupShown.counter, by rw [hlnk, if_pos hactive],
            fun _ => ⟨hisolated.flagged, by rw [halt, hframe], hisolated.counter, hcaptured⟩, fun hnot => absurd hactive hnot, ?_⟩
          refine ⟨?_, ?_, ?_, ?_, ?_⟩ <;> simp [heard]
        · rw [(hearOwnBay_first hdup).trans (if_neg hactive), if_neg hactive]
          have hshown := heard_shows hlength
          have hframe := heard_frame s
          refine ⟨by rw [hframe], hshown.flagged, hshown.counter, by rw [hframe], fun h => absurd h hactive, fun _ => heard_captured s, ?_⟩
          refine ⟨?_, ?_, ?_, ?_, ?_⟩ <;> simp [heard]
  · simp only [Idle, exec, execDroppedFrame, h, Bool.false_and, if_neg Bool.false_ne_true]
  · have hdrops : s.drops bytes whole = true := by
      unfold State.drops
      rw [hdecode]
    refine dropped_of_exec ?_
    simp only [exec, execDroppedFrame, h, hdrops, Bool.and_self, if_true]
  · have hsender : field bytes 1 1 = b := by
      have hframe : frameAt bytes = some i := by
        unfold decodeFrame at hdecode
        split at hdecode
        · exact hdecode
        · cases hdecode
      unfold frameAt at hframe
      split at hframe
      all_goals
        cases hframe
        try exact Option.some_inj.mp hi
    have hfail : fieldsFail i = true := by
      rw [← fieldsFail_iff (by simp [hi])] at hrange
      simpa using hrange
    have hdrops : s.drops bytes whole = true := by
      unfold State.drops
      rw [hdecode]
      simp [hsender, hother, hfail]
    refine dropped_of_exec ?_
    simp only [exec, execDroppedFrame, h, hdrops, Bool.and_self, if_true]

end Sys2Proof.Proofs.FrameChecks
end

section
/-!
The ends of a transmission (R21, R22, R25, R26, R30, R32, R191): a frame sent, a collision, and the readback that decides (O28).
-/
namespace Sys2Proof.Proofs.Transmission

open Sys2Proof Sys2Proof.Machine

/-! ## The queue after a transmission -/

theorem replaceAt_eq (q : List QEntry) (k : FrameKey) (f : Frame) :
    replaceAt q k f = q.map fun e => if keyOf e.frame = k then { frame := f, attempts := 0, age := 0 } else e := by
  refine List.map_congr_left fun e _ => ?_
  simp [QEntry.hasKey, freshEntry]

theorem removeAt_eq (q : List QEntry) (k : FrameKey) : removeAt q k = q.filter fun e => decide (keyOf e.frame ≠ k) := by
  refine List.filter_congr fun e _ => ?_
  by_cases h : keyOf e.frame = k <;> simp [QEntry.hasKey, h]

theorem attempted_eq (q : List QEntry) (k : FrameKey) :
    (q.map fun e => if e.hasKey k then { e with attempts := min Config.maxAttempts (e.attempts + 1) } else e) =
      q.map fun e => if keyOf e.frame = k then { e with attempts := min 12 (e.attempts + 1) } else e := by
  refine List.map_congr_left fun e _ => ?_
  simp [QEntry.hasKey, Config.maxAttempts]

theorem queueAfterSent_eq (q : List QEntry) (k : FrameKey) (held : Option Held) : queueAfterSent q k held = match held with
    | some (.replace f) => q.map fun e => if keyOf e.frame = k then { frame := f, attempts := 0, age := 0 } else e
    | _ => q.filter fun e => decide (keyOf e.frame ≠ k) :=
  match held with
  | some (.replace f) => replaceAt_eq q k f
  | some .remove => removeAt_eq q k
  | none => removeAt_eq q k

/-! ## A frame sent, and a collision -/

section Driving

variable {s : State} {k : FrameKey} {bytes : List Byte} {held : Option Held}

theorem stopDriving_eq (s : State) (q : List QEntry) : s.stopDriving q =
    s.setLnk { s.lnk with queue := q, access := accessChosen { s.lnk with queue := q } s.ownBay } := by
  unfold State.stopDriving
  rw [LineAccess.rechoose_of_quiet rfl]
  rfl

/-- The link when the driving of a frame ends with the line busy. -/
def silencedLnk (s : State) (q : List QEntry) : Lnk :=
  { s.lnk with lineIdle := false, queue := q, access := if (chooseEntry q).isSome then .waiting else .notContending }

theorem sentWhole_eq (h : s.lnk.access = .sending k bytes held) : s.sentWhole =
    if k = .claim then (s.setLnk (silencedLnk s (queueAfterSent s.lnk.queue k held))).claimSent
    else s.setLnk (silencedLnk s (queueAfterSent s.lnk.queue k held)) := by
  have hstop : (s.setLnk { s.lnk with lineIdle := false }).stopDriving (queueAfterSent s.lnk.queue k held) =
      s.setLnk (silencedLnk s (queueAfterSent s.lnk.queue k held)) := by
    rw [stopDriving_eq, LineAccess.accessChosen_busy rfl]
    rfl
  unfold State.sentWhole
  rw [h]
  dsimp only
  rw [hstop]

/-- The state in which a collision's frame is kept, replaced or removed. -/
def recovered (s : State) (k : FrameKey) (held : Option Held) : State :=
  s.stopDriving (queueAfterCollision s.lnk.queue k held)

theorem collided_eq (h : s.lnk.access = .sending k bytes held) :
    s.collided = if k = .claim ∧ held.isSome then (recovered s k held).missEpoch else recovered s k held := by
  unfold State.collided
  rw [h]
  rfl

theorem collided_queue (h : s.lnk.access = .sending k bytes held) : s.collided.lnk.queue = queueAfterCollision s.lnk.queue k held ∧
    s.collided.lnk.access = accessChosen { s.lnk with queue := queueAfterCollision s.lnk.queue k held } s.ownBay := by
  rw [collided_eq h, recovered, stopDriving_eq]
  split
  · rw [Isolation.missEpoch_lnk]
    exact ⟨rfl, rfl⟩
  · exact ⟨rfl, rfl⟩

theorem recovered_lnk (s : State) (k : FrameKey) (held : Option Held) :
    recovered s k held = s.setLnk { s.lnk with queue := (recovered s k held).lnk.queue, access := (recovered s k held).lnk.access } := by
  rw [recovered, stopDriving_eq]
  rfl

/-- A claim that a newer one replaces at a collision counts as missed (R22). -/
theorem collided_claim (h : s.lnk.access = .sending .claim bytes held) (hheld : held ≠ none) :
    s.collided = (recovered s .claim held).missEpoch := by
  rw [collided_eq h, if_pos ⟨rfl, Option.isSome_iff_ne_none.mpr hheld⟩]

theorem collided_kept (h : s.lnk.access = .sending k bytes held) (hkept : k ≠ .claim ∨ held = none) :
    s.collided = recovered s k held := by
  rw [collided_eq h, if_neg]
  rintro ⟨hclaim, hheld⟩
  obtain hk | rfl := hkept
  · exact hk hclaim
  · cases hheld

end Driving

/-! ## The readback (R25, R191) -/

theorem lineBits_flatMap_length (bytes : List Byte) : (bytes.flatMap lineBits).length = 10 * bytes.length := by
  rw [List.length_flatMap]
  simp [Nat.mul_comm]

theorem readBits_length {s : State} {k : FrameKey} {bytes : List Byte} {held : Option Held}
    (h : s.lnk.access = .sending k bytes held) : s.lnk.access.readBits.length = 10 * bytes.length - 1 := by
  rw [h, Access.readBits, List.length_dropLast]
  exact congrArg (· - 1) (lineBits_flatMap_length bytes)

/-- The first bit that is driven is a start bit. -/
theorem readBits_first {s : State} {k : FrameKey} {bytes : List Byte} {held : Option Held}
    (h : s.lnk.access = .sending k bytes held) (hbytes : bytes ≠ []) : s.lnk.access.readBits[0]? = some false := by
  obtain ⟨b, bs, rfl⟩ := List.exists_cons_of_ne_nil hbytes
  rw [h]
  change (false :: (bitsOf b ++ [true] ++ bs.flatMap lineBits)).dropLast[0]? = some false
  rw [List.dropLast_cons_of_ne_nil (by simp)]
  rfl

theorem execAll_single (i : Instr) (s : State) : execAll [i] s = exec i s := by
  rw [execAll]
  cases exec i s <;> rfl

theorem bitTime_released {s : State} {k : FrameKey} {bytes : List Byte} {held : Option Held}
    (h : s.lnk.access = .sending k bytes held) (hbytes : bytes ≠ []) (n : Nat) :
    ((LinkPins.mk n 0 .rest).bitTime s .released).2 = exec .collision s := by
  have hread : readback s.lnk.access.readBits 0 .released = some .collision := by
    unfold readback
    rw [readBits_first h hbytes]
    rfl
  have hbrings : (LinkPins.mk n 0 .rest).brings s .released = [.collision] := by
    unfold LinkPins.brings LinkPins.readsBack
    rw [hread]
    rfl
  unfold LinkPins.bitTime
  rw [hbrings, execAll_single]

theorem bitTime_driven {s : State} {k : FrameKey} {bytes : List Byte} {held : Option Held}
    (h : s.lnk.access = .sending k bytes held) (hbytes : bytes ≠ []) (n : Nat) {mv : Int} (hmv : mv < -200) :
    ((LinkPins.mk n 0 .rest).bitTime s (.held mv)).2 = exec .lineBusy s := by
  have hlow : (LineLevel.held mv).beyond false = true := decide_eq_true hmv
  have hhigh : (LineLevel.held mv).beyond true = false := LineLevel.beyond_excludes _ false hlow
  have hlength : 0 + 1 ≠ s.lnk.access.readBits.length := by
    rw [readBits_length h]
    have := List.length_pos_iff.mpr hbytes
    omega
  have hread : readback s.lnk.access.readBits 0 (.held mv) = none := by
    unfold readback
    rw [readBits_first h hbytes]
    dsimp only
    rw [hlow, if_neg hlength]
    rfl
  have hreads : (LineLevel.held mv).reads n = false := by
    unfold LineLevel.reads
    dsimp only
    rw [hhigh, hlow]
    rfl
  have hbrings : (LinkPins.mk n 0 .rest).brings s (.held mv) = [.lineBusy] := by
    unfold LinkPins.brings LinkPins.readsBack
    dsimp only
    rw [hread, hreads]
    rfl
  unfold LinkPins.bitTime
  rw [hbrings, execAll_single]

section Readback

variable {driven : List Bool} {v : Bool} {l : LineLevel} {n : Nat}

theorem readback_matches (hv : driven[n]? = some v) (hl : l.beyond v = true) :
    readback driven n l = if n + 1 = driven.length then some .frameSent else none := by
  unfold readback
  rw [hv]
  dsimp only
  rw [hl]
  rfl

theorem readback_mismatch (hv : driven[n]? = some v) (hl : l.beyond v = false) : readback driven n l = some .collision := by
  unfold readback
  rw [hv]
  dsimp only
  rw [hl]
  rfl

/-- Every bit from bit `n` on reads back as driven: the last brings FRAME_SENT. -/
theorem readbackFrom_sent (ls : List LineLevel) (hn : n < driven.length) (hlong : driven.length ≤ n + ls.length)
    (hmatch : ∀ (j : Nat) (v : Bool) (l : LineLevel), driven[n + j]? = some v → ls[j]? = some l → l.beyond v = true) :
    readbackFrom driven n ls = some (driven.length - 1, .frameSent) := by
  induction ls generalizing n with
  | nil =>
    rw [List.length_nil] at hlong
    omega
  | cons l ls ih =>
    have hread := readback_matches (List.getElem?_eq_getElem hn) (hmatch 0 _ l (List.getElem?_eq_getElem hn) rfl)
    rw [readbackFrom, hread]
    by_cases hlast : n + 1 = driven.length
    · rw [if_pos hlast, ← hlast]
      rfl
    · rw [if_neg hlast]
      rw [List.length_cons] at hlong
      refine ih (by omega) (by omega) fun j v l hv hl => hmatch (j + 1) v l ?_ (by simpa using hl)
      rwa [← Nat.add_assoc, Nat.add_right_comm]

/-- The first bit that reads back wrongly brings COLLISION. -/
theorem readbackFrom_collision (ls : List LineLevel) {j : Nat} (hv : driven[n + j]? = some v) (hl : ls[j]? = some l)
    (hwrong : l.beyond v = false)
    (hmatch : ∀ (i : Nat) (w : Bool) (k : LineLevel), i < j → driven[n + i]? = some w → ls[i]? = some k → k.beyond w = true) :
    readbackFrom driven n ls = some (n + j, .collision) := by
  induction j generalizing n ls with
  | zero =>
    cases ls with
    | nil => cases hl
    | cons k ls =>
      obtain rfl := Option.some_inj.mp hl
      rw [readbackFrom, readback_mismatch (by rwa [Nat.add_zero] at hv) hwrong]
      rfl
  | succ j ih =>
    cases ls with
    | nil => cases hl
    | cons k ls =>
      have hlong : n + (j + 1) < driven.length := (List.getElem?_eq_some_iff.mp hv).1
      have hn : n < driven.length := by omega
      have hread := readback_matches (List.getElem?_eq_getElem hn) (hmatch 0 _ k (by omega) (List.getElem?_eq_getElem hn) rfl)
      rw [readbackFrom, hread, if_neg (by omega)]
      have hnext (i : Nat) : n + 1 + i = n + (i + 1) := by omega
      have hfrom := ih (n := n + 1) ls (by rwa [hnext]) (by simpa using hl) fun i w x hi hw hx =>
        hmatch (i + 1) w x (by omega) (by rwa [← hnext]) (by simpa using hx)
      rwa [hnext] at hfrom

end Readback

/-- Settles O28: the two ends of a transmission are one change of LNK each, but for a claim missed at a collision, and the
readback of the bits decides between them. -/
theorem endsOfTransmission : Obligations.EndsOfTransmission := by
  intro k bytes held s h
  refine ⟨⟨_, rfl, ?_⟩, ⟨_, rfl, ?_⟩, fun hbytes n => ⟨rfl, bitTime_released h hbytes n, fun mv hmv => bitTime_driven h hbytes n hmv⟩,
    fun bits hbits => ?_⟩
  · have hqueue := queueAfterSent_eq s.lnk.queue k held
    rw [sentWhole_eq h]
    by_cases hk : k = .claim
    · rw [if_pos hk, if_pos hk]
      refine ⟨rfl, hqueue, rfl, ?_, rfl, rfl, rfl, rfl, rfl⟩
      simp only [hk, true_and]
      rfl
    · rw [if_neg hk, if_neg hk]
      refine ⟨rfl, hqueue, rfl, ?_, rfl, rfl, rfl, rfl, rfl⟩
      rw [if_neg (fun hclaim => hk hclaim.1)]
      rfl
  · obtain ⟨hqueue, haccess⟩ := collided_queue h
    refine ⟨?_, ?_, fun hk hheld => ?_, fun hkept => ?_⟩
    · rw [hqueue]
      unfold queueAfterCollision
      split
      · exact replaceAt_eq _ _ _
      · exact removeAt_eq _ _
      · exact attempted_eq _ _
    · rw [haccess, hqueue]
      rfl
    · subst hk
      have hrecovered := recovered_lnk s .claim held
      rw [collided_claim h hheld]
      generalize recovered s .claim held = r at *
      refine ⟨?_, fun hmiss => ?_, fun hstay => ?_⟩
      · rw [Isolation.missEpoch_lnk, hrecovered]
        rfl
      · have hmissed : r.missEpoch = (Isolation.missed r).enterIsolated := by
          rw [Isolation.missEpoch_eq, if_pos (by rw [hrecovered]; exact hmiss)]
        have hmissedEq : Isolation.missed r = s.setLnk (Isolation.missed r).lnk := by
          rw [hrecovered]
          rfl
        rw [hmissed]
        generalize Isolation.missed r = m at *
        have halt := Isolation.enterIsolated_alt m
        have hrsv := Isolation.enterIsolated_rsv m
        have hstg := Isolation.enterIsolated_stg m
        have hbegins (hlength : s.log.counters.length = 24) :
            Losses.Shows .isolated .isolated (min 63 (s.counter .isolated + 1)) true m.enterIsolated := by
          refine Isolation.enterIsolated_begins (flag := s.flagged .isolated) ?_
          rw [hmissedEq]
          exact ⟨hlength, rfl, rfl⟩
        have hflagged : m.enterIsolated.flagged .isolated = true := by
          rw [Isolation.enterIsolated_eq, State.raise_flagged]
          rfl
        have hcaptured : CapturedAlone s m.enterIsolated .isolated 0#32 none :=
          Isolation.enterIsolated_captured (by rw [hmissedEq]; rfl) ⟨rfl, by simp, by simp, rfl, rfl, by simp, by simp⟩
        have hframe : m.enterIsolated = { s with
            lnk := m.enterIsolated.lnk, alt := m.enterIsolated.alt, rsv := m.enterIsolated.rsv, stg := m.enterIsolated.stg
            log := m.enterIsolated.log, prt := m.enterIsolated.prt } := by
          ext1 <;> first | rfl | (simp; rw [hmissedEq]; rfl)
        have hshare : m.fairShare = s.fairShare := by rw [hmissedEq]; rfl
        refine ⟨?_, ?_, ?_, hflagged, fun hlength => (hbegins hlength).counter, hcaptured, hframe⟩
        · rw [halt, hshare, hmissedEq]
          rfl
        · rw [hrsv, hshare, hmissedEq]
          rfl
        · rw [hstg]
          rw [show m.stg = s.stg by rw [hmissedEq]; rfl]
      · rw [Isolation.missEpoch_eq, if_neg (by rw [hrecovered]; exact hstay), hrecovered]
        rfl
    · rw [collided_kept h hkept]
      exact recovered_lnk s k held
  · subst hbits
    refine ⟨readBits_length h, fun levels hne hlong hmatch => ?_, fun levels n v l hv hl hwrong hmatch => ?_, fun n mv hn hlow hhigh => ?_⟩
    · exact readbackFrom_sent levels (List.length_pos_iff.mpr hne) (by omega) fun j v l hv hl => hmatch j v l (by rwa [Nat.zero_add] at hv) hl
    · have hfirst := readbackFrom_collision (n := 0) levels (j := n) (by rwa [Nat.zero_add]) hl hwrong fun i w k hi hw hk =>
        hmatch i w k hi (by rwa [Nat.zero_add] at hw) hk
      rwa [Nat.zero_add] at hfirst
    · exact readback_mismatch (List.getElem?_eq_getElem hn) (LineLevel.near_zero mv _ hlow hhigh)

end Sys2Proof.Proofs.Transmission
end

section
/-!
VEHICLE_UPDATE and CHAIN_LOAD (R56, R57): the figures and legs that they replace, and the first leg that fails (O36).
-/
namespace Sys2Proof.Proofs.VehicleAndChain

open Sys2Proof Sys2Proof.Machine

/-! ## The relations of new legs (R57) -/

/-- New legs that may follow `kept` legs, the last of them at `prev`. -/
structure LegsFollow (cap : Nat) (prev : Option Int) (kept : Nat) (ls : List NewLeg) : Prop where
  ranges : ∀ l ∈ ls, l.dayOffset ≤ 1 ∧ l.minute ≤ 1439 ∧ l.req ≤ cap
  ascending : (ls.map newDeparture).Pairwise (· < ·)
  after : ∀ d ∈ prev, ∀ l ∈ ls.head?, d < newDeparture l
  room : ls ≠ [] → kept + ls.length ≤ 8

section Legs

variable {cap kept : Nat} {prev : Option Int} {l : NewLeg} {ls : List NewLeg}

theorem newLegOk_iff : newLegOk cap prev kept l = true ↔
    (l.dayOffset ≤ 1 ∧ l.minute ≤ 1439 ∧ l.req ≤ cap) ∧ (∀ d ∈ prev, d < newDeparture l) ∧ kept + 1 ≤ 8 := by
  unfold newLegOk
  cases prev <;> simp [and_assoc]

theorem legsFollow_nil : LegsFollow cap prev kept [] := ⟨by simp, by simp, by simp, by simp⟩

/-- Legs follow one by one. -/
theorem legsFollow_cons : LegsFollow cap prev kept (l :: ls) ↔
    newLegOk cap prev kept l = true ∧ LegsFollow cap (some (newDeparture l)) (kept + 1) ls := by
  have hpairwise : ((l :: ls).map newDeparture).Pairwise (· < ·) ↔
      (∀ x ∈ ls.head?, newDeparture l < newDeparture x) ∧ (ls.map newDeparture).Pairwise (· < ·) := by
    rw [← List.isChain_iff_pairwise, ← List.isChain_iff_pairwise, List.map_cons, List.isChain_cons, List.head?_map]
    simp
  rw [newLegOk_iff]
  constructor
  · rintro ⟨hranges, hascending, hafter, hroom⟩
    obtain ⟨hl, hls⟩ := List.forall_mem_cons.mp hranges
    obtain ⟨hhead, htail⟩ := hpairwise.mp hascending
    have hroom := hroom (List.cons_ne_nil _ _)
    rw [List.length_cons] at hroom
    refine ⟨⟨hl, fun d hd => hafter d hd l rfl, by omega⟩, hls, htail, fun d hd x hx => ?_, fun _ => by omega⟩
    obtain rfl := Option.some_inj.mp hd
    exact hhead x hx
  · rintro ⟨⟨hl, hprev, hkept⟩, hls, htail, hhead, hroom⟩
    refine ⟨List.forall_mem_cons.mpr ⟨hl, hls⟩, hpairwise.mpr ⟨hhead _ rfl, htail⟩, fun d hd x hx => ?_, fun _ => ?_⟩
    · obtain rfl := Option.some_inj.mp hx
      exact hprev d hd
    · rw [List.length_cons]
      by_cases hnil : ls = []
      · rw [hnil, List.length_nil]
        exact hkept
      · have := hroom hnil
        omega

theorem legFail_none (i : Nat) (h : LegsFollow cap prev kept ls) : legFail cap prev kept i ls = none := by
  induction ls generalizing prev kept i with
  | nil => rfl
  | cons l ls ih =>
    obtain ⟨hl, hls⟩ := legsFollow_cons.mp h
    rw [legFail, if_pos hl, ih _ hls]

theorem legFail_some (i : Nat) {n : Nat} (hn : n < ls.length) (hgood : LegsFollow cap prev kept (ls.take n))
    (hbad : ¬LegsFollow cap prev kept (ls.take (n + 1))) : legFail cap prev kept i ls = some (i + n) := by
  induction ls generalizing prev kept i n with
  | nil => cases hn
  | cons l ls ih =>
    cases n with
    | zero =>
      have hl : ¬newLegOk cap prev kept l = true := fun hl => hbad (legsFollow_cons.mpr ⟨hl, legsFollow_nil⟩)
      rw [legFail, if_neg hl]
      rfl
    | succ n =>
      obtain ⟨hl, hrest⟩ := legsFollow_cons.mp hgood
      have hbadRest : ¬LegsFollow cap (some (newDeparture l)) (kept + 1) (ls.take (n + 1)) :=
        fun hgoodRest => hbad (legsFollow_cons.mpr ⟨hl, hgoodRest⟩)
      rw [legFail, if_pos hl, ih (i + 1) (by simpa using hn) hrest hbadRest]
      congr 1
      omega

end Legs

/-! ## The two commands -/

section Commands

variable {s : State} {v : Session}

theorem vehicleUpdate_eq {pa dl x : Nat} {c : ConfigRecord} (hv : s.ses = some v) (hc : s.cfg = some c) :
    s.updateVehicle pa dl x = (s.setSes (some { v with
      pAccept := min pa c.chargerRating, dischargeLimit := min dl c.dischargeRating, consent := decide (x = 1) })).follow := by
  unfold State.updateVehicle State.modSes State.chargerRating State.dischargeRating
  rw [hv, hc]
  rfl

theorem settled_of_noQuery (hv : s.ses = some v) (hq : s.prk.query = none) : s.isSettled = true := by
  simp [State.isSettled, hv, hq]

theorem exec_chainLoad {ls : List NewLeg} (hv : s.ses = some v) (hq : s.prk.query = none) :
    exec (.chainLoad ls) s = .next (s.command 5 true (chainFail v ls) (fun t => t.loadChain ls) fun _ => []) := by
  simp only [exec, execChainLoad, settled_of_noQuery hv hq, hv, Option.bind_some]

theorem loadChain_eq (hv : s.ses = some v) (ls : List NewLeg) :
    s.loadChain ls = s.setSes (some { v with chain := v.chain.load ls }) := by
  unfold State.loadChain State.modSes
  rw [hv]
  rfl

end Commands

/-- Settles O36: the two commands are one change of the session each, and the first leg that fails is named. -/
theorem vehicleUpdateAndChainLoad : Obligations.VehicleUpdateAndChainLoad := by
  intro v s hv
  refine ⟨fun pa dl x c hc => ⟨fun hx => ?_, fun hx => ?_⟩, fun ls hq => ?_⟩
  · have hexec : exec (.vehicleUpdate pa dl x) s =
        .next (s.command 4 true none (fun t => t.updateVehicle pa dl x) State.vehiclePayload) := by
      have hchecks : firstFail (vehicleChecks x) = none := by simp [vehicleChecks, firstFail, hx]
      simp only [exec, execVehicleUpdate, hv, Option.isSome_some, hchecks]
    refine Port.answers_of_taken hexec ?_
    dsimp only
    rw [vehicleUpdate_eq (s := s.counted) hv hc]
    generalize hw : ({ v with pAccept := min pa c.chargerRating, dischargeLimit := min dl c.dischargeRating,
                              consent := decide (x = 1) } : Session) = w
    have hset := StageLine.setpointFrom_follow (s.counted.setSes (some w)) s.stg.applied
    have hpayload : (s.counted.setSes (some w)).follow.vehiclePayload =
        u16 (min pa c.chargerRating) ++ u16 (min dl c.dischargeRating) ++ u8 x := by
      have hbyte : yesNo (decide (x = 1)) = u8 x := by
        obtain rfl | rfl : x = 0 ∨ x = 1 := by omega
        · rfl
        · rfl
      rw [← hw]
      simp [State.vehiclePayload, hbyte]
    refine ⟨?_, ?_⟩
    · change _ = { s with ses := some w, stg := { s.stg with applied := (s.counted.setSes (some w)).follow.setpointFrom s.stg.applied },
                          prt := _ }
      rw [hset]
      rfl
    · rw [hpayload]
      exact Port.responds_answerWith _ _ rfl
  · have hchecks : firstFail (vehicleChecks x) = some 3 := by
      have hnot : ¬x ≤ 1 := by omega
      simp [vehicleChecks, firstFail, hnot]
    refine Port.refused_of_range (n := 3) (effect := fun t => t.updateVehicle pa dl x) (payload := State.vehiclePayload) ?_
    simp only [exec, execVehicleUpdate, hv, Option.isSome_some, hchecks]
  · intro departs kept good
    have hgood (xs : List NewLeg) : good xs ↔ LegsFollow v.cap (v.chain.kept.getLast?.map Leg.dep) v.chain.kept.length xs := by
      have hafter : (∀ k ∈ kept.getLast?, ∀ l ∈ xs.head?, k.dep < departs l) ↔
          ∀ d ∈ v.chain.kept.getLast?.map Leg.dep, ∀ l ∈ xs.head?, d < newDeparture l := by
        simp only [Option.mem_map, forall_exists_index, and_imp, forall_apply_eq_imp_iff₂]
        exact Iff.rfl
      exact ⟨fun ⟨hranges, hascending, hlast, hroom⟩ => ⟨hranges, hascending, hafter.mp hlast, hroom⟩,
        fun ⟨hranges, hascending, hlast, hroom⟩ => ⟨hranges, hascending, hafter.mpr hlast, hroom⟩⟩
    simp only [hgood]
    have hexec := exec_chainLoad (ls := ls) hv hq
    refine ⟨fun hcount hls => ?_, fun hcount => ?_, fun n hcount hn hpass hfail => ?_⟩
    · have hchecks : chainFail v ls = none := by rw [chainFail, if_neg (by omega), legFail_none 1 hls]
      rw [hchecks] at hexec
      rw [hexec, State.command, if_pos rfl, loadChain_eq (s := s.counted) hv]
      rfl
    · have hchecks : chainFail v ls = some 0 := by rw [chainFail, if_pos hcount]
      rw [hchecks] at hexec
      exact Port.refused_of_range hexec
    · have hchecks : chainFail v ls = some (n + 1) := by
        rw [chainFail, if_neg (by omega), legFail_some 1 hn hpass hfail, Nat.add_comm]
      rw [hchecks] at hexec
      exact Port.refused_of_range hexec

end Sys2Proof.Proofs.VehicleAndChain
end

section
/-!
EVENT frames of other stations (R122 to R130, R137): the share computation, the taking, a changed demand and the end (O49, O50).
-/
namespace Sys2Proof.Proofs.Events

open Sys2Proof Sys2Proof.Machine Sys2Proof.Proofs.Losses

/-! ## The share computation (R129, R130) -/

/-- The reserve unit after a share computation. -/
def sharedRsv (s : State) : Rsv := { s.rsv with
  share := if s.rsv.standing = some .member then shareOf (memberShares s.rsv.members s.rsv.origin s.rsv.dActive) s.ownBay else 0
  shareSum := ((memberShares s.rsv.members s.rsv.origin s.rsv.dActive).map MemberShare.share).sum
  shortfall := decide (s.rsv.pledgeSum < s.rsv.dActive) }

theorem computeShares_eq (s : State) (taking : Bool) : s.computeShares taking =
    (if decide (s.rsv.pledgeSum < s.rsv.dActive) && (taking || !s.rsv.shortfall) then (s.setRsv (sharedRsv s)).raise .shortfall
     else s.setRsv (sharedRsv s)).follow := rfl

theorem computeShares_rsv (s : State) (taking : Bool) : (s.computeShares taking).rsv = sharedRsv s :=
  State.computeShares_rsv s taking

theorem computeShares_stg (s : State) (taking : Bool) : (s.computeShares taking).stg =
    { s.stg with applied := (s.computeShares taking).setpointFrom s.stg.applied } := by
  rw [computeShares_eq]
  split
  · rw [StageLine.setpointFrom_follow]
    rfl
  · rw [StageLine.setpointFrom_follow]
    rfl

theorem computeShares_shortfall {s : State} {taking : Bool} (hshort : s.rsv.pledgeSum < s.rsv.dActive)
    (hnew : taking = true ∨ s.rsv.shortfall = false) : (s.computeShares taking).flagged .shortfall = true := by
  have hraises : (decide (s.rsv.pledgeSum < s.rsv.dActive) && (taking || !s.rsv.shortfall)) = true := by
    rw [decide_eq_true hshort]
    obtain h | h := hnew <;> simp [h]
  rw [computeShares_eq, if_pos hraises]
  change ((s.setRsv (sharedRsv s)).raise .shortfall).flagged .shortfall = true
  rw [State.raise_flagged]
  rfl

theorem computeShares_frame (s : State) (taking : Bool) : s.computeShares taking = { s with
    rsv := (s.computeShares taking).rsv, stg := (s.computeShares taking).stg, prt := (s.computeShares taking).prt } := by
  ext1 <;> first | rfl | simp

/-! ## A changed demand (R126, R127) -/

section Change

variable {s : State} {b d : Nat}

/-- The state in which a changed demand is captured. -/
def demanded (s : State) (d : Nat) : State := (s.setRsv { s.rsv with dActive := d }).computeShares false

theorem changeDemand_eq : s.changeDemand b d = (demanded s d).captureNat .eventChanged b := rfl

theorem demanded_frame (s : State) (d : Nat) : demanded s d =
    { s with rsv := (demanded s d).rsv, stg := (demanded s d).stg, prt := (demanded s d).prt } :=
  computeShares_frame (s.setRsv { s.rsv with dActive := d }) false

theorem changeDemand_setpointFrom (x : Int) : (s.changeDemand b d).setpointFrom x = (demanded s d).setpointFrom x :=
  StageLine.setpointFrom_congr (by simp [changeDemand_eq]) (State.bounds_congr (by simp [changeDemand_eq]) (by simp [changeDemand_eq])
    (by simp [changeDemand_eq, State.isClaiming]) (by simp [changeDemand_eq]) (by simp [changeDemand_eq]) (by simp [changeDemand_eq])
    (by simp [changeDemand_eq]) (by simp [changeDemand_eq]) (by simp [changeDemand_eq]) (by simp [changeDemand_eq])) x

theorem changeDemand_rsv : (s.changeDemand b d).rsv = sharedRsv (s.setRsv { s.rsv with dActive := d }) := by
  have hkept : (s.changeDemand b d).rsv = (demanded s d).rsv := by simp [changeDemand_eq]
  rw [hkept]
  exact computeShares_rsv _ _

theorem changeDemand_stg : (s.changeDemand b d).stg = { s.stg with applied := (s.changeDemand b d).setpointFrom s.stg.applied } := by
  have hkept : (s.changeDemand b d).stg = (demanded s d).stg := by simp [changeDemand_eq]
  rw [hkept, changeDemand_setpointFrom]
  exact computeShares_stg _ _

theorem changeDemand_counter (hlength : s.log.counters.length = 24) :
    (s.changeDemand b d).counter .eventChanged = min 63 (s.counter .eventChanged + 1) := by
  have hlog : (demanded s d).log = s.log := by rw [demanded_frame]
  rw [changeDemand_eq, State.captureNat_counter _ _ _ _ (by rw [hlog, hlength]), if_pos rfl, State.counter_congr (s := s) (by rw [hlog])]

theorem changeDemand_shortfall (hshort : s.rsv.pledgeSum < d) (hnew : s.rsv.shortfall = false) :
    (s.changeDemand b d).flagged .shortfall = true := by
  have hset : (demanded s d).flagged .shortfall = true := computeShares_shortfall (by exact hshort) (.inr hnew)
  rw [changeDemand_eq]
  exact (capture_flagged_other _ _ _ _ (by decide)).trans hset

theorem changeDemand_captured {r : State} (hr : r.log = s.log) :
    CapturedAlone r (s.changeDemand b d) .eventChanged (BitVec.ofNat 32 b) none := by
  have hframe := demanded_frame s d
  refine Captures.capturedAlone_of_capture (u := demanded s d) (by rw [hframe]; exact hr.symm) rfl
    (Captures.record_congr (by rw [hframe]; simp [hr]) ?_ ?_ ?_ ?_ ?_ _ _ _)
  all_goals simp [changeDemand_eq]

end Change

/-! ## The judgement of an EVENT frame -/

theorem exec_eventFrame {s : State} {b q d n : Nat} (h : s.Delivers b) (hn : n ≤ 3600) :
    exec (.eventFrame b b q d n) s = .next (s.judgeEvent b q d n) := by
  have hok : eventFieldsOk b b n = true := by
    obtain ⟨-, hlow, hhigh, -⟩ := h
    simp [eventFieldsOk, within, hlow, hhigh, hn]
  have hexec : exec (.eventFrame b b q d n) s =
      .next (s.takeFrame b (eventFieldsOk b b n) fun t => t.judgeEvent b q d n) := rfl
  rw [hexec, FrameChecks.takeFrame_delivers h, if_pos hok]

section Judge

variable {s : State} {b q d n : Nat}

theorem judgeEvent_idle (h : s.rsv.active = false) : s.judgeEvent b q d n = if 0 < d then s.takeEvent b q d n else s := by
  unfold State.judgeEvent
  rw [h]
  rfl

theorem isNewer_iff {q l : Nat} : isNewer q l = true ↔ 1 ≤ (q + 256 - l) % 256 ∧ (q + 256 - l) % 256 ≤ 127 := decide_eq_true_iff

theorem judgeEvent_holder (h : s.rsv.active = true) (hb : s.rsv.holder = some b) : s.judgeEvent b q d n =
    if isNewer q s.rsv.lastSeq then (if d = 0 then s.endEvent else s.holderUpdate b q d n) else s := by
  unfold State.judgeEvent
  rw [h, if_pos rfl, if_pos hb]

theorem judgeEvent_other (h : s.rsv.active = true) (hb : s.rsv.holder ≠ some b) : s.judgeEvent b q d n =
    if s.rsv.dActive < d then s.takeOver b q d n else s := by
  unfold State.judgeEvent
  rw [h, if_pos rfl, if_neg hb]

end Judge

/-! ## The taking (R123, R124) -/

section Taking

variable {s : State} {b q d n : Nat}

/-- The reserve unit of an event just taken, before its shares. -/
def takenRsv (s : State) (b q d n : Nat) : Rsv := { s.rsv with
  active := true, holder := some b, lastSeq := q, dActive := d, remaining := min n s.eventMaxEpochs, baseline := s.alt.grant
  origin := s.clk.epoch % 64, refresh := if b = s.ownBay then 5 else s.rsv.refresh
  members := s.membersToFreeze, ownPledge := s.pledgeToFreeze
  standing := some (if s.ses.isSome then .member else .outside) }

/-- The state in which a taking is captured. -/
def takenWith (s : State) (b q d n : Nat) : State := ((s.setRsv (takenRsv s b q d n)).computeShares true).altDiscard

theorem takeEvent_eq (s : State) (b q d n : Nat) :
    s.takeEvent b q d n = ((takenWith s b q d n).captureNat .eventTaken b).raise .eventTaken := rfl

theorem takenWith_frame (s : State) (b q d n : Nat) : takenWith s b q d n = { s with
    rsv := (takenWith s b q d n).rsv, alt := { s.alt with discard := s.alt.discard || s.alt.flight.isSome }
    stg := (takenWith s b q d n).stg, prt := (takenWith s b q d n).prt } := by
  unfold takenWith State.altDiscard
  ext1
  case alt => simp
  all_goals first | rfl | simp

theorem takenWith_rsv (s : State) (b q d n : Nat) : (takenWith s b q d n).rsv = sharedRsv (s.setRsv (takenRsv s b q d n)) :=
  computeShares_rsv _ _

theorem takenWith_stg (s : State) (b q d n : Nat) : (takenWith s b q d n).stg =
    { s.stg with applied := (takenWith s b q d n).setpointFrom s.stg.applied } :=
  computeShares_stg (s.setRsv (takenRsv s b q d n)) true

theorem takeEvent_frame (s : State) (b q d n : Nat) : s.takeEvent b q d n =
    { takenWith s b q d n with log := (s.takeEvent b q d n).log, prt := (s.takeEvent b q d n).prt } :=
  StageLine.captureRaise_frame (takenWith s b q d n) _ _ _

theorem takeEvent_rsv (s : State) (b q d n : Nat) : (s.takeEvent b q d n).rsv = sharedRsv (s.setRsv (takenRsv s b q d n)) := by
  rw [takeEvent_frame, ← takenWith_rsv]

theorem takeEvent_stg (s : State) (b q d n : Nat) : (s.takeEvent b q d n).stg =
    { s.stg with applied := (s.takeEvent b q d n).setpointFrom s.stg.applied } := by
  have hset : (s.takeEvent b q d n).setpointFrom s.stg.applied = (takenWith s b q d n).setpointFrom s.stg.applied :=
    StageLine.captureRaise_setpointFrom _ _ _ _ _
  rw [hset, takeEvent_frame]
  exact takenWith_stg s b q d n

theorem takeEvent_shows (hlength : s.log.counters.length = 24) :
    Shows .eventTaken .eventTaken (min 63 (s.counter .eventTaken + 1)) true (s.takeEvent b q d n) := by
  have hlog : (takenWith s b q d n).log = s.log := by rw [takenWith_frame]
  have hshown : Shows .eventTaken .eventTaken (s.counter .eventTaken) ((takenWith s b q d n).flagged .eventTaken) (takenWith s b q d n) :=
    ⟨by rw [hlog, hlength], State.counter_congr (by rw [hlog]) _, rfl⟩
  exact hshown.begins b

theorem takeEvent_shortfall (hshort : (s.membersToFreeze.map Member.pledge).sum < d) :
    (s.takeEvent b q d n).flagged .shortfall = true := by
  have hset : (takenWith s b q d n).flagged .shortfall = true :=
    computeShares_shortfall (s := s.setRsv (takenRsv s b q d n)) (by exact hshort) (.inl rfl)
  rw [takeEvent_eq, State.raise_flagged]
  have hkept := capture_flagged_other (takenWith s b q d n) .eventTaken (BitVec.ofNat 32 b) none (n := .shortfall) (by decide)
  rw [show ((takenWith s b q d n).captureNat .eventTaken b).flagged .shortfall = true from hkept.trans hset, Bool.or_true]

theorem takeEvent_captured : CapturedAlone s (s.takeEvent b q d n) .eventTaken (BitVec.ofNat 32 b) none := by
  have hlog : (takenWith s b q d n).log = s.log := by rw [takenWith_frame]
  refine Captures.capturedAlone_of_capture (u := takenWith s b q d n) hlog rfl
    (Captures.record_congr (by rw [hlog]; rfl) ?_ ?_ ?_ ?_ ?_ _ _ _)
  all_goals simp [takeEvent_eq]

theorem pledgeToFreeze_none (h : s.lnk.station = .listening ∨ s.ses = none ∨ s.prk.query ≠ none) : s.pledgeToFreeze = 0 := by
  unfold State.pledgeToFreeze
  refine if_neg ?_
  simp only [Bool.and_eq_true, not_and, Bool.not_eq_true]
  intro hclaiming
  obtain h | h | h := h
  · simp [State.isClaiming, h] at hclaiming
  · simp [State.isSettled, h]
  · simp [State.isSettled, Option.isSome_iff_ne_none, h]

theorem pledgeToFreeze_claim {m : BuiltClaim} (hm : m ∈ s.lastClaim) (hstation : s.lnk.station = .active ∨ s.lnk.station = .isolated)
    (hses : s.ses ≠ none) (hquery : s.prk.query = none) : s.pledgeToFreeze = m.claim.pledge := by
  have hclaiming := Setpoint.isClaiming_of_station hstation
  have hsettled : s.isSettled = true := by simp [State.isSettled, hquery, Option.isSome_iff_ne_none, hses]
  unfold State.pledgeToFreeze
  rw [hclaiming, hsettled, Option.mem_def.mp hm]
  rfl

end Taking

/-- Settles O49: the taking is the event's figures, the shares over them, and the capture after them. -/
theorem eventFrameTakesAnEvent : Obligations.EventFrameTakesAnEvent := by
  intro b q d n s hdelivers hidle hd hn hlength
  have hother : b ≠ s.ownBay := hdelivers.2.2.2
  have hexec := exec_eventFrame (q := q) (d := d) hdelivers hn
  rw [judgeEvent_idle hidle, if_pos hd] at hexec
  refine ⟨_, hexec, ?_⟩
  have hrsv := takeEvent_rsv s b q d n
  have hownPledge : (s.takeEvent b q d n).rsv.ownPledge = s.pledgeToFreeze := by rw [hrsv]; rfl
  have hmembers : (s.takeEvent b q d n).rsv.members = s.membersToFreeze := by rw [hrsv]; rfl
  have hpledges : (s.takeEvent b q d n).rsv.pledgeSum = (s.membersToFreeze.map Member.pledge).sum := by rw [hrsv]; rfl
  obtain ⟨-, hcounter, hflagged⟩ := takeEvent_shows (b := b) (q := q) (d := d) (n := n) hlength
  have hframe : s.takeEvent b q d n = { s with
      rsv := (s.takeEvent b q d n).rsv, alt := (s.takeEvent b q d n).alt, stg := (s.takeEvent b q d n).stg
      log := (s.takeEvent b q d n).log, prt := (s.takeEvent b q d n).prt } := by
    ext1 <;> first | rfl | simp
  dsimp only
  refine ⟨?_, fun h => hownPledge.trans (pledgeToFreeze_none h),
    fun m hm hstation hses hquery => hownPledge.trans (pledgeToFreeze_claim hm hstation hses hquery), ?_, takeEvent_stg s b q d n,
    hflagged, fun h => takeEvent_shortfall (by rwa [hpledges] at h), hcounter, takeEvent_captured, hframe⟩
  · rw [hmembers, hownPledge, hpledges, hrsv]
    unfold sharedRsv takenRsv
    rw [if_neg hother]
    cases s.ses <;> rfl
  · rw [takeEvent_frame, takenWith_frame]

/-! ## The end of an event (R137) -/

section End

variable {s : State}

/-- The state in which an event's items are cleared. -/
def endedRsv (s : State) : Rsv := { Rsv.reset with
  freq := s.rsv.freq, edgeSeen := s.rsv.edgeSeen, edgeWatch := s.rsv.edgeWatch, senseFault := s.rsv.senseFault
  bands := s.rsv.bands.map fun x => { x with mark := false }, hostDuration := s.rsv.hostDuration
  ownSeq := s.rsv.ownSeq, lastSeq := s.rsv.lastSeq }

/-- The capture of an event's end with its notice. -/
def endNoted (s : State) : State := (s.capture .eventEnded s.responseDetail none).raise .eventEnded

theorem endEvent_eq (s : State) : s.endEvent = ((endNoted s).setRsv (endedRsv (endNoted s))).follow := rfl

theorem endNoted_frame (s : State) : endNoted s = { s with log := (endNoted s).log, prt := (endNoted s).prt } := by
  ext1 <;> first | rfl | simp [endNoted]

theorem endEvent_rsv (s : State) : s.endEvent.rsv = endedRsv s := by
  have hrsv : (endNoted s).rsv = s.rsv := by rw [endNoted_frame]
  have hended : s.endEvent.rsv = endedRsv (endNoted s) := rfl
  rw [hended, endedRsv, hrsv]
  rfl

theorem endEvent_stg (s : State) : s.endEvent.stg = { s.stg with applied := s.endEvent.setpointFrom s.stg.applied } := by
  have hstg : (endNoted s).stg = s.stg := by rw [endNoted_frame]
  rw [endEvent_eq, StageLine.setpointFrom_follow, ← hstg]
  rfl

theorem endEvent_frame (s : State) : s.endEvent = { s with
    rsv := s.endEvent.rsv, stg := s.endEvent.stg, log := s.endEvent.log, prt := s.endEvent.prt } := by
  ext1 <;> first | rfl | simp

theorem endEvent_log (s : State) : s.endEvent.log = (s.capture .eventEnded s.responseDetail none).log := rfl

theorem endEvent_flagged (s : State) : s.endEvent.flagged .eventEnded = true := by
  have hflagged : s.endEvent.flagged .eventEnded = (endNoted s).flagged .eventEnded := rfl
  rw [hflagged, endNoted, State.raise_flagged]
  rfl

theorem endEvent_counter (hlength : s.log.counters.length = 24) :
    s.endEvent.counter .eventEnded = min 63 (s.counter .eventEnded + 1) := by
  have hcounter : s.endEvent.counter .eventEnded = (s.capture .eventEnded s.responseDetail none).counter .eventEnded := rfl
  rw [hcounter, State.capture_counter _ _ _ _ _ hlength, if_pos rfl]

end End

/-- Settles O50: the judgement by holder, sequence and demand, each outcome with its own law. -/
theorem eventFramesDuringAnEvent : Obligations.EventFramesDuringAnEvent := by
  intro b q d n h s hdelivers hactive hholder hn newer shares shared changes
  have hexec := exec_eventFrame (q := q) (d := d) hdelivers hn
  have hchanges (u : State) (hu : u = s.setRsv u.rsv) (hpledges : u.rsv.pledgeSum = s.rsv.pledgeSum)
      (hshort : u.rsv.shortfall = s.rsv.shortfall) : changes (u.changeDemand b d) := by
    have hlog : u.log = s.log := by rw [hu]; rfl
    refine ⟨fun hlength => ?_, changeDemand_captured hlog.symm, fun hlt hnone => ?_, ?_⟩
    · rw [changeDemand_counter (by rw [hlog, hlength]), State.counter_congr (s := s) (by rw [hlog])]
    · exact changeDemand_shortfall (by rwa [hpledges]) (by rwa [hshort])
    · have hstg : u.stg = s.stg := by rw [hu]; rfl
      have hchanged := changeDemand_stg (s := u) (b := b) (d := d)
      rw [hstg] at hchanged
      rw [← hchanged]
      ext1 <;> first | rfl | (simp; rw [hu]; rfl)
  refine ⟨fun hb hnewer hd => ?_, fun hb hnewer hd => ?_, fun hb hd => ?_, fun hquiet => ?_⟩
  · subst hb
    rw [judgeEvent_holder hactive hholder, if_pos (isNewer_iff.mpr hnewer), if_neg hd.ne'] at hexec
    refine ⟨_, hexec, fun heq => ?_, fun hne => ?_⟩
    · rw [State.holderUpdate, if_pos heq]
      rfl
    · rw [State.holderUpdate, if_neg hne]
      exact ⟨changeDemand_rsv, hchanges _ rfl rfl rfl⟩
  · subst hb hd
    rw [judgeEvent_holder hactive hholder, if_pos (isNewer_iff.mpr hnewer), if_pos rfl] at hexec
    refine ⟨_, hexec, endEvent_rsv s, endEvent_flagged s, endEvent_counter, endEvent_log s, ?_⟩
    have hframe := endEvent_frame s
    rwa [endEvent_stg] at hframe
  · have hne : s.rsv.holder ≠ some b := by rw [hholder]; exact fun heq => hb (Option.some_inj.mp heq).symm
    rw [judgeEvent_other hactive hne, if_pos hd] at hexec
    exact ⟨_, hexec, changeDemand_rsv, hchanges _ rfl rfl rfl⟩
  · rw [Idle, hexec]
    obtain ⟨rfl, hold⟩ | ⟨hb, hle⟩ := hquiet
    · rw [judgeEvent_holder hactive hholder, if_neg (fun hnewer => hold (isNewer_iff.mp hnewer))]
    · have hne : s.rsv.holder ≠ some b := by rw [hholder]; exact fun heq => hb (Option.some_inj.mp heq).symm
      rw [judgeEvent_other hactive hne, if_neg (by omega)]

end Sys2Proof.Proofs.Events
end

section
/-!
Own EVENT frames (R119, R121): the sequence number that they take, that they are held to be sent, and how the station judges its
own frame.
-/
namespace Sys2Proof.Proofs.OwnEvents

open Sys2Proof Sys2Proof.Machine Sys2Proof.Proofs.Events

variable {s : State} {o q d r : Nat}

/-- The state in which an own frame is judged: its number taken, the refresh countdown at 5, the frame queued. -/
def numbered (s : State) (d r : Nat) : State :=
  (s.setRsv { s.rsv with ownSeq := (s.rsv.ownSeq + 1) % 256, refresh := 5 }).enqueue (.event ((s.rsv.ownSeq + 1) % 256) d r)

theorem sendEvent_eq (s : State) (d r : Nat) :
    s.sendEvent d r = (numbered s d r).judgeEvent s.ownBay ((s.rsv.ownSeq + 1) % 256) d r := rfl

theorem numbered_rsv (s : State) (d r : Nat) :
    (numbered s d r).rsv = { s.rsv with ownSeq := (s.rsv.ownSeq + 1) % 256, refresh := 5 } := by
  simp [numbered]

theorem sendEvent_ownSeq (s : State) (d r : Nat) : (s.sendEvent d r).rsv.ownSeq = (s.rsv.ownSeq + 1) % 256 := by
  rw [sendEvent_eq, (State.judgeEvent_keeps _ _ _ _ _).2.2.2.2.2.1, numbered_rsv]

theorem sendEvent_holds (h : s.lnk.station ≠ .unconfigured) :
    (s.sendEvent d r).Holds (.event ((s.rsv.ownSeq + 1) % 256) d r) := by
  have hlnk : (s.sendEvent d r).lnk = (numbered s d r).lnk := by
    rw [sendEvent_eq]
    simp
  have hheld : (numbered s d r).Holds (.event ((s.rsv.ownSeq + 1) % 256) d r) := State.enqueue_holds _ _ h
  unfold State.Holds at hheld ⊢
  rw [hlnk]
  exact hheld

theorem changeDemand_kept (s : State) (o d : Nat) : (s.changeDemand o d).rsv.active = s.rsv.active ∧
    (s.changeDemand o d).rsv.hostDemand = s.rsv.hostDemand := by
  rw [changeDemand_rsv]
  exact ⟨rfl, rfl⟩

/-- A frame of a demand above 0 leaves an event in progress, and the host demand. -/
theorem judgeEvent_of_pos (hd : 0 < d) : (s.judgeEvent o q d r).rsv.active = true ∧
    (s.judgeEvent o q d r).rsv.hostDemand = s.rsv.hostDemand := by
  cases hactive : s.rsv.active with
  | false =>
    rw [judgeEvent_idle hactive, if_pos hd, takeEvent_rsv]
    exact ⟨rfl, rfl⟩
  | true =>
    by_cases hholder : s.rsv.holder = some o
    · rw [judgeEvent_holder hactive hholder, if_neg hd.ne']
      split
      · unfold State.holderUpdate
        dsimp only
        split
        · exact ⟨hactive, rfl⟩
        · obtain ⟨hkept, hhost⟩ := changeDemand_kept (s.setRsv { s.rsv with lastSeq := q, remaining := r }) o d
          exact ⟨hkept.trans hactive, hhost⟩
      · exact ⟨hactive, rfl⟩
    · rw [judgeEvent_other hactive hholder]
      split
      · unfold State.takeOver
        obtain ⟨hkept, hhost⟩ := changeDemand_kept
          (s.setRsv { s.rsv with holder := some o, lastSeq := q, remaining := max s.rsv.remaining r }) o d
        exact ⟨hkept.trans hactive, hhost⟩
      · exact ⟨hactive, rfl⟩

theorem sendEvent_of_pos (hd : 0 < d) : (s.sendEvent d r).rsv.active = true ∧
    (s.sendEvent d r).rsv.hostDemand = s.rsv.hostDemand := by
  obtain ⟨hactive, hhost⟩ := judgeEvent_of_pos (s := numbered s d r) (o := s.ownBay) (q := (s.rsv.ownSeq + 1) % 256) (r := r) hd
  rw [numbered_rsv] at hhost
  exact ⟨hactive, hhost⟩

/-- An own frame while IDLE is an event of the own bay. -/
theorem sendEvent_takes (hidle : s.rsv.active = false) (hd : 0 < d) :
    (s.sendEvent d r).rsv.holder = some s.ownBay ∧ (s.sendEvent d r).rsv.dActive = d ∧ (s.sendEvent d r).rsv.refresh = 5 ∧
      (s.sendEvent d r).rsv.remaining = min r s.eventMaxEpochs ∧ (s.sendEvent d r).rsv.baseline = s.alt.grant := by
  have hnumbered : (numbered s d r).rsv.active = false := by rw [numbered_rsv]; exact hidle
  have hcfg : (numbered s d r).cfg = s.cfg := by simp [numbered]
  have halt : (numbered s d r).alt = s.alt := by simp [numbered]
  have hown : s.ownBay = (numbered s d r).ownBay := by rw [State.ownBay, State.ownBay, hcfg]
  have htaken : (s.sendEvent d r).rsv =
      sharedRsv ((numbered s d r).setRsv (takenRsv (numbered s d r) s.ownBay ((s.rsv.ownSeq + 1) % 256) d r)) := by
    rw [sendEvent_eq, judgeEvent_idle hnumbered, if_pos hd, takeEvent_rsv]
  rw [htaken]
  refine ⟨rfl, rfl, if_pos hown, ?_, congrArg Alt.grant halt⟩
  change min r (numbered s d r).eventMaxEpochs = min r s.eventMaxEpochs
  rw [State.eventMaxEpochs, State.eventMaxEpochs, hcfg]

/-- The own frame of demand 0 ends the event that the own bay holds. -/
theorem sendEvent_releases (hactive : s.rsv.active = true) (hholder : s.rsv.holder = some s.ownBay)
    (hseq : s.rsv.ownSeq < 256) (hlast : s.rsv.lastSeq = s.rsv.ownSeq) :
    (s.sendEvent 0 r).rsv.active = false ∧ (s.sendEvent 0 r).rsv.hostDemand = 0 ∧
      (s.sendEvent 0 r).rsv.hostDuration = s.rsv.hostDuration := by
  have hrsv := numbered_rsv s 0 r
  have hnewer : isNewer ((s.rsv.ownSeq + 1) % 256) (numbered s 0 r).rsv.lastSeq = true := by
    rw [hrsv, hlast]
    exact isNewer_next _ hseq
  have hended : s.sendEvent 0 r = (numbered s 0 r).endEvent := by
    rw [sendEvent_eq, judgeEvent_holder (by rw [hrsv]; exact hactive) (by rw [hrsv]; exact hholder), if_pos hnewer, if_pos rfl]
  rw [hended, Events.endEvent_rsv, endedRsv, hrsv]
  exact ⟨rfl, rfl, rfl⟩

end Sys2Proof.Proofs.OwnEvents
end

section
/-!
DISPATCH (R118, R119): the host demand that it sets, and the own EVENT frame where the self demand counts as changed (O53).
-/
namespace Sys2Proof.Proofs.Dispatch

open Sys2Proof Sys2Proof.Machine Sys2Proof.Proofs.OwnEvents

section Demand

variable {s : State} {d m : Nat} {c : ConfigRecord}

/-- The duration of a demand above 0 (R118). -/
def span (c : ConfigRecord) (m : Nat) : Nat := if m = 0 ∨ c.eventMax < m then c.eventMax * 30 else m * 30

/-- The reserve unit with the host demand set. -/
def hosted (s : State) (c : ConfigRecord) (d m : Nat) : State := s.setRsv { s.rsv with
  hostDemand := min d c.commitment
  hostDuration := if 0 < min d c.commitment then span c m else s.rsv.hostDuration }

theorem setHostDemand_eq (hc : s.cfg = some c) : s.setHostDemand d m = hosted s c d m := by
  have hcommitment : s.commitment = c.commitment := by simp [State.commitment, hc]
  have hmax : s.eventMaxEpochs = c.eventMax * 30 := by simp [State.eventMaxEpochs, hc]
  have hspan : s.dispatchEpochs m = span c m := by
    have hlt : c.eventMax * 30 < m * 30 ↔ c.eventMax < m := by omega
    rw [State.dispatchEpochs, hmax, span]
    simp only [hlt]
  unfold State.setHostDemand hosted
  rw [hcommitment, hspan]
  by_cases hzero : min d c.commitment = 0
  · rw [if_pos hzero, hzero]
    rfl
  · rw [if_neg hzero, if_pos (Nat.pos_of_ne_zero hzero)]

theorem hosted_bandDemand (s : State) (c : ConfigRecord) (d m : Nat) : (hosted s c d m).bandDemand = s.bandDemand := rfl

/-- Whether a DISPATCH counts as a change of the self demand (R118, R119). -/
def Counts (s : State) (host : Nat) : Prop := (0 < host ∧ s.bandDemand ≤ host) ∨ host ≠ s.rsv.hostDemand

theorem dispatchCounts_iff : dispatchCounts s (hosted s c d m) = true ↔ Counts s (min d c.commitment) := by
  have hhost : (hosted s c d m).rsv.hostDemand = min d c.commitment := rfl
  unfold dispatchCounts demandChanged Counts
  rw [hosted_bandDemand, hhost]
  simp

theorem dispatchDemand_counts (hc : s.cfg = some c) (h : Counts s (min d c.commitment)) : s.dispatchDemand d m =
    (hosted s c d m).sendEvent (max (min d c.commitment) s.bandDemand) (hosted s c d m).ownRemaining := by
  unfold State.dispatchDemand
  rw [setHostDemand_eq hc]
  exact if_pos (dispatchCounts_iff.mpr h)

theorem dispatchDemand_same (hc : s.cfg = some c) (h : ¬Counts s (min d c.commitment)) : s.dispatchDemand d m =
    s.setRsv { s.rsv with hostDuration := if 0 < min d c.commitment then span c m else s.rsv.hostDuration } := by
  have hsame : min d c.commitment = s.rsv.hostDemand := not_not.mp fun hne => h (.inr hne)
  unfold State.dispatchDemand
  rw [setHostDemand_eq hc, if_neg (fun hcounts => h (dispatchCounts_iff.mp hcounts)), hosted, hsame]

theorem ownRemaining_host (hhost : 0 < min d c.commitment) (hband : s.bandDemand ≤ min d c.commitment) :
    (hosted s c d m).ownRemaining = span c m := by
  have hself : ¬(hosted s c d m).selfDemand = 0 := by
    change ¬max (min d c.commitment) s.bandDemand = 0
    omega
  rw [State.ownRemaining, if_neg hself, hosted_bandDemand]
  exact (if_pos hband).trans (if_pos hhost)

theorem ownRemaining_band (hc : s.cfg = some c) (hband : min d c.commitment < s.bandDemand) :
    (hosted s c d m).ownRemaining = c.eventMax * 30 := by
  have hself : ¬(hosted s c d m).selfDemand = 0 := by
    change ¬max (min d c.commitment) s.bandDemand = 0
    omega
  have hmax : (hosted s c d m).eventMaxEpochs = c.eventMax * 30 := by
    change s.eventMaxEpochs = _
    simp [State.eventMaxEpochs, hc]
  rw [State.ownRemaining, if_neg hself, hosted_bandDemand, ← hmax]
  exact if_neg (not_le.mpr hband)

theorem ownRemaining_none (hhost : min d c.commitment = 0) (hband : s.bandDemand = 0) : (hosted s c d m).ownRemaining = 0 := by
  have hself : (hosted s c d m).selfDemand = 0 := by
    change max (min d c.commitment) s.bandDemand = 0
    omega
  rw [State.ownRemaining, if_pos hself]

/-! ## What an accepted DISPATCH leaves -/

theorem dispatch_host (hs : s.lnk.station ≠ .unconfigured) (hc : s.cfg = some c) (hhost : 0 < min d c.commitment)
    (hband : s.bandDemand ≤ min d c.commitment) :
    let t := s.dispatchDemand d m
    t.rsv.hostDemand = min d c.commitment ∧ t.rsv.hostDuration = span c m ∧ t.rsv.ownSeq = (s.rsv.ownSeq + 1) % 256 ∧
      t.rsv.active = true ∧ t.Holds (.event ((s.rsv.ownSeq + 1) % 256) (min d c.commitment) (span c m)) ∧
      (s.rsv.active = false → t.rsv.holder = some c.bayId ∧ t.rsv.dActive = min d c.commitment ∧ t.rsv.refresh = 5 ∧
        t.rsv.remaining = min (span c m) (c.eventMax * 30) ∧ t.rsv.baseline = s.alt.grant) := by
  have hcounts : Counts s (min d c.commitment) := .inl ⟨hhost, hband⟩
  have hsent := dispatchDemand_counts (m := m) hc hcounts
  rw [ownRemaining_host hhost hband, max_eq_left hband] at hsent
  dsimp only
  rw [hsent]
  obtain ⟨hactive, hkept⟩ := sendEvent_of_pos (s := hosted s c d m) (r := span c m) hhost
  have hduration : ((hosted s c d m).sendEvent (min d c.commitment) (span c m)).rsv.hostDuration = span c m := by
    have hframe : ((hosted s c d m).sendEvent (min d c.commitment) (span c m)).rsv.hostDuration = (hosted s c d m).rsv.hostDuration := by
      simp
    exact hframe.trans (if_pos hhost)
  refine ⟨hkept, hduration, sendEvent_ownSeq _ _ _, hactive, sendEvent_holds hs, fun hidle => ?_⟩
  have hown : (hosted s c d m).ownBay = c.bayId := by
    change s.ownBay = _
    simp [State.ownBay, hc]
  have hmax : (hosted s c d m).eventMaxEpochs = c.eventMax * 30 := by
    change s.eventMaxEpochs = _
    simp [State.eventMaxEpochs, hc]
  have htaken := sendEvent_takes (s := hosted s c d m) (r := span c m) hidle hhost
  rwa [hown, hmax] at htaken

theorem dispatch_counts (hs : s.lnk.station ≠ .unconfigured) (hc : s.cfg = some c) (hcounts : Counts s (min d c.commitment)) :
    let t := s.dispatchDemand d m
    t.rsv.ownSeq = (s.rsv.ownSeq + 1) % 256 ∧
      (0 < s.bandDemand → min d c.commitment < s.bandDemand →
        t.Holds (.event ((s.rsv.ownSeq + 1) % 256) s.bandDemand (c.eventMax * 30)) ∧ t.rsv.hostDemand = min d c.commitment) := by
  have hsent := dispatchDemand_counts (m := m) hc hcounts
  dsimp only
  refine ⟨by rw [hsent]; exact sendEvent_ownSeq _ _ _, fun hband hless => ?_⟩
  rw [ownRemaining_band hc hless, max_eq_right hless.le] at hsent
  rw [hsent]
  exact ⟨sendEvent_holds hs, (sendEvent_of_pos hband).2⟩

theorem dispatch_releases (hs : s.lnk.station ≠ .unconfigured) (hc : s.cfg = some c) (hhost : min d c.commitment = 0)
    (hold : 0 < s.rsv.hostDemand) (hband : s.bandDemand = 0) (hok : s.ReserveOk) (hactive : s.rsv.active = true)
    (hholder : s.rsv.holder = some c.bayId) :
    let t := s.dispatchDemand d m
    t.rsv.active = false ∧ t.rsv.hostDemand = 0 ∧ t.rsv.hostDuration = s.rsv.hostDuration ∧
      t.Holds (.event ((s.rsv.ownSeq + 1) % 256) 0 0) := by
  have hsent := dispatchDemand_counts (m := m) (d := d) hc (.inr (by omega))
  rw [ownRemaining_none hhost hband, hhost, hband] at hsent
  dsimp only
  rw [hsent]
  obtain ⟨hseq, hrest⟩ := hok
  rw [if_pos hactive] at hrest
  obtain ⟨-, -, -, -, -, hlast⟩ := hrest
  have hown : s.ownBay = c.bayId := by simp [State.ownBay, hc]
  rw [← hown] at hholder
  obtain ⟨hended, hzero, hduration⟩ := sendEvent_releases (s := hosted s c d m) (r := 0) hactive hholder hseq (hlast hholder)
  refine ⟨hended, hzero, hduration.trans (if_neg (by omega)), sendEvent_holds hs⟩

end Demand

/-- Settles O53: the host demand stands, and the self demand counts as changed by either of its two tests. -/
theorem dispatchSetsTheHostDemand : Obligations.DispatchSetsTheHostDemand := by
  intro d m c s hs hc
  have hstate : s.isConfigured = true := by simp [State.isConfigured, hs]
  have hexec : exec (.dispatch d m) s = .next (s.command 7 true none (fun t => t.dispatchDemand d m)
      fun t => u16 t.rsv.hostDemand ++ u16 t.rsv.hostDuration) := by
    simp only [exec, execDispatch, hstate]
  refine Port.answers_of_taken hexec ?_
  have hanswer : (s.counted.dispatchDemand d m).prt.answer = nextAnswer s.prt.answer := by simp
  dsimp only
  refine ⟨fun hhost hband => dispatch_host (s := s.counted) hs hc hhost hband, fun hcounts => dispatch_counts (s := s.counted) hs hc hcounts,
    fun hcounts => ?_, fun hhost hold hband hok hactive hholder =>
      dispatch_releases (s := s.counted) hs hc hhost hold hband hok hactive hholder, Port.responds_answerWith _ _ hanswer, ?_⟩
  · rw [dispatchDemand_same (s := s.counted) hc hcounts]
    rfl
  · refine ⟨?_, ?_, ?_, ?_, ?_, ?_, ?_, ?_, ?_, ?_, ?_⟩ <;> simp [State.answerWith, State.counted]

end Sys2Proof.Proofs.Dispatch
end

section
/-!
Band monitors (R115 to R117, R119): the band demand, the step of a monitor, and what a tick event leaves of the monitors (O48).
-/
namespace Sys2Proof.Proofs.Bands

open Sys2Proof Sys2Proof.Machine

/-! ## The band demand (R117) -/

theorem foldl_max_spec (ps : List (BandCfg × Band)) (a : Nat) :
    let m := ps.foldl (fun m p => if p.2.mark then max m p.1.response else m) a
    a ≤ m ∧ (∀ p ∈ ps, p.2.mark = true → p.1.response ≤ m) ∧ (m = a ∨ ∃ p ∈ ps, p.2.mark = true ∧ m = p.1.response) := by
  induction ps generalizing a with
  | nil => simp
  | cons p ps ih =>
    rw [List.foldl_cons]
    obtain ⟨hle, hall, hcase⟩ := ih (if p.2.mark then max a p.1.response else a)
    dsimp only at hle hall hcase ⊢
    generalize ps.foldl (fun m p => if p.2.mark then max m p.1.response else m) (if p.2.mark then max a p.1.response else a) = m at *
    by_cases hmark : p.2.mark = true
    · rw [if_pos hmark] at hle hcase
      refine ⟨by omega, List.forall_mem_cons.mpr ⟨fun _ => by omega, hall⟩, ?_⟩
      obtain heq | ⟨x, hx, hxmark, hxm⟩ := hcase
      · by_cases hlt : a ≤ p.1.response
        · exact .inr ⟨p, List.mem_cons_self, hmark, by omega⟩
        · exact .inl (by omega)
      · exact .inr ⟨x, List.mem_cons_of_mem _ hx, hxmark, hxm⟩
    · rw [if_neg hmark] at hle hcase
      refine ⟨hle, List.forall_mem_cons.mpr ⟨fun h => absurd h hmark, hall⟩, hcase.imp_right ?_⟩
      rintro ⟨x, hx, hxmark, hxm⟩
      exact ⟨x, List.mem_cons_of_mem _ hx, hxmark, hxm⟩

theorem bandDemand_spec {s : State} {c : ConfigRecord} (hc : s.cfg = some c) : ∃ m, s.bandDemand = c.commitment * m / 100 ∧
    (m = 0 ∨ ∃ (i : Nat) (k : BandCfg) (b : Band), c.bands[i]? = some k ∧ s.rsv.bands[i]? = some b ∧ b.mark = true ∧
      m = k.response) ∧
    ∀ (i : Nat) (k : BandCfg) (b : Band), c.bands[i]? = some k → s.rsv.bands[i]? = some b → b.mark = true → k.response ≤ m := by
  obtain ⟨-, hall, hcase⟩ := foldl_max_spec (c.bands.zip s.rsv.bands) 0
  refine ⟨_, ?_, hcase.imp_right ?_, fun i k b hk hb hmark => hall (k, b) ?_ hmark⟩
  · unfold State.bandDemand
    rw [hc]
  · rintro ⟨p, hp, hmark, hm⟩
    obtain ⟨i, hi⟩ := List.mem_iff_getElem?.mp hp
    obtain ⟨hk, hb⟩ := List.getElem?_zip_eq_some.mp hi
    exact ⟨i, p.1, p.2, hk, hb, hmark, hm⟩
  · exact List.mem_iff_getElem?.mpr ⟨i, List.getElem?_zip_eq_some.mpr ⟨hk, hb⟩⟩

/-! ## A step of the monitors (R115) -/

section Step

variable {s : State} {b : Band} {k : BandCfg} {f : Nat}

theorem step_inside (h : k.low ≤ f ∧ f ≤ k.high) : b.step k f = match b.phase with
    | .out => { b with phase := .dwell, count := 0 }
    | .dwell =>
      if b.count + 1 < k.dwell then { b with count := b.count + 1 } else { phase := .triggered, count := 0, mark := true }
    | .triggered => b
    | .recover => { b with phase := .triggered, count := 0 } := by
  unfold Band.step
  rw [decide_eq_true h]
  cases b.phase <;> rfl

theorem step_outside (h : ¬(k.low ≤ f ∧ f ≤ k.high)) : b.step k f = match b.phase with
    | .out => b
    | .dwell => { b with phase := .out, count := 0 }
    | .triggered => { b with phase := .recover, count := 0 }
    | .recover => if b.count + 1 < k.recovery then { b with count := b.count + 1 } else { phase := .out, count := 0, mark := false } := by
  unfold Band.step
  rw [decide_eq_false h]
  cases b.phase <;> rfl

/-- The table of R115, row by row, of a monitor after its step with its mark or without it. -/
theorem step_rows (x : Band) (hphase : x.phase = (b.step k f).phase) (hcount : x.count = (b.step k f).count)
    (hmark : x.mark = true → (b.step k f).mark = true) : (x.mark = true → b.mark = true ∨ b.phase = .dwell) ∧
    (b.phase = .out → x.phase = (if k.low ≤ f ∧ f ≤ k.high then .dwell else .out)) ∧
    (b.phase = .out → k.low ≤ f → f ≤ k.high → x.count = 0) ∧
    (b.phase = .dwell → ¬(k.low ≤ f ∧ f ≤ k.high) → x.phase = .out ∧ x.count = 0) ∧
    (b.phase = .dwell → k.low ≤ f → f ≤ k.high → b.count + 1 < k.dwell → x.phase = .dwell ∧ x.count = b.count + 1) ∧
    (b.phase = .triggered → x.phase = (if k.low ≤ f ∧ f ≤ k.high then .triggered else .recover)) ∧
    (b.phase = .triggered → f < k.low ∨ k.high < f → x.count = 0) ∧
    (b.phase = .recover → k.low ≤ f → f ≤ k.high → x.phase = .triggered) ∧
    (b.phase = .recover → f < k.low ∨ k.high < f → b.count + 1 < k.recovery → x.phase = .recover ∧ x.count = b.count + 1) := by
  by_cases hin : k.low ≤ f ∧ f ≤ k.high
  · have hnot : ¬(f < k.low ∨ k.high < f) := by omega
    rw [step_inside hin] at hphase hcount hmark
    cases hb : b.phase <;> simp only [hb] at hphase hcount hmark <;> simp [hin, hnot, hphase, hcount]
    case dwell => intro hlt; simp [hlt]
    case out | triggered | recover => exact hmark
  · have hnot (hl : k.low ≤ f) : ¬f ≤ k.high := fun hh => hin ⟨hl, hh⟩
    rw [step_outside hin] at hphase hcount hmark
    cases hb : b.phase <;> simp only [hb] at hphase hcount hmark <;> simp [hin, hphase, hcount]
    case out => exact ⟨hmark, fun hl hh => absurd ⟨hl, hh⟩ hin⟩
    case dwell => exact fun hl hh => absurd ⟨hl, hh⟩ hin
    case triggered => exact hmark
    case recover =>
      refine ⟨fun hx => ?_, fun hl hh => absurd ⟨hl, hh⟩ hin, fun _ hlt => ?_⟩
      · have hstays := hmark hx
        split at hstays
        · exact hstays
        · cases hstays
      · rw [if_pos hlt]
        exact ⟨rfl, rfl⟩

end Step

section Stepped

variable {s : State} {c : ConfigRecord} {f i : Nat} {b : Band} {k : BandCfg}

theorem steppedBands_held (h : s.rsv.senseFault = true ∨ s.rsv.freq = none ∨ s.cfg = none) : s.steppedBands = s.rsv.bands := by
  unfold State.steppedBands
  split
  · obtain h | h | h := h
    · rw [if_pos h]
    · simp_all
    · simp_all
  · rfl

theorem steppedBands_getElem (hc : s.cfg = some c) (hf : s.rsv.freq = some f) (hfault : s.rsv.senseFault = false)
    (hk : c.bands[i]? = some k) (hb : s.rsv.bands[i]? = some b) :
    s.steppedBands[i]? = some (if k.enabled = 1 then b.step k f else b) := by
  have hpair : (c.bands.zip s.rsv.bands)[i]? = some (k, b) := List.getElem?_zip_eq_some.mpr ⟨hk, hb⟩
  unfold State.steppedBands
  rw [hc, hf]
  dsimp only
  rw [hfault, if_neg Bool.false_ne_true, List.getElem?_map, hpair]
  rfl

end Stepped

/-! ## What a tick event leaves of the monitors -/

/-- A monitor without its contributing mark (R137). -/
def unmarked (b : Band) : Band := { b with mark := false }

/-- The monitors of `t` stand as `bands`, or without their marks where an event of `s` has ended. -/
def Stands (bands : List Band) (s t : State) : Prop :=
  t.rsv.bands = bands ∨ (s.rsv.active = true ∧ t.rsv.active = false ∧ t.rsv.bands = bands.map unmarked)

section Kept

variable {s t u : State} {bands : List Band}

theorem Stands.congr (h : Stands bands s t) (hbands : u.rsv.bands = t.rsv.bands) (hactive : u.rsv.active = t.rsv.active) :
    Stands bands s u := by
  unfold Stands at h ⊢
  rwa [hbands, hactive]

theorem stands_changeDemand (s : State) (o d : Nat) : (s.changeDemand o d).rsv.bands = s.rsv.bands := by
  rw [Events.changeDemand_rsv]
  rfl

theorem stands_judgeEvent (s : State) (o q d r : Nat) : Stands s.rsv.bands s (s.judgeEvent o q d r) := by
  cases hactive : s.rsv.active with
  | false =>
    rw [Events.judgeEvent_idle hactive]
    split
    · exact .inl (by rw [Events.takeEvent_rsv]; rfl)
    · exact .inl rfl
  | true =>
    by_cases hholder : s.rsv.holder = some o
    · rw [Events.judgeEvent_holder hactive hholder]
      split
      · split
        · rw [Stands, Events.endEvent_rsv]
          exact .inr ⟨hactive, rfl, rfl⟩
        · unfold State.holderUpdate
          dsimp only
          split
          · exact .inl rfl
          · exact .inl (stands_changeDemand _ _ _)
      · exact .inl rfl
    · rw [Events.judgeEvent_other hactive hholder]
      split
      · exact .inl (stands_changeDemand _ _ _)
      · exact .inl rfl

theorem stands_monitored (s : State) : Stands s.steppedBands s (Losses.monitored s) := by
  unfold Losses.monitored
  dsimp only
  split
  · have hsent := stands_judgeEvent (OwnEvents.numbered (s.setRsv { s.rsv with bands := s.steppedBands })
      (s.setRsv { s.rsv with bands := s.steppedBands }).selfDemand (s.setRsv { s.rsv with bands := s.steppedBands }).ownRemaining)
      s.ownBay ((s.rsv.ownSeq + 1) % 256) (s.setRsv { s.rsv with bands := s.steppedBands }).selfDemand
      (s.setRsv { s.rsv with bands := s.steppedBands }).ownRemaining
    unfold Stands at hsent ⊢
    rw [OwnEvents.numbered_rsv] at hsent
    exact hsent
  · exact .inl rfl

theorem stands_rsvTick (s : State) : Stands s.steppedBands s s.rsvTick := by
  have hwatched := Tick.watchEdges_rsv (Losses.monitored s)
  rw [Losses.rsvTick_eq]
  exact (stands_monitored s).congr (by rw [hwatched]) (by rw [hwatched])

theorem stands_finished (h : Stands bands s t) : Stands bands s (Losses.finished t) := by
  have hrsv : (Losses.finished t).rsv = t.altTick.rsv := rfl
  have htick := Losses.altTick_rsv t
  exact h.congr (by rw [hrsv, htick]) (by rw [hrsv, htick])

theorem stands_tickWork (s : State) : Stands s.steppedBands s s.tickWork := by
  refine Losses.tickWork_cases (stands_finished ?_) (stands_finished ?_)
  · exact (stands_rsvTick s).congr (by simp) (by simp)
  · have hstepped : s.stageTick.steppedBands = s.steppedBands := Tick.steppedBands_congr (by simp) (by simp)
    have hticked := stands_rsvTick s.stageTick
    have hrsv : s.stageTick.rsv = s.rsv := by simp
    unfold Stands at hticked ⊢
    rwa [hstepped, hrsv] at hticked

end Kept

theorem stands_tickEvent {s : State} (h : s.WithinEpoch) : Stands s.steppedBands s s.tickEvent := by
  obtain ⟨c, hevent, -⟩ := Boundary.tickEvent_eq_work h
  rw [hevent]
  exact stands_tickWork (s.setClk c)

theorem tickEvent_bands_held {s : State} (h : s.WithinEpoch)
    (hheld : s.rsv.senseFault = true ∨ s.rsv.freq = none ∨ s.cfg = none) : s.tickEvent.rsv.bands = s.rsv.bands := by
  obtain ⟨c, hevent, -⟩ := Boundary.tickEvent_eq_work h
  have hsteady : (s.setClk c).steppedBands = (s.setClk c).rsv.bands := steppedBands_held hheld
  have hexchanged : (Tick.exchanged (s.setClk c)).rsv.bands = s.rsv.bands := by
    unfold Tick.exchanged
    split
    · have hstage : (s.setClk c).watchEdges.stageTick.rsv = (s.setClk c).watchEdges.rsv := by simp
      rw [hstage, Tick.watchEdges_rsv]
      rfl
    · rw [Tick.watchEdges_rsv]
      simp
  rw [hevent, Tick.tickWork_of_steady hsteady]
  change (Tick.exchanged (s.setClk c)).altTick.rsv.bands = _
  rw [Losses.altTick_rsv]
  exact hexchanged

/-- One monitor after a tick event: stepped, with its mark or, where an event has ended, without. -/
theorem tickEvent_band {s : State} {i : Nat} {y : Band} (h : s.WithinEpoch) (hy : s.steppedBands[i]? = some y) :
    ∃ x, s.tickEvent.rsv.bands[i]? = some x ∧ x.phase = y.phase ∧ x.count = y.count ∧
      (x.mark = y.mark ∨ (s.rsv.active = true ∧ s.tickEvent.rsv.active = false ∧ x.mark = false)) := by
  obtain hbands | ⟨hactive, hended, hbands⟩ := stands_tickEvent h
  · exact ⟨y, by rw [hbands, hy], rfl, rfl, .inl rfl⟩
  · exact ⟨unmarked y, by rw [hbands, List.getElem?_map, hy]; rfl, rfl, rfl, .inr ⟨hactive, hended, rfl⟩⟩

/-- Settles O48: the demand is the largest contributing response, and each row of R115 is one step of a monitor. -/
theorem bandsTriggerAndRecover : Obligations.BandsTriggerAndRecover := by
  refine ⟨fun s => ⟨rfl, fun hc => ?_, fun c hc => bandDemand_spec hc⟩, fun s hwithin => ⟨fun hheld => ?_, ?_⟩⟩
  · unfold State.bandDemand
    rw [hc]
  · exact ⟨_, rfl, tickEvent_bands_held hwithin hheld⟩
  · intro i f b k c hc hf hfault hk hb
    have hstepped := steppedBands_getElem hc hf hfault hk hb
    refine ⟨fun hdisabled => ⟨_, rfl, ?_⟩, fun henabled => ?_⟩
    · rw [if_neg hdisabled] at hstepped
      exact tickEvent_band hwithin hstepped
    · rw [if_pos henabled] at hstepped
      obtain ⟨x, hx, hphase, hcount, hmark⟩ := tickEvent_band hwithin hstepped
      refine ⟨fun hdwell hlow hhigh hdone => ?_, fun hrecover hout hdone => ?_, ⟨_, rfl, x, hx, step_rows x hphase hcount ?_⟩⟩
      · have hstep : b.step k f = { phase := .triggered, count := 0, mark := true } := by
          rw [step_inside ⟨hlow, hhigh⟩, hdwell]
          exact if_neg (by omega)
        rw [hstep] at hstepped hphase hmark
        refine Boundary.answers_of_tickWhere rfl ?_ ⟨Boundary.keptByTick_tickEvent hwithin, x, hx, hphase, ?_⟩
        · rw [Boundary.phaseAt_of_getElem hb, Boundary.phaseAt_of_getElem hstepped, hdwell]
          rfl
        · exact hmark.imp_right fun ⟨hactive, hended, _⟩ => ⟨hactive, hended⟩
      · have hstep : b.step k f = { phase := .out, count := 0, mark := false } := by
          rw [step_outside (by omega), hrecover]
          exact if_neg (by omega)
        rw [hstep] at hstepped hphase hcount hmark
        refine Boundary.answers_of_tickWhere rfl ?_ ⟨Boundary.keptByTick_tickEvent hwithin, ?_⟩
        · rw [Boundary.phaseAt_of_getElem hb, Boundary.phaseAt_of_getElem hstepped, hrecover]
          rfl
        · have hcleared : x.mark = false := hmark.elim id fun h => h.2.2
          rw [hx]
          obtain ⟨phase, count, mark⟩ := x
          simp_all
      · intro hmarked
        obtain heq | ⟨-, -, hclear⟩ := hmark
        · exact heq ▸ hmarked
        · rw [hclear] at hmarked
          cases hmarked

end Sys2Proof.Proofs.Bands
end

section
/-!
The transmit queue while no frame is being driven (R20, R21, R23): what taking a frame in and taking one out leave of it.
-/
namespace Sys2Proof.Proofs.TransmitQueue

open Sys2Proof Sys2Proof.Machine

section Quiet

variable {s : State}

theorem hasKey_iff {k : FrameKey} {e : QEntry} : e.hasKey k = decide (keyOf e.frame = k) := by
  by_cases h : keyOf e.frame = k <;> simp [QEntry.hasKey, h]

/-- The queue with a frame taken in: in the place of the one for its key, or at the end. -/
def queuedWith (q : List QEntry) (f : Frame) : List QEntry :=
  if q.any fun e => decide (keyOf e.frame = keyOf f) then
    q.map fun e => if keyOf e.frame = keyOf f then { frame := f, attempts := 0, age := 0 } else e
  else q ++ [{ frame := f, attempts := 0, age := 0 }]

theorem enqueue_queue (f : Frame) (hs : s.lnk.station ≠ .unconfigured) (hquiet : s.lnk.access.isSending = false) :
    (s.enqueue f).lnk.queue = queuedWith s.lnk.queue f := by
  have hany : s.lnk.queue.any (QEntry.hasKey (keyOf f)) = s.lnk.queue.any fun e => decide (keyOf e.frame = keyOf f) :=
    congrArg s.lnk.queue.any (funext fun _ => hasKey_iff)
  unfold State.enqueue queuedWith
  dsimp only
  rw [if_neg hs, ← hany]
  split
  · rename_i haccess
    rw [haccess] at hquiet
    cases hquiet
  · split
    · rw [← Transmission.replaceAt_eq]
      simp
    · simp [freshEntry]

theorem dequeue_queue (k : FrameKey) (hquiet : s.lnk.access.isSending = false) :
    (s.dequeue k).lnk.queue = s.lnk.queue.filter fun e => decide (keyOf e.frame ≠ k) := by
  unfold State.dequeue
  split
  · rename_i haccess
    rw [haccess] at hquiet
    cases hquiet
  · rw [← Transmission.removeAt_eq]
    simp

theorem isSending_of_receives (h : s.receives = true) : s.lnk.access.isSending = false := by
  simp only [State.receives, Bool.and_eq_true, Bool.not_eq_true'] at h
  exact h.2

theorem configured_of_receives (h : s.receives = true) : s.lnk.station ≠ .unconfigured := by
  simp only [State.receives, Bool.and_eq_true, decide_eq_true_eq] at h
  exact h.1.1

end Quiet

end Sys2Proof.Proofs.TransmitQueue
end

section
/-!
QUERY and TAKEN frames (R153, R154, R156): the entry offered, and the entry that another bay's copy takes the place of (O54).
-/
namespace Sys2Proof.Proofs.ParkedFrames

open Sys2Proof Sys2Proof.Machine Sys2Proof.Proofs.TransmitQueue

variable {s : State} {b bus x : Nat} {e : ParkEntry}

/-! ## The frames delivered -/

theorem exec_queryFrame (h : s.Delivers b) (hlow : 1 ≤ bus) (hhigh : bus ≤ 255) :
    exec (.queryFrame b bus) s = .next (s.takeQuery bus) := by
  have hok : busFieldOk bus = true := decide_eq_true ⟨hlow, hhigh⟩
  have hexec : exec (.queryFrame b bus) s = .next (s.takeFrame b (busFieldOk bus) fun t => t.takeQuery bus) := rfl
  rw [hexec, FrameChecks.takeFrame_delivers h, if_pos hok]

theorem exec_takenFrame (h : s.Delivers b) (hlow : 1 ≤ bus) (hhigh : bus ≤ 255) (hx : 1 ≤ x) (hx' : x ≤ 64) :
    exec (.takenFrame b bus x) s = .next (s.takeTaken b bus x) := by
  have hok : takenFieldsOk bus x = true := by simp [takenFieldsOk, busFieldOk, within, hlow, hhigh, hx, hx']
  have hexec : exec (.takenFrame b bus x) s = .next (s.takeFrame b (takenFieldsOk bus x) fun t => t.takeTaken b bus x) := rfl
  rw [hexec, FrameChecks.takeFrame_delivers h, if_pos hok]

/-! ## The entry of a bus -/

theorem busId_of_entryOf (he : s.prk.entryOf bus = some e) : e.busId = bus := by
  simpa using List.find?_some he

theorem mem_of_entryOf (he : s.prk.entryOf bus = some e) : e ∈ s.prk.entries := List.mem_of_find?_eq_some he

theorem takeQuery_none (h : s.prk.entryOf bus = none) : s.takeQuery bus = s := by
  unfold State.takeQuery
  rw [h]

theorem takeTaken_none (h : s.prk.entryOf bus = none) : s.takeTaken b bus x = s := by
  unfold State.takeTaken
  rw [h]

/-! ## QUERY (R153, R154) -/

/-- The state with the bus's entry OFFERED. -/
def offeredFor (s : State) (bus : Nat) : State :=
  s.setPrk { s.prk with entries := s.prk.entries.map fun x => if x.busId = bus then x.offeredNow else x }

theorem takeQuery_some (h : s.prk.entryOf bus = some e) : s.takeQuery bus = (offeredFor s bus).enqueue (.offer e.offer) := by
  unfold State.takeQuery
  rw [h]
  rfl

theorem offeredFor_entries (hnodup : (s.prk.entries.map ParkEntry.busId).Nodup) (he : s.prk.entryOf bus = some e) :
    (offeredFor s bus).prk.entries = s.prk.entries.map fun x => if x.busId = bus then
      { x with offered := some { wait := 4, rivals := (e.offered.map OfferWait.rivals).getD [] } } else x := by
  refine List.map_congr_left fun x hx => ?_
  by_cases hbus : x.busId = bus
  · have hsame : x = e :=
      List.inj_on_of_nodup_map hnodup hx (mem_of_entryOf he) (hbus.trans (busId_of_entryOf he).symm)
    rw [if_pos hbus, if_pos hbus, hsame]
    rfl
  · rw [if_neg hbus, if_neg hbus]

/-- The OFFER of an entry in the statements' words. -/
theorem offer_eq (e : ParkEntry) : e.offer =
    { busId := e.busId, parkedEpoch := e.parkedEpoch, dayAge := e.dayAge, cap := e.ctx.cap, floor := e.ctx.floor,
      lastE := e.ctx.lastE
      cursor := e.ctx.chain.cursor -
        ((e.ctx.chain.legs.take e.ctx.chain.cursor).filter fun l => decide (l.dep = -43200)).length
      cumImp := e.ctx.cumImp, cumExp := e.ctx.cumExp, cumResp := e.ctx.cumResp, sessions := e.ctx.sessions
      legs := (e.ctx.chain.legs.filter fun l => decide (l.dep ≠ -43200)).map fun l =>
        { dep := l.dep, req := l.req, state := l.state.code } } := by
  have hheld : (fun l : Leg => !l.isHeld) = fun l => decide (l.dep ≠ -43200) := by
    funext l
    simp [Leg.isHeld, Config.minDeparture]
  unfold ParkEntry.offer
  rw [hheld]
  rfl

/-! ## TAKEN (R156) -/

theorem removePark_some (he : s.prk.entryOf bus = some e) :
    s.removePark bus = (s.setPrk { s.prk with entries := withoutBus s.prk.entries bus }).dropOffer e := by
  unfold State.removePark
  rw [he]

theorem removePark_prk (he : s.prk.entryOf bus = some e) :
    (s.removePark bus).prk = { s.prk with entries := s.prk.entries.filter fun x => x.busId != bus } := by
  rw [removePark_some he]
  simp [withoutBus]

theorem removePark_lnk (he : s.prk.entryOf bus = some e) (hoffered : e.offered = none) : (s.removePark bus).lnk = s.lnk := by
  rw [removePark_some he, State.dropOffer, hoffered]
  rfl

theorem removePark_queue (he : s.prk.entryOf bus = some e) (hoffered : e.offered ≠ none) (hquiet : s.lnk.access.isSending = false) :
    (s.removePark bus).lnk.queue = s.lnk.queue.filter fun x => decide (keyOf x.frame ≠ .offer bus) := by
  rw [removePark_some he, State.dropOffer, if_pos (Option.isSome_iff_ne_none.mpr hoffered), busId_of_entryOf he]
  exact dequeue_queue (s := s.setPrk { s.prk with entries := withoutBus s.prk.entries bus }) _ hquiet

theorem removePark_frame (s : State) (bus : Nat) : s.removePark bus = { s with
    prk := (s.removePark bus).prk
    lnk := { s.lnk with queue := (s.removePark bus).lnk.queue, access := (s.removePark bus).lnk.access } } := by
  ext1
  case lnk => exact Boundary.lnk_eq_of_butQueue (by simp)
  all_goals first | rfl | simp

theorem takeTaken_own (he : s.prk.entryOf bus = some e) :
    s.takeTaken b bus s.ownBay = (s.removePark bus).capture .handoverOut (BitVec.ofNat 32 b) (some bus) := by
  unfold State.takeTaken
  rw [he]
  exact if_pos rfl

theorem yieldsTo_iff : e.yieldsTo x = true ↔
    ∃ w ∈ e.offered, ∃ r ∈ w.rivals, r.bay = x ∧ (e.parkedEpoch : Int) - 43200 * e.dayAge ≤ r.parked := by
  unfold ParkEntry.yieldsTo ParkEntry.parked
  cases e.offered <;> simp

theorem takeTaken_other (he : s.prk.entryOf bus = some e) (hx : x ≠ s.ownBay) :
    s.takeTaken b bus x = if e.yieldsTo x then s.removePark bus else s := by
  unfold State.takeTaken
  rw [he]
  exact if_neg hx

/-- Settles O54: a QUERY offers the bus's entry, and a TAKEN removes it where it names the own bay or a copy no older. -/
theorem queriesAndTakensActOnParkedContexts : Obligations.QueriesAndTakensActOnParkedContexts := by
  intro b bus s hdelivers hlow hhigh hnodup
  have hquiet := isSending_of_receives hdelivers.1
  have hconfigured := configured_of_receives hdelivers.1
  refine ⟨fun hnone => ⟨?_, fun x hx hx' => ?_⟩, fun e he => ⟨⟨_, exec_queryFrame hdelivers hlow hhigh, ?_⟩, fun hown hown' => ?_,
    fun x hx hx' hother => ?_⟩⟩
  · rw [Idle, exec_queryFrame hdelivers hlow hhigh, takeQuery_none hnone]
  · rw [Idle, exec_takenFrame hdelivers hlow hhigh hx hx', takeTaken_none hnone]
  · rw [takeQuery_some he]
    have hprk : ((offeredFor s bus).enqueue (.offer e.offer)).prk = { s.prk with entries := (offeredFor s bus).prk.entries } := by
      simp [offeredFor]
    refine ⟨?_, ?_⟩
    · rw [← offeredFor_entries hnodup he, ← hprk]
      ext1
      case lnk => exact Boundary.lnk_eq_of_butQueue (by simp [offeredFor])
      all_goals first | rfl | simp [offeredFor]
    · have hqueue := enqueue_queue (s := offeredFor s bus) (.offer e.offer) hconfigured hquiet
      have hkey : keyOf (.offer e.offer) = .offer bus := congrArg FrameKey.offer (busId_of_entryOf he)
      rw [hqueue, queuedWith, hkey, offer_eq, busId_of_entryOf he]
      rfl
  · refine ⟨_, exec_takenFrame hdelivers hlow hhigh hown hown', ?_⟩
    rw [takeTaken_own he]
    have hframe := removePark_frame s bus
    refine ⟨?_, fun hlength => ?_, ?_, fun hoffered => ?_, fun hoffered => ?_, ?_⟩
    · rw [← removePark_prk he]
      simp
    · have hlog : (s.removePark bus).log = s.log := by simp
      rw [State.capture_counter _ _ _ _ _ (by rw [hlog, hlength]), if_pos rfl, State.counter_congr (s := s) (by rw [hlog])]
    · refine Captures.capturedAlone_of_capture (u := s.removePark bus) (by simp) rfl
        (Captures.record_congr (by simp) (by simp) (by simp) (by simp) (by simp) (by simp) _ _ _)
    · rw [← removePark_lnk he hoffered]
      simp
    · rw [← removePark_queue he hoffered hquiet]
      simp
    · ext1
      case lnk => exact Boundary.lnk_eq_of_butQueue (by simp)
      all_goals first | rfl | simp
  · intro older
    have hexec := exec_takenFrame hdelivers hlow hhigh hx hx'
    rw [takeTaken_other he hother] at hexec
    refine ⟨fun holder => ?_, fun hnot => ?_⟩
    · have hoffered : e.offered ≠ none := by
        obtain ⟨w, hw, -⟩ := holder
        rw [Option.mem_def.mp hw]
        exact Option.some_ne_none w
      rw [if_pos (yieldsTo_iff.mpr holder)] at hexec
      exact ⟨_, hexec, removePark_prk he, by simp, removePark_queue he hoffered hquiet, removePark_frame s bus⟩
    · rwa [if_neg (fun h => hnot (yieldsTo_iff.mp h))] at hexec

end Sys2Proof.Proofs.ParkedFrames
end

section
/-!
OFFER frames (R147, R148, R152, R155): the candidate of the window, and the rival record of an OFFERED entry (O55).
-/
namespace Sys2Proof.Proofs.Offers

open Sys2Proof Sys2Proof.Machine

variable {s : State} {b : Nat} {o : Offer}

theorem exec_offerFrame (h : s.Delivers b) (ho : OfferInRange o) : exec (.offerFrame b o) s = .next (s.takeOffer b o) := by
  have hok : offerFieldsOk o = true := by
    have hfail : fieldsFail (.offerFrame b o) = false := (FrameChecks.fieldsFail_iff rfl).mpr ho
    simpa [fieldsFail] using hfail
  have hexec : exec (.offerFrame b o) s = .next (s.takeFrame b (offerFieldsOk o) fun t => t.takeOffer b o) := rfl
  rw [hexec, FrameChecks.takeFrame_delivers h, if_pos hok]

/-- An OFFER as a candidate, in the own day (R147). -/
def candidateOf (s : State) (b : Nat) (o : Offer) : Candidate :=
  { bay := b, parked := offerParked s.clk.epoch o, ctx := convertOffer s.clk.epoch o }

theorem takeOffer_query (s : State) (b : Nat) (o : Offer) :
    (s.takeOffer b o).prk.query = s.prk.query.map fun w => if w.busId = o.busId then w.hear (candidateOf s b o) else w := rfl

theorem beatsBest_iff {c best : Candidate} : beatsBest c (some best) = true ↔
    best.parked < c.parked ∨ (c.parked = best.parked ∧ c.bay ≤ best.bay) := by
  unfold beatsBest
  rw [Bool.or_eq_true, Bool.and_eq_true, decide_eq_true_iff, decide_eq_true_iff, decide_eq_true_iff]
  refine or_congr_right (and_congr_left fun _ => eq_comm)

/-- The best candidate after an OFFER for the window's bus (R148). -/
theorem hear_best (w : Query) (c : Candidate) : (w.hear c).best = if beatsBest c w.best then some c else w.best := rfl

/-- Settles O55: the OFFER in the own day is a candidate by freshness and bay, and a rival record. -/
theorem offersAreJudgedByFreshness : Obligations.OffersAreJudgedByFreshness := by
  intro b o s hdelivers ho
  refine ⟨_, exec_offerFrame hdelivers ho, ?_⟩
  beta_reduce
  intro q k parked
  refine ⟨rfl, fun w hw hbus => ?_, fun w hw hbus => ⟨(w.hear (candidateOf s b o)).best, ?_, fun hless => ?_, fun hfresh => ?_⟩,
    fun hnone => ?_, rfl⟩
  · rw [takeOffer_query, Option.mem_def.mp hw, Option.map_some, if_neg hbus]
  · rw [takeOffer_query, Option.mem_def.mp hw, Option.map_some, if_pos hbus]
    rfl
  · obtain ⟨best, hbest, hless⟩ := hless
    have hnot : ¬beatsBest (candidateOf s b o) w.best = true := by
      rw [hbest, beatsBest_iff]
      change ¬(best.parked < parked ∨ (parked = best.parked ∧ b ≤ best.bay))
      omega
    rw [hear_best, if_neg hnot]
  · have hbeats : beatsBest (candidateOf s b o) w.best = true := by
      obtain hnone | ⟨best, hbest, hbeats⟩ := hfresh
      · rw [hnone]
        rfl
      · rw [hbest, beatsBest_iff]
        exact hbeats
    intro legs
    rw [hear_best, if_pos hbeats]
    rfl
  · rw [takeOffer_query, hnone]
    rfl

end Sys2Proof.Proofs.Offers
end

section
/-!
The capture log (R161 to R167, R170 to R172): what a capture stores, loses or only counts, MARK's answer, and READ_LOG's (O58).
-/
namespace Sys2Proof.Proofs.Marks

open Sys2Proof Sys2Proof.Machine

/-! ## Causes (section 9.2) -/

theorem mem_causeCodes {c : Cause} {n : Nat} : (c, n) ∈ causeCodes ↔ n = c.code := by
  cases c <;> simp [causeCodes, Cause.code]

/-- What the mask in force decides: causes 1..21, with MARK and BAY_RESET always stored and LINK_CRC never (R161). -/
theorem enables_iff {g : Log} {c : Cause} :
    g.enables c = true ↔ (c.code ≤ 21 ∧ g.mask.getLsbD (c.code - 1) = true) ∨ c.code = 22 ∨ c.code = 23 := by
  cases c <;> simp [Log.enables, Cause.code]

/-! ## A record stored or lost -/

section Store

variable {s t x : State} {r : LogRecord}

theorem bankAFull_flag : Notice.flag .bankAFull = 1#20 := by decide

theorem bankBFull_flag : Notice.flag .bankBFull = 2#20 := by decide

theorem logOverflow_flag : Notice.flag .logOverflow = 4#20 := by decide

theorem start_state (b : Bank) : b.start.state = if b.state = .empty then .filling else b.state := by
  unfold Bank.start
  by_cases h : b.state = .empty <;> simp [h]

theorem push_state (b : Bank) (r : LogRecord) :
    (b.push r).state = if 12 ≤ b.records.length + 1 then .full else .filling := rfl

/-- Storing into bank A. -/
theorem store_a (ha : s.log.a.state = .filling) : s.store r =
    if 12 ≤ s.log.a.records.length + 1 then
      (s.setLog { s.log with a := s.log.a.push r, b := s.log.b.start, seq := s.log.nextSeq }).raise .bankAFull
    else s.setLog { s.log with a := s.log.a.push r, seq := s.log.nextSeq } := by
  unfold State.store
  by_cases hfull : 12 ≤ s.log.a.records.length + 1 <;> simp [ha, push_state, hfull]

/-- Storing into bank B. -/
theorem store_b (ha : s.log.a.state ≠ .filling) (hb : s.log.b.state = .filling) : s.store r =
    if 12 ≤ s.log.b.records.length + 1 then
      (s.setLog { s.log with b := s.log.b.push r, a := s.log.a.start, seq := s.log.nextSeq }).raise .bankBFull
    else s.setLog { s.log with b := s.log.b.push r, seq := s.log.nextSeq } := by
  unfold State.store
  by_cases hfull : 12 ≤ s.log.b.records.length + 1 <;> simp [ha, hb, push_state, hfull]

theorem store_none (ha : s.log.a.state ≠ .filling) (hb : s.log.b.state ≠ .filling) :
    s.store r = (s.setLog { s.log with lost := min 255 (s.log.lost + 1) }).raise .logOverflow := by
  unfold State.store
  simp [ha, hb]

/-- A record stored over a log of other counters is stored or lost as R165 to R167 say. -/
theorem storedOrLost_store (hok : s.LogOk) {counters : List Nat} (hx : x.log = { s.log with counters := counters })
    (hflags : x.prt.flags = s.prt.flags) (ht : t.log = (x.store r).log) (htflags : t.prt.flags = (x.store r).prt.flags) :
    StoredOrLost s t r := by
  obtain ⟨-, -, -, -, hone, -⟩ := hok
  have hmask : t.log.mask = s.log.mask := by
    have hgrew := (Captures.logGrew_store x r).mask
    rw [ht, hgrew, hx]
  have ha : x.log.a = s.log.a := by rw [hx]
  have hb : x.log.b = s.log.b := by rw [hx]
  have hseq : x.log.nextSeq = (s.log.seq + 1) % 65536 := by rw [hx]; rfl
  refine ⟨hmask, fun hfilling => ?_, fun hfilling => ?_, fun hnota hnotb => ?_⟩
  · rw [store_a (by rw [ha, hfilling])] at ht htflags
    by_cases hfull : 12 ≤ x.log.a.records.length + 1
    · rw [if_pos hfull] at ht htflags
      rw [ha] at hfull
      simp only [State.raise_frame, State.setLog_log, ha, hb, hseq] at ht
      simp only [State.raise, State.setPrt_prt, State.setLog_prt, hflags, bankAFull_flag] at htflags
      unfold StoredIn
      rw [ht]
      refine ⟨rfl, Captures.start_records _, rfl, by simp [hx], fun hlt => by omega, fun _ => ⟨?_, htflags, start_state _⟩⟩
      exact if_pos hfull
    · rw [if_neg hfull] at ht htflags
      rw [ha] at hfull
      simp only [State.setLog_log, ha, hseq] at ht
      unfold StoredIn
      rw [ht]
      refine ⟨rfl, by simp [hx], rfl, by simp [hx], fun _ => ⟨if_neg hfull, by simp [hx], htflags.trans hflags⟩, fun heq => by omega⟩
  · have hnota : s.log.a.state ≠ .filling := fun hfill => hone ⟨hfill, hfilling⟩
    rw [store_b (by rw [ha]; exact hnota) (by rw [hb, hfilling])] at ht htflags
    by_cases hfull : 12 ≤ x.log.b.records.length + 1
    · rw [if_pos hfull] at ht htflags
      rw [hb] at hfull
      simp only [State.raise_frame, State.setLog_log, ha, hb, hseq] at ht
      simp only [State.raise, State.setPrt_prt, State.setLog_prt, hflags, bankBFull_flag] at htflags
      unfold StoredIn
      rw [ht]
      refine ⟨rfl, Captures.start_records _, rfl, by simp [hx], fun hlt => by omega, fun _ => ⟨?_, htflags, start_state _⟩⟩
      exact if_pos hfull
    · rw [if_neg hfull] at ht htflags
      rw [hb] at hfull
      simp only [State.setLog_log, hb, hseq] at ht
      unfold StoredIn
      rw [ht]
      refine ⟨rfl, by simp [hx], rfl, by simp [hx], fun _ => ⟨if_neg hfull, by simp [hx], htflags.trans hflags⟩, fun heq => by omega⟩
  · rw [store_none (by rw [ha]; exact hnota) (by rw [hb]; exact hnotb)] at ht htflags
    simp only [State.raise_frame, State.setLog_log] at ht
    simp only [State.raise, State.setPrt_prt, State.setLog_prt, hflags, logOverflow_flag] at htflags
    rw [ht, hx]
    exact ⟨rfl, rfl, rfl, rfl, htflags⟩

end Store

/-! ## Captures (R161) -/

/-- A capture of a cause that the mask enables stores or loses its record, and another is only counted. -/
theorem capture_stored (s : State) (c : Cause) (detail : BitVec 32) (bus : Option Nat) (hok : s.LogOk)
    (hon : s.log.enables c = true) : StoredOrLost s (s.capture c detail bus) (s.record c detail bus) := by
  have hcapture := Captures.capture_eq s c detail bus
  rw [if_pos hon] at hcapture
  exact storedOrLost_store (x := s.setLog (s.log.count c)) hok rfl rfl (by rw [hcapture]) (by rw [hcapture])

theorem capture_counted {s : State} {c : Cause} (detail : BitVec 32) (bus : Option Nat) (hoff : ¬s.log.enables c = true) :
    s.capture c detail bus = s.setLog (s.log.count c) := by
  rw [Captures.capture_eq, if_neg hoff]

/-- A capture changes the log and raises flags. -/
theorem capture_touches (s : State) (c : Cause) (detail : BitVec 32) (bus : Option Nat) : s.capture c detail bus =
    { s with log := (s.capture c detail bus).log, prt := { s.prt with flags := (s.capture c detail bus).prt.flags } } := by
  ext1
  case prt => exact Boundary.prt_eq_of_butFlags (by simp)
  all_goals simp

/-! ## MARK (R162, R170) -/

/-- MARK's answer names the record stored, or says that it was lost. -/
theorem markPayload_of_filling {s : State} (h : s.log.a.state = .filling ∨ s.log.b.state = .filling) :
    s.markPayload = u8 0 ++ u16 s.log.seq ++ u16 s.clk.epoch ++ u8 s.clk.tick := by
  have hany : s.log.anyFilling = true := by simpa [Log.anyFilling] using h
  rw [State.markPayload, if_pos hany]
  rfl

theorem markPayload_of_none {s : State} (ha : s.log.a.state ≠ .filling) (hb : s.log.b.state ≠ .filling) :
    s.markPayload.take 1 = [1#8] := by
  have hany : ¬s.log.anyFilling = true := by simp [Log.anyFilling, ha, hb]
  rw [State.markPayload, if_neg hany]
  rfl

/-- MARK is a capture with its tag the detail, whose answer is worked out from the log before it. -/
theorem mark_answers (s : State) (tag : BitVec 32) (hok : s.LogOk) : Answers (.mark tag) s fun t =>
    t = { s with log := t.log, prt := t.prt, choices := t.choices } ∧ Responds s t 8 .ok t.prt.response.payload ∧
      t.counter .mark = min 63 (s.counter .mark + 1) ∧ t.prt.mask = s.prt.mask ∧
      StoredOrLost s t (s.record .mark tag none) ∧ t.prt.response.payload = s.markPayload := by
  have hcounters : s.log.counters.length = 24 := by
    obtain ⟨-, -, -, -, -, -, -, hlen, -⟩ := hok
    exact hlen
  have hlog : (s.counted.capture .mark tag none).log =
      ((s.counted.setLog (s.log.count .mark)).store (s.record .mark tag none)).log :=
    congrArg State.log (Captures.capture_eq s.counted .mark tag none)
  have hflags : (s.counted.capture .mark tag none).prt.flags =
      ((s.counted.setLog (s.log.count .mark)).store (s.record .mark tag none)).prt.flags :=
    congrArg (fun t => t.prt.flags) (Captures.capture_eq s.counted .mark tag none)
  refine ⟨_, LogCommands.exec_mark s tag, ?_, ?_, ?_, by simp, ?_, rfl⟩
  · ext1
    all_goals simp [State.answerWith, State.bumpChoices, State.counted]
  · exact Port.responds_answerWith .ok s.markPayload (by simp [State.bumpChoices])
  · exact (State.capture_counter s.counted .mark tag none .mark hcounters).trans (if_pos rfl)
  · exact storedOrLost_store (x := s.counted.setLog (s.log.count .mark)) hok rfl rfl hlog hflags

/-! ## READ_LOG (R171) -/

theorem bank_eq {g : Log} {n : Nat} (h : n ≤ 1) : g.bank n = if n = 0 then g.a else g.b := by
  interval_cases n <;> rfl

/-- READ_LOG of a record's place answers it. -/
theorem readLog_answers {s : State} {bank i : Nat} {r : LogRecord} (hbank : bank ≤ 1) (hi : i ≤ 11)
    (hr : (s.log.bank bank).records[i]? = some r) : Answers (.readLog bank i) s fun t =>
      t = { s with prt := { s.prt with answer := t.prt.answer, response := t.prt.response } } ∧
      Responds s t 11 .ok (u8 (s.log.bank bank).state.code ++ u8 (s.log.bank bank).records.length ++ r.bytes) := by
  obtain ⟨hlt, -⟩ := List.getElem?_eq_some_iff.mp hr
  have hpass : firstFail (readLogChecks bank i (s.log.bank bank).records.length) = none := by
    simp [readLogChecks, firstFail, bankOk, hbank, hi, hlt]
  refine Port.answers_of_taken (effect := id) (payload := fun t => t.logPayload bank i) (kind := 11) ?_ ⟨rfl, ?_⟩
  · exact congrArg (fun f => Host.Outcome.next (s.command 11 true f id fun t => t.logPayload bank i)) hpass
  · have hpayload : s.counted.logPayload bank i =
        u8 (s.log.bank bank).state.code ++ u8 (s.log.bank bank).records.length ++ r.bytes := by
      simp [State.logPayload, hr]
    rw [← hpayload]
    exact Port.responds_answerWith .ok _ rfl

theorem readLog_refused {s : State} {bank i n : Nat}
    (h : firstFail (readLogChecks bank i (s.log.bank bank).records.length) = some n) :
    Refused (.readLog bank i) s 11 .range (u8 n) :=
  Port.refused_of_range (congrArg (fun f => Host.Outcome.next (s.command 11 true f id fun t => t.logPayload bank i)) h)

/-- Settles O58: a capture is judged by the mask, MARK is one that is always stored, and READ_LOG reads what was stored. -/
theorem marksAreStoredAndRead : Obligations.MarksAreStoredAndRead := by
  intro s hok
  dsimp only
  refine ⟨fun c n detail bus hc => ?_, fun c => ⟨_, mem_causeCodes.mpr rfl⟩, fun tag => ?_, fun bank i r hbank hi hr => ?_,
    fun bank i hbank => ?_, fun bank i hbank hcount => ?_⟩
  · obtain rfl := mem_causeCodes.mp hc
    rw [← enables_iff]
    refine ⟨capture_touches s c detail bus, State.capture_counters s c detail bus, capture_stored s c detail bus hok,
      fun hoff => ?_⟩
    rw [capture_counted detail bus hoff]
    exact ⟨rfl, rfl⟩
  · obtain ⟨t, ht, hframe, hresponds, hcount, hmask, hstored, hpayload⟩ := mark_answers s tag hok
    exact ⟨t, ht, hframe, hresponds, hcount, hmask, hstored, fun h => hpayload.trans (markPayload_of_filling h),
      fun ha hb => by rw [hpayload, markPayload_of_none ha hb]⟩
  · rw [← bank_eq hbank] at hr ⊢
    obtain ⟨t, ht, hframe, hresponds⟩ := readLog_answers hbank hi hr
    refine ⟨_, mem_causeCodes.mpr rfl, t, ht, hframe, ?_⟩
    simp only [LogRecord.bytes, ← List.append_assoc] at hresponds
    exact hresponds
  · have hbad : bankOk bank = false := by simp [bankOk, hbank]
    exact readLog_refused (n := 1) (by simp [readLogChecks, firstFail, hbad])
  · rw [← bank_eq hbank] at hcount
    refine readLog_refused (n := 2) ?_
    simp [readLogChecks, firstFail, bankOk, hbank, hcount]

end Sys2Proof.Proofs.Marks
end

section
/-!
The park table as a whole: what parking a context leaves, evicts and captures (R141, R142), and a window cancelled (R151).
-/
namespace Sys2Proof.Proofs.Parking

open Sys2Proof Sys2Proof.Machine

variable {s : State} {bus hold : Nat} {x : Context}

/-! ## What parking leaves (R142) -/

theorem withoutBus_eq (es : List ParkEntry) (bus : Nat) : withoutBus es bus = es.filter fun e => decide (e.busId ≠ bus) := by
  unfold withoutBus
  congr 1
  funext e
  by_cases h : e.busId = bus <;> simp [h]

theorem roomFor_eq (bus : Nat) (es : List ParkEntry) : evicted (withoutBus es bus) = roomFor bus es := by
  rw [withoutBus_eq, roomFor, evicted, List.drop_one]

theorem park_entries (s : State) (bus hold : Nat) (x : Context) : (s.park bus hold x).prk.entries = roomFor bus s.prk.entries ++
    [{ busId := bus, parkedEpoch := s.clk.epoch, dayAge := 0, hold := hold, ctx := x, offered := none }] := by
  rw [State.park_entries, roomFor_eq]

theorem removePark_prk (s : State) (bus : Nat) :
    (s.removePark bus).prk = { s.prk with entries := withoutBus s.prk.entries bus } := by
  rw [← State.removePark_entries]
  unfold State.removePark
  split <;> simp

theorem evictOldest_prk (s : State) : s.evictOldest.prk = { s.prk with entries := evicted s.prk.entries } := by
  rw [← State.evictOldest_entries]
  unfold State.evictOldest
  split
  · rfl
  · split <;> simp

theorem park_prk (s : State) (bus hold : Nat) (x : Context) :
    (s.park bus hold x).prk = { s.prk with entries := (s.park bus hold x).prk.entries } := by
  simp [State.park, evictOldest_prk, removePark_prk]

theorem context_eq (v : Session) : v.context = leftBehind v v.chain := by
  have hcap : (0 : Int) ≤ v.cap := by omega
  simp only [Session.context, leftBehind, Session.energy, addInt32, heldInt32, Setpoint.clampInt_eq_max_min hcap,
    Setpoint.clampInt_eq_max_min (show (-2147483648 : Int) ≤ 2147483647 by decide)]

/-! ## Eviction (R142, R162) -/

/-- The log and flags of `t` are those of `s` with the eviction that parking for a bus may take. -/
def EvictsFor (bus : Nat) (s t : State) : Prop :=
  match evictedFor bus s.prk.entries with
  | none => t.log = s.log ∧ t.prt.flags = s.prt.flags
  | some e => t.log = (s.capture .contextEvicted 0#32 (some e.busId)).log ∧
      t.prt.flags = (s.capture .contextEvicted 0#32 (some e.busId)).prt.flags

theorem evictedFor_of_nil (h : withoutBus s.prk.entries bus = []) : evictedFor bus s.prk.entries = none := by
  rw [evictedFor, ← withoutBus_eq, h]
  rfl

theorem evictedFor_of_cons {e : ParkEntry} {es : List ParkEntry} (h : withoutBus s.prk.entries bus = e :: es) :
    evictedFor bus s.prk.entries = if 4 ≤ es.length + 1 then some e else none := by
  rw [evictedFor, ← withoutBus_eq, h]
  rfl

/-- Parking takes the figures of the eviction's record from registers that it has not touched. -/
theorem park_evicts (s : State) (bus hold : Nat) (x : Context) : EvictsFor bus s (s.park bus hold x) := by
  have hentries := State.removePark_entries s bus
  unfold EvictsFor State.park State.evictOldest
  rw [hentries]
  cases hothers : withoutBus s.prk.entries bus with
  | nil =>
    rw [evictedFor_of_nil hothers]
    simp
  | cons e es =>
    rw [evictedFor_of_cons hothers]
    by_cases hfull : 4 ≤ es.length + 1
    · simp only [Config.parkEntries, List.length_cons, if_pos hfull]
      refine ⟨Captures.capture_log_congr (by simp) ?_, Captures.capture_flags_congr (by simp) ?_ (by simp)⟩ <;>
      exact Captures.record_congr (by simp) (by simp) (by simp) (by simp) (by simp) (by simp) _ _ _
    · simp only [Config.parkEntries, List.length_cons, if_neg hfull]
      simp

/-! ## A quiet link -/

/-- With nothing queued and no access under way, parking leaves the link as it is. -/
theorem park_lnk_of_quiet (hqueue : s.lnk.queue = []) (haccess : s.lnk.access = .notContending) :
    (s.park bus hold x).lnk = s.lnk := by
  have hdrop : ∀ (t : State) (e : ParkEntry), t.lnk = s.lnk → (t.dropOffer e).lnk = s.lnk := by
    intro t e ht
    unfold State.dropOffer
    split
    · rw [State.dequeue_quiet t _ (by rw [ht, hqueue]) (by rw [ht, haccess]), ht]
    · exact ht
  have hremove : (s.removePark bus).lnk = s.lnk := by
    unfold State.removePark
    split
    · rfl
    · exact hdrop _ _ rfl
  unfold State.park State.evictOldest
  dsimp only
  split
  · exact hremove
  · split
    · have hcapture (t : State) (d : BitVec 32) (b : Option Nat) : (t.capture .contextEvicted d b).lnk = t.lnk := by simp
      exact (hcapture _ _ _).trans (hdrop _ _ hremove)
    · exact hremove

/-! ## The setpoint without a session (R100, R101) -/

theorem follow_of_forcedZero (h : s.forcedZero = true) : s.follow = s.setStg { s.stg with applied := 0 } := by
  obtain ⟨hlow, htarget⟩ := Setpoint.bounds_of_forcedZero h
  have happlied : (if s.stg.isOpen then 0 else clampInt s.stg.applied s.lowerBound s.target) = 0 := by
    rw [hlow, htarget]
    split
    · rfl
    · rw [Setpoint.clampInt_eq_max_min le_rfl]
      omega
  unfold State.follow
  rw [happlied]

theorem follow_of_noSession (h : s.ses = none) : s.follow = s.setStg { s.stg with applied := 0 } :=
  follow_of_forcedZero (Setpoint.forcedZero_iff.mpr (.inr (.inr (.inl h))))

/-! ## A window cancelled (R151) -/

theorem cancelWindow_none (h : s.prk.query = none) : s.cancelWindow = s := by
  unfold State.cancelWindow
  rw [h]

theorem cancelWindow_some {q : Query} (h : s.prk.query = some q) : s.cancelWindow = s.endWindow q.cancelled := by
  unfold State.cancelWindow
  rw [h]

theorem endWindow_prk (s : State) (w : WindowFigures) : (s.endWindow w).prk = { s.prk with query := none, idle := w } := by
  simp [State.endWindow]

theorem endWindow_lnk_of_quiet (w : WindowFigures) (hqueue : s.lnk.queue = []) (haccess : s.lnk.access = .notContending) :
    (s.endWindow w).lnk = s.lnk :=
  State.dequeue_quiet (s.setPrk { s.prk with query := none, idle := w }) .query hqueue haccess

theorem cancelWindow_lnk_of_quiet (hqueue : s.lnk.queue = []) (haccess : s.lnk.access = .notContending) :
    s.cancelWindow.lnk = s.lnk := by
  cases hwindow : s.prk.query with
  | none => rw [cancelWindow_none hwindow]
  | some q => rw [cancelWindow_some hwindow, endWindow_lnk_of_quiet _ hqueue haccess]

/-- With no window a cancellation changes nothing, and with one its bus and countdown stand without its offers. -/
theorem cancelWindow_figures (s : State) : s.cancelWindow.prk.query = none ∧ s.cancelWindow.prk.last = s.prk.last ∧
    s.cancelWindow.prk.entries = s.prk.entries ∧ (s.prk.query = none → s.cancelWindow.prk.idle = s.prk.idle) ∧
    ∀ q, s.prk.query = some q → s.cancelWindow.prk.idle = q.cancelled := by
  cases hwindow : s.prk.query with
  | none =>
    rw [cancelWindow_none hwindow]
    exact ⟨hwindow, rfl, rfl, fun _ => rfl, nofun⟩
  | some q =>
    rw [cancelWindow_some hwindow, endWindow_prk]
    exact ⟨rfl, rfl, rfl, nofun, fun p hp => by rw [Option.some.inj hp]⟩

end Sys2Proof.Proofs.Parking
end

section
/-!
BAY_RESET (R188, R189): the capture, the blocks, the session parked, the flags and the READY record (O22).
-/
namespace Sys2Proof.Proofs.BayReset

open Sys2Proof Sys2Proof.Machine

/-! ## The stages of the reset -/

section Stages

variable (s : State)

/-- Flags cleared and the reset captured, before any block acts (R188). -/
def captured : State := (s.setPrt { s.prt with flags := 0#20 }).capture .bayReset 0#32 none

/-- The blocks at their bay reset values, with the setpoint 0. -/
theorem resetBlocks_eq : s.resetBlocks = { s with
    cfg := none, log := { s.log with mask := 0x1FFFFF#24 }, lnk := s.lnk.atReset, clk := { s.clk with disagree := none }
    ptb := { entries := [], limitDisagree := false, dupBus := false }
    alt := { flight := none, discard := false, result := none, grant := 0 }, rsv := s.rsv.bayReset, lastClaim := none
    stg := { s.stg with applied := 0, gap := 0, meterLost := false } } := by
  unfold State.resetBlocks
  exact Parking.follow_of_forcedZero rfl

/-- The session that a bay reset parks (R72): a live one whose capacity is known. -/
def parks : Option Session := s.ses.bind fun v => if v.cap = 0 then none else some v

/-- The park table once the reset's window is cancelled and its session parked. -/
def parkedAtReset (hold : Nat) : State :=
  match parks s with
  | none => s.cancelWindow
  | some v => s.cancelWindow.park v.busId hold v.context

theorem parkAtReset_eq (hold : Nat) : s.parkAtReset hold = (((parkedAtReset s hold).withdrawOffers).setSes none).follow := by
  have hses : s.cancelWindow.ses = s.ses := by simp
  unfold State.parkAtReset parkedAtReset parks
  dsimp only
  rw [hses]
  cases s.ses with
  | none => rfl
  | some v => by_cases hcap : v.cap = 0 <;> simp [hcap]

theorem parkedAtReset_frame (hold : Nat) :
    (parkedAtReset s hold).clk = s.clk ∧ (parkedAtReset s hold).ptb = s.ptb ∧ (parkedAtReset s hold).lastClaim = s.lastClaim ∧
      (parkedAtReset s hold).alt = s.alt ∧ (parkedAtReset s hold).stg = s.stg ∧ (parkedAtReset s hold).snap = s.snap ∧
      (parkedAtReset s hold).rsv = s.rsv ∧ (parkedAtReset s hold).cfg = s.cfg := by
  unfold parkedAtReset
  split <;> simp

theorem parkedAtReset_figures (hold : Nat) : (parkedAtReset s hold).prk.last = s.prk.last ∧
    (parkedAtReset s hold).prk.query = none ∧ (parkedAtReset s hold).prk.idle = s.cancelWindow.prk.idle := by
  obtain ⟨hquery, hlast, -⟩ := Parking.cancelWindow_figures s
  unfold parkedAtReset
  split
  · exact ⟨hlast, hquery, rfl⟩
  · rw [Parking.park_prk]
    exact ⟨hlast, hquery, rfl⟩

/-- With the link at its reset values, parking leaves it so. -/
theorem parkedAtReset_lnk (hold : Nat) (hqueue : s.lnk.queue = []) (haccess : s.lnk.access = .notContending) :
    (parkedAtReset s hold).lnk = s.lnk := by
  have hcancel := Parking.cancelWindow_lnk_of_quiet hqueue haccess
  unfold parkedAtReset
  split
  · exact hcancel
  · exact (Parking.park_lnk_of_quiet (by rw [hcancel, hqueue]) (by rw [hcancel, haccess])).trans hcancel

theorem parkedAtReset_entries (hold : Nat) : (parkedAtReset s hold).prk.entries = (match parks s with
      | none => s.prk.entries
      | some v => roomFor v.busId s.prk.entries ++
          [{ busId := v.busId, parkedEpoch := s.clk.epoch, dayAge := 0, hold := hold, ctx := leftBehind v v.chain,
             offered := none }]) := by
  obtain ⟨-, -, hentries, -⟩ := Parking.cancelWindow_figures s
  unfold parkedAtReset
  split
  · exact hentries
  · rw [Parking.park_entries, hentries, Parking.context_eq]
    simp

/-- The eviction that parking the session may take. -/
theorem parkedAtReset_evicts (hold : Nat) : (match (parks s).bind fun v => evictedFor v.busId s.prk.entries with
      | none => (parkedAtReset s hold).log = s.log ∧ (parkedAtReset s hold).prt.flags = s.prt.flags
      | some e => (parkedAtReset s hold).log = (s.capture .contextEvicted 0#32 (some e.busId)).log ∧
          (parkedAtReset s hold).prt.flags = (s.capture .contextEvicted 0#32 (some e.busId)).prt.flags) := by
  obtain ⟨-, -, hentries, -⟩ := Parking.cancelWindow_figures s
  unfold parkedAtReset
  cases parks s with
  | none => simp
  | some v =>
    have hevicts := Parking.park_evicts s.cancelWindow v.busId hold v.context
    unfold Parking.EvictsFor at hevicts
    rw [hentries] at hevicts
    rw [Option.bind_some]
    have hrecord (e : ParkEntry) : s.cancelWindow.record .contextEvicted 0#32 (some e.busId) =
        s.record .contextEvicted 0#32 (some e.busId) :=
      Captures.record_congr (by simp) (by simp) (by simp) (by simp) (by simp) (by simp) _ _ _
    cases hevicted : evictedFor v.busId s.prk.entries with
    | none =>
      rw [hevicted] at hevicts
      obtain ⟨hlog, hflags⟩ := hevicts
      exact ⟨by simpa using hlog, by simpa using hflags⟩
    | some e =>
      rw [hevicted] at hevicts
      obtain ⟨hlog, hflags⟩ := hevicts
      exact ⟨hlog.trans (Captures.capture_log_congr (by simp) (hrecord e)),
        hflags.trans (Captures.capture_flags_congr (by simp) (hrecord e) (by simp))⟩

end Stages

/-! ## The states that the claim names -/

/-- The state of the CONTEXT_EVICTED record (log entry 21): the blocks at their reset values, the session still live. -/
def acted (s : State) : State := { captured s with
  log := { (captured s).log with mask := 0x1FFFFF#24 }
  alt := { (captured s).alt with grant := 0 }
  stg := { (captured s).stg with applied := 0 }
  rsv := { (captured s).rsv with active := false } }

/-- The state whose log and flags the reset leaves. -/
def logged (s : State) : State :=
  match (parks s).bind fun v => evictedFor v.busId s.prk.entries with
  | none => acted s
  | some e => (acted s).capture .contextEvicted 0#32 (some e.busId)

/-- The state with the blocks reset and the session parked. -/
def settled (s : State) : State := parkedAtReset (captured s).resetBlocks s.holdBoundaries

section Claims

variable (s : State)

theorem captured_frame : (captured s).clk = s.clk ∧ (captured s).lnk = s.lnk ∧ (captured s).ses = s.ses ∧
    (captured s).stg = s.stg ∧ (captured s).rsv = s.rsv ∧ (captured s).prk = s.prk := by
  simp [captured]

theorem parks_captured : parks (captured s).resetBlocks = parks s := by
  simp [parks, captured]

theorem resetBlocks_prk : (captured s).resetBlocks.prk = s.prk := by simp [captured]

/-- The reset leaves the log and the flags that the two captures leave. -/
theorem settled_logged : (settled s).log = (logged s).log ∧ (settled s).prt.flags = (logged s).prt.flags := by
  have hevicts := parkedAtReset_evicts (captured s).resetBlocks s.holdBoundaries
  have hlog : (captured s).resetBlocks.log = (acted s).log := rfl
  have hflags : (captured s).resetBlocks.prt.flags = (acted s).prt.flags := rfl
  have hrecord (e : ParkEntry) : (captured s).resetBlocks.record .contextEvicted 0#32 (some e.busId) =
      (acted s).record .contextEvicted 0#32 (some e.busId) := by
    rw [resetBlocks_eq]
    rfl
  rw [parks_captured, resetBlocks_prk] at hevicts
  unfold logged settled
  cases hevicted : (parks s).bind fun v => evictedFor v.busId s.prk.entries with
  | none =>
    rw [hevicted] at hevicts
    obtain ⟨h1, h2⟩ := hevicts
    exact ⟨h1.trans hlog, h2.trans hflags⟩
  | some e =>
    rw [hevicted] at hevicts
    obtain ⟨h1, h2⟩ := hevicts
    exact ⟨h1.trans (Captures.capture_log_congr hlog (hrecord e)), h2.trans (Captures.capture_flags_congr hlog (hrecord e) hflags)⟩

/-! ## Flags (R189) -/

theorem keptFlags_getLsbD (t : State) (n : Notice) :
    (t.heldFlags keptNotices).getLsbD n.bit = (decide (n ∈ keptNotices) && t.holds n) := by
  rw [State.heldFlags, Notices.heldFlags_getLsbD]
  cases n <;> simp [keptNotices, Notices.flag_getLsbD]

/-- A condition whose register the reset keeps holds after it where it held before. -/
theorem parkAtReset_holds {n : Notice} (h : n ∈ keptNotices) :
    ((captured s).resetBlocks.parkAtReset s.holdBoundaries).holds n = s.holds n := by
  simp only [keptNotices, List.mem_cons, List.not_mem_nil, or_false] at h
  rcases h with rfl | rfl | rfl
  · simp [State.holds, captured]
  · simp [State.holds, resetBlocks_eq, captured, Rsv.bayReset]
  · simp [State.holds, captured]

end Claims

/-! ## The command (O22) -/

/-- The state with the blocks reset, the session parked and ended, and the offers withdrawn; the port is as the captures left it. -/
theorem parked_and_ended (s : State) : (captured s).resetBlocks.parkAtReset s.holdBoundaries =
    ((settled s).withdrawOffers.setSes none).setStg { s.stg with applied := 0, gap := 0, meterLost := false } := by
  obtain ⟨-, -, -, -, hstg, -⟩ := parkedAtReset_frame (captured s).resetBlocks s.holdBoundaries
  have hsettled : (settled s).stg = { s.stg with applied := 0, gap := 0, meterLost := false } := by
    rw [settled, hstg, resetBlocks_eq]
    simp [captured]
  rw [parkAtReset_eq, Parking.follow_of_noSession (by simp)]
  simp only [State.setSes_stg, State.withdrawOffers_frame]
  rw [← settled, hsettled]

/-- The answer and the flags come last; everything else stands as the parking leaves it. -/
theorem exec_bayReset (s : State) : ∃ p : Prt, exec .bayReset s = .next
      ((((settled s).withdrawOffers.setSes none).setStg { s.stg with applied := 0, gap := 0, meterLost := false }).setPrt p) ∧
    p.answer = 0 ∧ p.mask = s.prt.mask ∧
    p.response = { kind := 0, status := .ok, answer := 0, station := (settled s).lnk.station, flags := p.flags, payload := [1#8] } ∧
    ∀ n : Notice, p.flags.getLsbD n.bit =
      ((logged s).flagged n || (s.flagged n && (decide (n ∈ keptNotices) && s.holds n))) := by
  have hparked := parked_and_ended s
  obtain ⟨-, hflags⟩ := settled_logged s
  have hmask : s.resetBay.prt.mask = s.prt.mask := by simp
  have hkept (n : Notice) : (decide (n ∈ keptNotices) && ((captured s).resetBlocks.parkAtReset s.holdBoundaries).holds n) =
      (decide (n ∈ keptNotices) && s.holds n) := by
    by_cases h : n ∈ keptNotices
    · rw [parkAtReset_holds s h]
    · simp [h]
  refine ⟨s.resetBay.prt, ?_, rfl, hmask, ?_, fun n => ?_⟩
  · rw [← hparked]
    rfl
  · have hstation : ((captured s).resetBlocks.parkAtReset s.holdBoundaries).lnk.station = (settled s).lnk.station := by
      rw [hparked]
      simp
    rw [← hstation]
    rfl
  · have hset : ((captured s).resetBlocks.parkAtReset s.holdBoundaries).prt.flags = (logged s).prt.flags := by
      rw [← hflags, hparked]
      simp
    rw [← hkept, ← keptFlags_getLsbD, ← State.flagged_congr hset]
    simp only [State.flagged, ← BitVec.getLsbD_and, ← BitVec.getLsbD_or]
    rfl

/-- The captures raise no condition's flag, and before them no flag was set. -/
theorem logged_flagged (s : State) {n : Notice} (h : n ∈ keptNotices) : (logged s).flagged n = false := by
  have hbank : n ∉ Losses.bankNotices := by
    simp only [keptNotices, List.mem_cons, List.not_mem_nil, or_false] at h
    rcases h with rfl | rfl | rfl <;> decide
  have hacted : (acted s).flagged n = false := by
    have hcaptured := Losses.capture_flagged_other (s.setPrt { s.prt with flags := 0#20 }) .bayReset 0#32 none hbank
    refine (State.flagged_congr rfl n).trans (hcaptured.trans ?_)
    simp [State.flagged]
  unfold logged
  split
  · exact hacted
  · rw [Losses.capture_flagged_other _ _ _ _ hbank, hacted]

/-- The blocks that the parking does not touch stand at their bay reset values. -/
theorem settled_blocks (s : State) : (settled s).clk = { s.clk with disagree := none } ∧ (settled s).lnk = s.lnk.atReset ∧
    (settled s).ptb = { entries := [], limitDisagree := false, dupBus := false } ∧ (settled s).lastClaim = none ∧
    (settled s).alt = { flight := none, discard := false, result := none, grant := 0 } ∧ (settled s).snap = s.snap ∧
    (settled s).rsv = s.rsv.bayReset ∧ (settled s).cfg = none := by
  obtain ⟨hclk, hlnk, hses, hstg, hrsv, hprk⟩ := captured_frame s
  have hquiet := parkedAtReset_lnk (captured s).resetBlocks s.holdBoundaries rfl rfl
  obtain ⟨h1, h2, h3, h4, -, h6, h7, h8⟩ := parkedAtReset_frame (captured s).resetBlocks s.holdBoundaries
  have hsnap : (captured s).snap = s.snap := by simp [captured]
  unfold settled
  rw [hquiet, h1, h2, h3, h4, h6, h7, h8, resetBlocks_eq, hclk, hlnk, hrsv, hsnap]
  exact ⟨rfl, rfl, rfl, rfl, rfl, rfl, rfl, rfl⟩

/-- The park table with the session parked and every offer withdrawn. -/
theorem withdrawn_entries (s : State) : (settled s).withdrawOffers.prk.entries = (match parks s with
      | none => s.prk.entries.map fun e => { e with offered := none }
      | some v => (roomFor v.busId s.prk.entries).map (fun e => { e with offered := none }) ++
          [{ busId := v.busId, parkedEpoch := s.clk.epoch, dayAge := 0, hold := s.holdBoundaries, ctx := leftBehind v v.chain,
             offered := none }]) := by
  have hentries := parkedAtReset_entries (captured s).resetBlocks s.holdBoundaries
  have hepoch : (captured s).resetBlocks.clk.epoch = s.clk.epoch := by simp [captured]
  rw [parks_captured, resetBlocks_prk, hepoch] at hentries
  have hwithdrawn : (settled s).withdrawOffers.prk.entries = (settled s).prk.entries.map fun e => { e with offered := none } := rfl
  rw [hwithdrawn, settled, hentries]
  cases parks s with
  | none => rfl
  | some v => rw [List.map_append, List.map_singleton]

/-- Settles O22: the blocks' reset values, the parking with its eviction, and the flags, each from its own lemma. -/
theorem bayResetKeepsAndEnds : Obligations.BayResetKeepsAndEnds := by
  intro s
  obtain ⟨p, hp, hanswer, hmask, hresponse, hflagged⟩ := exec_bayReset s
  obtain ⟨hclk, hlnk, hptb, hclaim, halt, hsnap, hrsv, hcfg⟩ := settled_blocks s
  obtain ⟨hlast, hquery, hfigures⟩ := parkedAtReset_figures (captured s).resetBlocks s.holdBoundaries
  obtain ⟨hlog, -⟩ := settled_logged s
  obtain ⟨-, -, -, hidle, hcancelled⟩ := Parking.cancelWindow_figures (captured s).resetBlocks
  rw [resetBlocks_prk] at hidle hcancelled hlast
  refine ⟨_, hp, ?_⟩
  beta_reduce
  intro cap act park log
  refine ⟨?_, ?_, ?_, rfl, ?_, ?_, rfl, ?_, ?_, ?_, ?_, fun h => ?_, fun h => ?_, ?_, ?_, ?_, hanswer, hmask, ?_, fun n hn => ?_,
    fun n hn => ?_⟩
  · simpa using hclk
  · simp [hlnk, Lnk.atReset, Lnk.reset]
  · simpa using hptb
  · simpa using hclaim
  · simpa using halt
  · simpa using hsnap
  · exact hrsv
  · exact hquery
  · exact hlast
  · exact hfigures.trans (hidle h)
  · obtain ⟨q, hq⟩ := Option.ne_none_iff_exists'.mp h
    have hoffers := congrArg WindowFigures.offers (hfigures.trans (hcancelled q hq))
    exact hoffers
  · exact withdrawn_entries s
  · exact hlog
  · simpa using hcfg
  · refine hresponse.trans ?_
    rw [hlnk]
    rfl
  · have hkept : n ∈ keptNotices := by simpa [keptNotices] using hn
    refine (hflagged n).trans ?_
    rw [logged_flagged s hkept, decide_eq_true hkept, Bool.false_or, Bool.true_and]
  · have hother : n ∉ keptNotices := hn
    refine (hflagged n).trans ?_
    rw [decide_eq_false hother, Bool.false_and, Bool.and_false, Bool.or_false]
    rfl

end Sys2Proof.Proofs.BayReset
end

section
/-!
The max-sync rule on a CLAIM (R5, R6, R36): the clock, the sender's entry and the other bays' entries, and the captures (O26).
-/
namespace Sys2Proof.Proofs.MaxSync

open Sys2Proof Sys2Proof.Machine Sys2Proof.Proofs.Acts Sys2Proof.Proofs.Captures

variable {s : State} {b e own : Nat} {c : Claim}

/-! ## The command -/

theorem exec_claimFrame (h : s.Delivers b) (he : e < 43200) (hfeeder : c.feeder ≤ 3) (hbus : c.busId ≤ 255)
    (hdep : ∀ d ∈ c.dep, -43200 ≤ d ∧ d ≤ 86399) : exec (.claimFrame b e c) s = .next (s.deliverClaim b e c) := by
  have hok : claimFieldsOk e c = true := Peers.claimFieldsOk_iff.mpr ⟨he, hfeeder, hbus, hdep⟩
  have hexec : exec (.claimFrame b e c) s = .next (s.takeFrame b (claimFieldsOk e c) fun t => t.deliverClaim b e c) := rfl
  rw [hexec, FrameChecks.takeFrame_delivers h, if_pos hok]

/-! ## The three outcomes of the rule (R5) -/

/-- How far the sender's count is ahead of the own, modulo a day. -/
abbrev lead (s : State) (e : Nat) : Nat := (e + 43200 - s.clk.epoch) % 43200

theorem maxSync_still (h : lead s e = 0 ∨ 43195 ≤ lead s e) : s.maxSync b e = s := by
  have hlead : epochLead s.clk.epoch e = lead s e := rfl
  unfold State.maxSync
  dsimp only
  rw [hlead]
  obtain h | h := h
  · rw [if_pos h]
  · rw [if_neg (by omega), if_neg (by omega), if_neg (by omega)]

theorem maxSync_adopts (h : 1 ≤ lead s e ∧ lead s e ≤ 5) : s.maxSync b e = s.adopt e := by
  have hlead : epochLead s.clk.epoch e = lead s e := rfl
  unfold State.maxSync
  dsimp only
  rw [hlead, if_neg (by omega), if_pos h.2]

theorem maxSync_disagrees (h : 6 ≤ lead s e ∧ lead s e ≤ 43194) : s.maxSync b e = s.disagreeWith b := by
  have hlead : epochLead s.clk.epoch e = lead s e := rfl
  unfold State.maxSync
  dsimp only
  rw [hlead, if_neg (by omega), if_neg (by omega), if_pos h.2]

theorem lead_cases (s : State) (e : Nat) : (lead s e = 0 ∨ 43195 ≤ lead s e) ∨ (1 ≤ lead s e ∧ lead s e ≤ 5) ∨
    (6 ≤ lead s e ∧ lead s e ≤ 43194) := by
  generalize lead s e = d
  omega

/-! ## Adoption (R5, R8) -/

theorem adopt_clk (s : State) (e : Nat) : (s.adopt e).clk =
    { s.clk with epoch := e, tick := 0, disagree := agedDisagree s.clk.disagree, tickOwed := false } := by
  simp [State.adopt, State.restartAt, Boundary.aged_eq]

theorem adopt_entries (s : State) (e : Nat) : (s.adopt e).ptb.entries = agedEntries (decide (e < s.clk.epoch)) s.ptb.entries := by
  rw [State.adopt, Boundary.boundary_agedEntries]
  simp [State.restartAt]

theorem adopt_counter (h : s.log.counters.length = 24) :
    (s.adopt e).log.counters.length = 24 ∧ (s.adopt e).counter .clockAdopt = min 63 (s.counter .clockAdopt + 1) := by
  refine (keptByActs_counter .clockAdopt _).boundary (by decide) _ _ ⟨by simpa [State.restartAt] using h, ?_⟩
  exact (State.captureNat_counter (s.restartAt e) .clockAdopt _ _ h).trans (if_pos rfl)

theorem adopt_logged (s : State) (b e : Nat) (c : Claim) (own : Nat) :
    Logged s ((s.adopt e).takeClaim own b e c) .clockAdopt 20 fun r =>
      r.detail = BitVec.ofNat 32 s.clk.epoch ∧ r.epoch = e ∧ r.tick = 0 := by
  have hacts := logGrew_keptByActs ((s.restartAt e).captureNat .clockAdopt s.clk.epoch)
  have hafter : LogGrew ((s.restartAt e).captureNat .clockAdopt s.clk.epoch) ((s.adopt e).takeClaim own b e c) :=
    hacts.takeClaim (Spares.nil _) _ _ _ _ (hacts.boundary (Spares.nil _) _ _ (LogGrew.refl _))
  exact logged_of_capture (u := s.restartAt e) (LogGrew.of_log rfl) hafter (fun g h => h) ⟨rfl, rfl, rfl⟩

/-! ## Disagreement (R6) -/

theorem disagreeWith_begins (h : s.clk.disagree = none) : s.disagreeWith b =
    ((s.setClk { s.clk with disagree := some 0 }).captureNat .clockDisagree b).raise .clockDisagree := by
  unfold State.disagreeWith
  rw [h]
  rfl

theorem disagreeWith_renews (h : s.clk.disagree ≠ none) : s.disagreeWith b = s.setClk { s.clk with disagree := some 0 } := by
  obtain ⟨n, hn⟩ := Option.ne_none_iff_exists'.mp h
  unfold State.disagreeWith
  rw [hn]
  rfl

theorem disagreeWith_clk (s : State) (b : Nat) : (s.disagreeWith b).clk = { s.clk with disagree := some 0 } := by
  by_cases h : s.clk.disagree = none
  · rw [disagreeWith_begins h]
    simp
  · rw [disagreeWith_renews h]
    rfl

theorem disagree_logged (h : s.clk.disagree = none) (b e own : Nat) (c : Claim) :
    Logged s ((s.disagreeWith b).takeClaim own b e c) .clockDisagree 21 fun r =>
      r.detail = BitVec.ofNat 32 b ∧ r.epoch = s.clk.epoch ∧ r.tick = s.clk.tick := by
  have hacts := logGrew_keptByActs ((s.setClk { s.clk with disagree := some 0 }).captureNat .clockDisagree b)
  rw [disagreeWith_begins h]
  exact logged_of_capture (u := s.setClk { s.clk with disagree := some 0 }) (LogGrew.of_log rfl)
    (hacts.takeClaim (Spares.nil _) _ _ _ _ (hacts.raise _ (LogGrew.refl _))) (fun g h => h) ⟨rfl, rfl, rfl⟩

/-! ## The table (R36) -/

/-- The entry that a claim is stored as. -/
def claimEntry (own b e : Nat) (c : Claim) : PeerEntry :=
  { bay := b, epoch := e, claim := { c with dep := storedDeparture own e c.dep }, state := .live, silence := 0 }

theorem takeClaim_entries (s : State) (own b e : Nat) (c : Claim) :
    (s.takeClaim own b e c).ptb.entries = insertPeer (claimEntry own b e c) s.ptb.entries := by
  simp [State.takeClaim, State.reevaluate, claimEntry]

theorem find_insertPeer_self (p : PeerEntry) (ps : List PeerEntry) : (insertPeer p ps).find? (fun q => q.bay == p.bay) = some p := by
  induction ps with
  | nil => simp [insertPeer]
  | cons q qs ih =>
    unfold insertPeer
    split
    · simp
    · split
      · simp
      · rename_i hne
        rw [List.find?_cons_of_neg (by simpa using fun h => hne h.symm), ih]

theorem find_claimEntry (own b e : Nat) (c : Claim) (ps : List PeerEntry) :
    (insertPeer (claimEntry own b e c) ps).find? (fun q => q.bay == b) = some (claimEntry own b e c) :=
  find_insertPeer_self (claimEntry own b e c) ps

theorem find_insertPeer_other (p : PeerEntry) (ps : List PeerEntry) {n : Nat} (h : n ≠ p.bay) :
    (insertPeer p ps).find? (fun q => q.bay == n) = ps.find? (fun q => q.bay == n) := by
  have hp : (p.bay == n) = false := by simpa using h.symm
  induction ps with
  | nil => simp [insertPeer, h.symm]
  | cons q qs ih =>
    unfold insertPeer
    split
    · rw [List.find?_cons, hp]
    · split
      · rename_i heq
        rw [List.find?_cons, List.find?_cons, hp, ← heq, hp]
      · rw [List.find?_cons, List.find?_cons, ih]

theorem claimEntry_eq (s : State) (b e : Nat) (c : Claim) : claimEntry s.clk.epoch b e c =
    { bay := b, epoch := e,
      claim := { c with dep := if 43195 ≤ lead s e ∧ s.clk.epoch < e then c.dep.map dayEarlier else c.dep },
      state := .live, silence := 0 } := by
  have hday : dayEarlier = shiftDeparture := funext Boundary.dayEarlier_eq
  rw [hday]
  rfl

/-! ## DUP_BUS (R43) -/

/-- The table with the claim stored, the limits in effect followed (R36, R41, R42). -/
def stored (s : State) (own b e : Nat) (c : Claim) : State :=
  (s.setPtb { s.ptb with entries := insertPeer (claimEntry own b e c) s.ptb.entries }).capIsolated.evalLimits

theorem takeClaim_eq (s : State) (own b e : Nat) (c : Claim) : s.takeClaim own b e c = (stored s own b e c).evalDupBus := rfl

theorem stored_frame (s : State) (own b e : Nat) (c : Claim) : (stored s own b e c).ses = s.ses ∧
    (stored s own b e c).ptb.dupBus = s.ptb.dupBus ∧
    (stored s own b e c).ptb.entries = insertPeer (claimEntry own b e c) s.ptb.entries := by
  have hlimits (u : State) : u.evalLimits.ptb.dupBus = u.ptb.dupBus := by
    unfold State.evalLimits
    dsimp only
    split <;> simp
  exact ⟨by simp [stored], (hlimits _).trans (by simp), by simp [stored]⟩

theorem busReporter_congr {s t : State} (hentries : t.ptb.entries = s.ptb.entries) (hses : t.ses = s.ses) :
    t.busReporter = s.busReporter := by
  unfold State.busReporter
  rw [hentries, hses]

/-- Where no LIVE entry reported the live bus, the one that reports it once a claim is stored is the sender's. -/
theorem reporter_stored {bay : Nat} (hnone : s.busReporter = none) (h : (stored s own b e c).busReporter = some bay) :
    bay = b ∧ (stored s own b e c).liveBus = c.busId := by
  obtain ⟨hses, -, hentries⟩ := stored_frame s own b e c
  unfold State.busReporter at h hnone
  unfold State.liveBus
  rw [hses, hentries] at h
  rw [hses]
  cases hv : s.ses with
  | none => simp [hv] at h
  | some v =>
    simp only [hv, Option.map_eq_some_iff, Option.map_eq_none_iff] at h hnone
    obtain ⟨p, hp, rfl⟩ := h
    have hreports := List.find?_some hp
    obtain rfl | hold := Peers.mem_insertPeer (List.mem_of_find?_eq_some hp)
    · have hbus : c.busId = v.busId := by simpa [claimEntry, PeerEntry.isLive] using hreports
      exact ⟨rfl, hbus.symm⟩
    · exact absurd hreports (List.find?_eq_none.mp hnone p hold)

/-- DUP_BUS that a claim begins is captured with its sender and the bus that both report. -/
theorem dupBus_logged {r : State} (hbefore : LogGrew r s) (hnone : s.busReporter = none) (hoff : s.ptb.dupBus = false)
    (hon : (s.takeClaim own b e c).ptb.dupBus = true) :
    Logged r (s.takeClaim own b e c) .dupBus 19 fun r => r.detail = BitVec.ofNat 32 b ∧ r.busId = c.busId := by
  obtain ⟨-, hdup, -⟩ := stored_frame s own b e c
  rw [takeClaim_eq, Peers.evalDupBus_dupBus] at hon
  obtain ⟨bay, hbay⟩ := Option.isSome_iff_exists.mp hon
  obtain ⟨rfl, hbus⟩ := reporter_stored hnone hbay
  have hacts := logGrew_keptByActs r
  have hstored : LogGrew r (stored s own bay e c) := hacts.evalLimits (hacts.congr hbefore (by simp) (by simp))
  rw [takeClaim_eq]
  rw [hoff] at hdup
  generalize stored s own bay e c = u at *
  have hbegun : u.evalDupBus = ((u.setPtb { u.ptb with dupBus := true }).captureNat .dupBus bay).raise .dupBus := by
    unfold State.evalDupBus
    rw [hbay, hdup]
    rfl
  rw [hbegun]
  exact logged_of_capture (u := u.setPtb { u.ptb with dupBus := true }) (b := none) (hacts.congr hstored rfl rfl)
    (LogGrew.of_log rfl) (fun g h => h) ⟨rfl, hbus⟩

/-- Where the invariant holds, DUP_BUS reads as the LIVE entries say. -/
theorem busReporter_none (h : s.PeersOk) (hoff : s.ptb.dupBus = false) : s.busReporter = none := by
  obtain ⟨-, -, hdup⟩ := Peers.peersOk_iff.mp h
  rw [hoff] at hdup
  exact Option.isSome_eq_false_iff.mp hdup.symm |> Option.isNone_iff_eq_none.mp

/-- An epoch boundary leaves no LIVE entry that was not LIVE, and no session of another bus. -/
theorem boundary_busReporter (h : s.PeersOk) (hnone : s.busReporter = none) (rollover restart : Bool) :
    (s.boundary rollover restart).busReporter = none := by
  obtain ⟨⟨-, -, -, -, hok⟩, -, -⟩ := Peers.peersOk_iff.mp h
  have hsession := Accounts.boundary_sameSession s rollover restart
  have hentries := Peers.boundary_entries s rollover restart
  unfold State.busReporter at hnone ⊢
  cases hw : (s.boundary rollover restart).ses with
  | none => rfl
  | some w =>
    obtain ⟨v, hv, hcarried⟩ := hsession w hw
    have hbus : w.busId = v.busId := congrArg Prod.fst hcarried
    simp only [Option.mem_def.mp hv, Option.map_eq_none_iff, List.find?_eq_none] at hnone ⊢
    intro q hq
    rw [hentries, Peers.mem_agedPeers] at hq
    obtain ⟨-, p, hp, rfl⟩ := hq
    obtain ⟨o, ho, hlive, hreport⟩ : ∃ o ∈ s.ptb.entries, p.silence = o.silence ∧ p.claim.busId = o.claim.busId := by
      split at hp
      · obtain ⟨o, ho, rfl⟩ := List.mem_map.mp hp
        exact ⟨o, ho, rfl, rfl⟩
      · exact ⟨p, hp, rfl, rfl⟩
    have hstate : o.state = .live ↔ o.silence < 3 := (hok o ho).1.2.2.2.2.2.2
    have hquiet := hnone o ho
    simp only [PeerEntry.isLive, Bool.and_eq_true, beq_iff_eq, not_and, hstate] at hquiet
    intro hreports
    simp only [PeerEntry.isLive, PeerEntry.older, Config.staleSilence, Bool.and_eq_true, beq_iff_eq] at hreports
    obtain ⟨hyoung, hsame⟩ := hreports
    have hnotStale : ¬3 ≤ p.silence + 1 := fun hstale => by simp [hstale] at hyoung
    exact hquiet (by omega) (by rw [← hreport, hsame, hbus])

/-- The rule leaves no LIVE entry that reports the live bus where there was none. -/
theorem maxSync_busReporter (h : s.PeersOk) (hoff : s.ptb.dupBus = false) (b e : Nat) : (s.maxSync b e).busReporter = none := by
  have hnone := busReporter_none h hoff
  obtain hd | hd | hd := lead_cases s e
  · rwa [maxSync_still hd]
  · rw [maxSync_adopts hd, State.adopt]
    have hclock : ((s.restartAt e).captureNat .clockAdopt s.clk.epoch).busReporter = s.busReporter :=
      busReporter_congr (by simp [State.restartAt]) (by simp [State.restartAt])
    refine boundary_busReporter ?_ (hclock.trans hnone) _ _
    exact Peers.peersOk_congr h (Peers.station_congr (by simp [State.restartAt])) (by simp [State.restartAt])
      (by simp [State.restartAt]) (Peers.liveBus_congr (by simp [State.restartAt]))
  · rw [maxSync_disagrees hd]
    exact (busReporter_congr (by simp) (by simp)).trans hnone

theorem maxSync_dupBus (h : s.PeersOk) (hoff : s.ptb.dupBus = false) (b e : Nat) : (s.maxSync b e).ptb.dupBus = false := by
  obtain ⟨-, -, hdup⟩ := Peers.peersOk_iff.mp (Peers.peersOk_maxSync b e h)
  rw [hdup, maxSync_busReporter h hoff b e]
  rfl

/-! ## The claim delivered (O26) -/

theorem deliverClaim_clk (s : State) (b e : Nat) (c : Claim) : (s.deliverClaim b e c).clk = (s.maxSync b e).clk := by
  simp [State.deliverClaim]

theorem maxSync_entries (s : State) (b e : Nat) : (s.maxSync b e).ptb.entries =
    if 1 ≤ lead s e ∧ lead s e ≤ 5 then agedEntries (decide (e < s.clk.epoch)) s.ptb.entries else s.ptb.entries := by
  obtain hd | hd | hd := lead_cases s e
  · rw [maxSync_still hd, if_neg (by omega)]
  · rw [maxSync_adopts hd, if_pos hd, adopt_entries]
  · rw [maxSync_disagrees hd, if_neg (by omega)]
    simp

/-- What a claim that begins a disagreement shows. -/
theorem disagree_begins (hd : 6 ≤ lead s e ∧ lead s e ≤ 43194) (hnone : s.clk.disagree = none) (h24 : s.log.counters.length = 24)
    (c : Claim) : (s.deliverClaim b e c).counter .clockDisagree = min 63 (s.counter .clockDisagree + 1) ∧
      (s.deliverClaim b e c).flagged .clockDisagree = true ∧
      Logged s (s.deliverClaim b e c) .clockDisagree 21 fun r =>
        r.detail = BitVec.ofNat 32 b ∧ r.epoch = s.clk.epoch ∧ r.tick = s.clk.tick := by
  rw [State.deliverClaim, maxSync_disagrees hd]
  refine ⟨((keptByActs_counter .clockDisagree _).takeClaim (by decide) _ _ _ _ ?_).2,
    (keptByActs_flagged .clockDisagree).takeClaim (Spares.nil _) _ _ _ _ ?_, disagree_logged hnone _ _ _ _⟩ <;>
    rw [disagreeWith_begins hnone]
  · refine ⟨by simpa using h24, ?_⟩
    exact (State.captureNat_counter (s.setClk { s.clk with disagree := some 0 }) .clockDisagree b _ h24).trans (if_pos rfl)
  · simp

/-- Settles O26: each outcome of the rule by its clause, then the table and the captures over whatever the rule left. -/
theorem claimFollowsMaxSync : Obligations.ClaimFollowsMaxSync := by
  intro b e c s hdelivers _ he hfeeder hbus hdep h24
  refine ⟨_, exec_claimFrame hdelivers he hfeeder hbus hdep, ?_⟩
  have hentries : (s.deliverClaim b e c).ptb.entries = insertPeer (claimEntry s.clk.epoch b e c) (s.maxSync b e).ptb.entries :=
    takeClaim_entries _ _ _ _ _
  have hgrew : LogGrew s (s.maxSync b e) :=
    (logGrew_keptByActs s).maxSync (Spares.nil _) (Spares.nil _) b e (LogGrew.refl s)
  beta_reduce
  intro d
  have hlead : d = lead s e := rfl
  clear_value d
  subst hlead
  refine ⟨fun hd => ?_, fun hd => ⟨?_, ?_, ?_⟩, fun hd => ⟨?_, fun hnone => disagree_begins hd hnone h24 c, fun hsome => ?_⟩, ?_,
    fun n hn => ?_, fun hpeers hoff hon => ?_, by simp, by simp, by simp, by simp⟩
  · rw [deliverClaim_clk, maxSync_still hd]
  · rw [deliverClaim_clk, maxSync_adopts hd, adopt_clk]
  · rw [State.deliverClaim, maxSync_adopts hd]
    exact ((keptByActs_counter .clockAdopt _).takeClaim (by decide) _ _ _ _ (adopt_counter h24)).2
  · rw [State.deliverClaim, maxSync_adopts hd]
    exact adopt_logged s b e c _
  · rw [deliverClaim_clk, maxSync_disagrees hd, disagreeWith_clk]
  · rw [State.deliverClaim, maxSync_disagrees hd, disagreeWith_renews hsome]
    have hacts := keptByActs_counter .clockDisagree (s.counter .clockDisagree)
    have hrenewed := hacts.congr (s := s) (t := s.setClk { s.clk with disagree := some 0 }) ⟨h24, rfl⟩ rfl rfl
    exact (hacts.takeClaim (by decide) _ _ _ _ hrenewed).2
  · rw [hentries, find_claimEntry, claimEntry_eq]
  · rw [hentries, find_insertPeer_other _ _ (by exact hn), maxSync_entries]
  · exact dupBus_logged hgrew (maxSync_busReporter hpeers hoff b e) (maxSync_dupBus hpeers hoff b e) hon

end Sys2Proof.Proofs.MaxSync
end

section
/-!
The places of the transmit queue (R20, R21): what the link holds for one key, and which acts leave it as it is.
-/
namespace Sys2Proof.Proofs.Places

open Sys2Proof Sys2Proof.Machine

/-- The entries of a queue with a key. -/
def keyed (q : List QEntry) (k : FrameKey) : List QEntry := q.filter fun e => decide (keyOf e.frame = k)

/-- The transmission that drives a key's frame, with what is held back for its end. -/
def driving (a : Access) (k : FrameKey) : Option (List Byte × Option Held) :=
  match a with
  | .sending k' bytes held => if k' = k then some (bytes, held) else none
  | _ => none

/-- What the link holds for a key: the entries queued, and the transmission of its frame. -/
def place (s : State) (k : FrameKey) : List QEntry × Option (List Byte × Option Held) :=
  (keyed s.lnk.queue k, driving s.lnk.access k)

variable {s t : State} {k : FrameKey} {f : Frame}

/-! ## What the claims say, of a place -/

theorem mem_keyed {q : List QEntry} {e : QEntry} : e ∈ keyed q k ↔ e ∈ q ∧ keyOf e.frame = k := by simp [keyed]

theorem driving_iff {a : Access} {bytes : List Byte} {held : Option Held} :
    driving a k = some (bytes, held) ↔ a = .sending k bytes held := by
  unfold driving
  split
  · by_cases h : ‹FrameKey› = k <;> simp [h]
  · rename_i hquiet
    simp only [reduceCtorEq, false_iff]
    exact fun h => hquiet _ _ _ h

theorem driving_none_iff {a : Access} : driving a k = none ↔ a.drives k = false := by
  unfold driving Access.drives
  cases a with
  | sending k' bytes held => by_cases h : k' = k <;> simp [h]
  | _ => simp

theorem driving_of_quiet {a : Access} (h : a.isSending = false) : driving a k = none := by
  cases a with
  | sending k' bytes held => cases h
  | _ => rfl

/-- Frames held to be sent, by their place. -/
theorem holds_iff : s.Holds f ↔ (∃ e ∈ (place s (keyOf f)).1, e.frame = f) ∨
    ∃ bytes, (place s (keyOf f)).2 = some (bytes, some (.replace f)) := by
  have hqueue : (∃ e ∈ keyed s.lnk.queue (keyOf f), e.frame = f) ↔ ∃ e ∈ s.lnk.queue, e.frame = f := by
    constructor
    · rintro ⟨e, he, rfl⟩
      exact ⟨e, (mem_keyed.mp he).1, rfl⟩
    · rintro ⟨e, he, rfl⟩
      exact ⟨e, mem_keyed.mpr ⟨he, rfl⟩, rfl⟩
  simp only [place, hqueue, driving_iff]

/-- A frame that leaves the queue unsent, by its place. -/
theorem unqueued_iff : Unqueued s t k ↔ ((place s k).2 = none → (place t k).1 = []) ∧
    ∀ bytes held, (place s k).2 = some (bytes, held) → (place t k).2 = some (bytes, some .remove) := by
  have hempty : (keyed t.lnk.queue k = []) ↔ ∀ e ∈ t.lnk.queue, keyOf e.frame ≠ k := by
    simp [keyed, List.filter_eq_nil_iff]
  unfold Unqueued
  simp only [place, driving_iff, driving_none_iff, hempty]

theorem holds_congr (h : place t (keyOf f) = place s (keyOf f)) : t.Holds f ↔ s.Holds f := by rw [holds_iff, holds_iff, h]

theorem place_of_lnk (h : t.lnk = s.lnk) (k : FrameKey) : place t k = place s k := by rw [place, place, h]

/-! ## The acts of the queue -/

theorem keyed_removeAt_same (q : List QEntry) (k : FrameKey) : keyed (removeAt q k) k = [] := by
  rw [Transmission.removeAt_eq, keyed, List.filter_filter, List.filter_eq_nil_iff]
  simp

theorem keyed_removeAt_other (q : List QEntry) {j : FrameKey} (h : j ≠ k) : keyed (removeAt q j) k = keyed q k := by
  rw [Transmission.removeAt_eq, keyed, keyed, List.filter_filter]
  refine List.filter_congr fun e _ => ?_
  by_cases he : keyOf e.frame = k
  · simp [he, h.symm]
  · simp [he]

theorem keyed_replaceAt_other (q : List QEntry) (h : keyOf f ≠ k) : keyed (replaceAt q (keyOf f) f) k = keyed q k := by
  induction q with
  | nil => rfl
  | cons e q ih =>
    have hcons : replaceAt (e :: q) (keyOf f) f = (if e.hasKey (keyOf f) then freshEntry f else e) :: replaceAt q (keyOf f) f := rfl
    rw [hcons, keyed, keyed, List.filter_cons, List.filter_cons]
    have hkeep := ih
    unfold keyed at hkeep
    rw [hkeep]
    by_cases he : keyOf e.frame = keyOf f
    · simp [QEntry.hasKey, he, h, freshEntry]
    · simp [QEntry.hasKey, he]

theorem keyed_append_other (q : List QEntry) (h : keyOf f ≠ k) : keyed (q ++ [freshEntry f]) k = keyed q k := by
  simp [keyed, freshEntry, h]

theorem place_rechoose (s : State) (k : FrameKey) : place s.rechoose k = place s k := by
  unfold State.rechoose
  split
  · rfl
  · rename_i hquiet
    have hchosen : driving (accessChosen s.lnk s.ownBay) k = none := by
      unfold accessChosen
      split
      · rfl
      · split <;> rfl
    have hnone : driving s.lnk.access k = none := driving_of_quiet (by simpa using hquiet)
    simp [place, hchosen, hnone]

theorem place_queueChanged (s : State) (j k : FrameKey) : place (s.queueChanged j) k = place s k := by
  unfold State.queueChanged
  split
  · split
    · exact place_rechoose s k
    · rfl
  · exact place_rechoose s k

/-- Taking a frame in touches the place of its own key alone. -/
theorem place_enqueue_other (s : State) (h : keyOf f ≠ k) : place (s.enqueue f) k = place s k := by
  unfold State.enqueue
  dsimp only
  split
  · rfl
  · split
    · rename_i j bytes held haccess
      split
      · rename_i hj
        subst hj
        simp [place, haccess, driving, h]
      · split
        · simp [place, haccess, keyed_replaceAt_other _ h]
        · simp [place, haccess, keyed_append_other _ h]
    · split
      · rw [place_queueChanged]
        simp [place, keyed_replaceAt_other _ h]
      · rw [place_queueChanged]
        simp [place, keyed_append_other _ h]

/-- Taking a frame out touches the place of its own key alone. -/
theorem place_dequeue_other (s : State) {j : FrameKey} (h : j ≠ k) : place (s.dequeue j) k = place s k := by
  unfold State.dequeue
  split
  · rename_i i bytes held haccess
    split
    · rename_i hi
      subst hi
      simp [place, haccess, driving, h]
    · simp [place, haccess, keyed_removeAt_other _ h]
  · rw [place_queueChanged]
    simp [place, keyed_removeAt_other _ h]

/-- A place whose frame has been taken out: no entry, or its removal held for the end of its transmission (R21). -/
abbrev Emptied (p q : List QEntry × Option (List Byte × Option Held)) : Prop :=
  (p.2 = none → q.1 = [] ∧ q.2 = none) ∧ ∀ bytes held, p.2 = some (bytes, held) → q.2 = some (bytes, some .remove)

theorem emptied_dequeue (s : State) (k : FrameKey) : Emptied (place s k) (place (s.dequeue k) k) := by
  constructor
  · intro hnone
    have hquiet := driving_none_iff.mp hnone
    unfold State.dequeue
    split
    · rename_i i bytes held haccess
      have hi : i ≠ k := fun h => by simp [haccess, Access.drives, h] at hquiet
      rw [if_neg hi]
      exact ⟨keyed_removeAt_same _ _, by simpa [place, haccess, driving] using hi⟩
    · rw [place_queueChanged]
      exact ⟨keyed_removeAt_same _ _, hnone⟩
  · intro bytes held hsome
    have haccess := driving_iff.mp hsome
    unfold State.dequeue
    rw [haccess]
    simp [place, driving]

theorem Emptied.trans {p q r : List QEntry × Option (List Byte × Option Held)} (h : Emptied p q) (h' : Emptied q r) : Emptied p r :=
  ⟨fun hp => h'.1 (h.1 hp).2, fun bytes held hp => h'.2 _ _ (h.2 bytes held hp)⟩

/-- A run of acts, each of which leaves a place or takes its frame out, leaves it or takes its frame out. -/
theorem foldl_leaves_or_empties {α : Type} {g : State → α → State} (xs : List α) (s : State)
    (hstep : ∀ (t : State) (x : α), place (g t x) k = place t k ∨ Emptied (place t k) (place (g t x) k)) :
    place (xs.foldl g s) k = place s k ∨ Emptied (place s k) (place (xs.foldl g s) k) := by
  induction xs generalizing s with
  | nil => exact .inl rfl
  | cons x xs ih =>
    obtain hx | hx := hstep s x <;> obtain hxs | hxs := ih (g s x)
    · exact .inl (hxs.trans hx)
    · exact .inr (hx ▸ hxs)
    · exact .inr (by rwa [List.foldl_cons, hxs])
    · exact .inr (hx.trans hxs)

/-- Where one of them takes the frame out, the run does. -/
theorem emptied_foldl_of_mem {α : Type} {g : State → α → State} {xs : List α} {x : α} (s : State) (hmem : x ∈ xs)
    (hstep : ∀ (t : State) (x : α), place (g t x) k = place t k ∨ Emptied (place t k) (place (g t x) k))
    (hself : ∀ t : State, Emptied (place t k) (place (g t x) k)) : Emptied (place s k) (place (xs.foldl g s) k) := by
  obtain ⟨before, after, rfl⟩ := List.append_of_mem hmem
  rw [List.foldl_append, List.foldl_cons]
  have hbefore := foldl_leaves_or_empties before s hstep
  generalize before.foldl g s = u at hbefore ⊢
  have hout : Emptied (place s k) (place (g u x) k) := by
    obtain h | h := hbefore
    · exact h ▸ hself u
    · exact h.trans (hself u)
  obtain h | h := foldl_leaves_or_empties after (g u x) hstep
  · rwa [h]
  · exact hout.trans h

theorem unqueued_of_emptied (h : Emptied (place s k) (place t k)) : Unqueued s t k :=
  unqueued_iff.mpr ⟨fun hnone => (h.1 hnone).1, h.2⟩

theorem dequeue_leaves_or_empties (s : State) (j k : FrameKey) :
    place (s.dequeue j) k = place s k ∨ Emptied (place s k) (place (s.dequeue j) k) := by
  by_cases h : j = k
  · exact .inr (h ▸ emptied_dequeue s j)
  · exact .inl (place_dequeue_other s h)

/-! ## The parts of an epoch boundary -/

theorem place_sendEvent (s : State) (d r : Nat) (h : FrameKey.event ≠ k) : place (s.sendEvent d r) k = place s k := by
  unfold State.sendEvent
  dsimp only
  rw [place_of_lnk (State.judgeEvent_frame _ _ _ _ _).2.1]
  exact (place_enqueue_other (f := .event _ d r) _ h).trans rfl

theorem place_rsvCountdown (s : State) (h : FrameKey.event ≠ k) : place s.rsvCountdown k = place s k := by
  unfold State.rsvCountdown State.refreshBoundary
  split
  · rfl
  · dsimp only
    split
    · exact place_of_lnk (by simp) k
    · split
      · split
        · exact (place_sendEvent _ _ _ h).trans rfl
        · rfl
      · rfl

theorem place_claimAndLatch (s : State) (h : FrameKey.claim ≠ k) : place s.claimAndLatch k = place s k := by
  unfold State.claimAndLatch
  dsimp only
  have hqueued : place ((s.setLastClaim (some { claim := s.buildClaim, epoch := s.clk.epoch })).enqueue (.claim s.buildClaim)) k =
      place s k := (place_enqueue_other (f := .claim s.buildClaim) _ h).trans rfl
  split
  · split
    · exact hqueued
    · exact (place_of_lnk (by simp) k).trans hqueued
  · rfl

theorem place_sesBoundary (s : State) (h : FrameKey.claim ≠ k) : place s.sesBoundary k = place s k :=
  (place_claimAndLatch _ h).trans (place_of_lnk (by simp) k)

theorem place_reserveAndSession (s : State) (hclaim : FrameKey.claim ≠ k) (hevent : FrameKey.event ≠ k) :
    place s.reserveAndSession k = place s k := by
  unfold State.reserveAndSession State.reserveAndClaim
  rw [place_of_lnk (State.withdrawalCheck_frame _).2.1]
  split
  · rw [place_rsvCountdown _ hevent, place_sesBoundary _ hclaim]
  · rw [place_sesBoundary _ hclaim, place_rsvCountdown _ hevent]

theorem place_endWindow (s : State) (w : WindowFigures) (h : FrameKey.query ≠ k) : place (s.endWindow w) k = place s k :=
  (place_dequeue_other _ h).trans rfl

/-- The close of a window with a candidate: its QUERY goes, and the TAKEN comes. -/
theorem closeRestored_lnk (s : State) (q : Query) (c : Candidate) : (s.closeRestored q c).lnk =
    (((s.endWindow q.closed).modSes fun v => v.restored c.ctx .restored).enqueue (.taken q.busId c.bay)).lnk := by
  simp [State.closeRestored]

theorem closeCold_lnk (s : State) (q : Query) : (s.closeCold q).lnk = (s.endWindow q.closed).lnk := by
  unfold State.closeCold
  dsimp only
  split <;> simp

theorem place_closeRestored (s : State) (q : Query) (c : Candidate) (hquery : FrameKey.query ≠ k) (htaken : FrameKey.taken ≠ k) :
    place (s.closeRestored q c) k = place s k := by
  rw [place_of_lnk (closeRestored_lnk s q c), place_enqueue_other (f := .taken q.busId c.bay) _ htaken]
  exact (place_of_lnk (by simp) k).trans (place_endWindow s q.closed hquery)

theorem place_windowBoundary (s : State) (hquery : FrameKey.query ≠ k) (htaken : FrameKey.taken ≠ k) :
    place s.windowBoundary k = place s k := by
  unfold State.windowBoundary
  split
  · rfl
  · split
    · split
      · exact place_closeRestored s _ _ hquery htaken
      · exact (place_of_lnk (closeCold_lnk s _) k).trans (place_endWindow s _ hquery)
    · rfl

theorem place_foldl_other {g : State → ParkEntry → State} (es : List ParkEntry) (s : State)
    (h : ∀ (t : State) (e : ParkEntry), place (g t e) k = place t k) : place (es.foldl g s) k = place s k := by
  induction es generalizing s with
  | nil => rfl
  | cons e es ih => rw [List.foldl_cons, ih, h]

theorem expireContext_lnk (s : State) (e : ParkEntry) : (s.expireContext e).lnk = (s.dropOffer e).lnk := by
  simp [State.expireContext]

/-- An entry that expires loses its OFFER where it was OFFERED. -/
theorem place_expireContext (s : State) (e : ParkEntry) (k : FrameKey) :
    place (s.expireContext e) k = if e.offered.isSome then place (s.dequeue (.offer e.busId)) k else place s k := by
  rw [place_of_lnk (expireContext_lnk s e)]
  unfold State.dropOffer
  split <;> rfl

theorem place_waitsBoundary_other (s : State) (h : ∀ bus, FrameKey.offer bus ≠ k) : place s.waitsBoundary k = place s k :=
  (place_foldl_other _ _ fun t e => place_dequeue_other t (h e.busId)).trans rfl

theorem place_holdsBoundary_other (s : State) (h : ∀ bus, FrameKey.offer bus ≠ k) : place s.holdsBoundary k = place s k := by
  refine (place_foldl_other _ _ fun t e => ?_).trans rfl
  rw [place_expireContext]
  split
  · exact place_dequeue_other t (h e.busId)
  · rfl

/-- A place one epoch boundary later: the attempt counts start anew (R22). -/
def aged (p : List QEntry × Option (List Byte × Option Held)) : List QEntry × Option (List Byte × Option Held) :=
  (p.1.map QEntry.boundary, p.2)

theorem place_aged (s : State) (k : FrameKey) :
    place (s.setLnk { s.lnk with queue := s.lnk.queue.map QEntry.boundary }) k = aged (place s k) := by
  have hkeyed : keyed (s.lnk.queue.map QEntry.boundary) k = (keyed s.lnk.queue k).map QEntry.boundary := by
    rw [keyed, keyed, List.filter_map]
    rfl
  simp [place, aged, hkeyed]

theorem place_missEpoch (s : State) (k : FrameKey) : place s.missEpoch k = place s k := by
  rw [place, place, Isolation.missEpoch_lnk]

theorem place_listeningBoundary (s : State) (k : FrameKey) : place s.listeningBoundary k = place s k := by
  unfold State.listeningBoundary
  split
  · dsimp only
    split
    · rw [place, place, Isolation.enterIsolated_lnk]
      rfl
    · rfl
  · rfl

theorem place_claimBoundary_other (s : State) (h : FrameKey.claim ≠ k) : place s.claimBoundary k = place s k := by
  obtain ⟨e, -⟩ | ⟨e, -⟩ | ⟨e, -⟩ := s.claimBoundary_cases <;> rw [e]
  · exact place_missEpoch s k
  · rw [place_missEpoch, place_dequeue_other _ h]

theorem place_expireTaken_other (s : State) (h : FrameKey.taken ≠ k) : place s.expireTaken k = place s k := by
  unfold State.expireTaken
  split
  · rfl
  · exact place_dequeue_other _ h

/-- LNK's boundary touches the places of TAKEN and CLAIM alone, but for the counts of attempts. -/
theorem place_lnkBoundary_other (s : State) (htaken : FrameKey.taken ≠ k) (hclaim : FrameKey.claim ≠ k) :
    place s.lnkBoundary k = aged (place s k) := by
  unfold State.lnkBoundary
  dsimp only
  rw [place_rechoose, ← place_aged]
  generalize s.setLnk { s.lnk with queue := s.lnk.queue.map QEntry.boundary } = x
  have hexpired : place (if x.lnk.queue.any QEntry.isExpired then x.expireTaken else x) k = place x k := by
    split
    · exact place_expireTaken_other x htaken
    · rfl
  generalize (if x.lnk.queue.any QEntry.isExpired then x.expireTaken else x) = y at hexpired ⊢
  rw [← hexpired]
  split
  · rfl
  · exact place_listeningBoundary y k
  · exact place_claimBoundary_other y hclaim
  · exact place_claimBoundary_other y hclaim

end Sys2Proof.Proofs.Places
end

section
/-!
An epoch boundary in its stages (R4, R8, R60, R64): the clock with the day rollover, the peer table and the link, then the
reserve unit, the session and the park table.
-/
namespace Sys2Proof.Proofs.Stages

open Sys2Proof Sys2Proof.Machine Sys2Proof.Proofs.Boundary Sys2Proof.Proofs.Acts

variable {s : State}

/-! ## The rollover in the claims' words (R58, R144) -/

theorem chain_rolled (c : Chain) : c.rolled = chainDayLater c := by
  have hday : dayEarlier = shiftDeparture := funext dayEarlier_eq
  rw [chainDayLater, hday]
  rfl

theorem entry_rolled (e : ParkEntry) : e.rolled = parkedDayLater e := by
  have hage : min 7 (e.dayAge + 1) = if e.dayAge < 7 then e.dayAge + 1 else 7 := by
    split <;> omega
  simp only [ParkEntry.rolled, parkedDayLater, hage, Context.rolled, chain_rolled]
  rfl

/-! ## The first stage: the clock, the rollover, the peer table -/

/-- The day rollover, where the boundary is one (R4). -/
def rolledIf (r : Bool) (s : State) : State := if r then s.dayRollover else s

/-- The clock with the next epoch count and the disagreement an epoch older (R2, R6). -/
def dated (s : State) : State := (advancedFirst s).setClk (advancedFirst s).clk.aged

/-- An epoch boundary of the local advance up to the peer table. -/
def opened (s : State) : State := (rolledIf (s.clk.epoch == 43199) (dated s)).ptbBoundary

theorem epochBoundary_stages (h : s.AtEpochEnd) :
    s.epochBoundary = (opened s).lnkBoundary.sessionAndPark.bumpChoices.follow := by
  rw [epochBoundary_eq h]
  rfl

theorem rolledIf_frame (r : Bool) (s : State) : (rolledIf r s).clk = s.clk ∧ (rolledIf r s).lnk = s.lnk ∧
    (rolledIf r s).lastClaim = s.lastClaim ∧ (rolledIf r s).alt = s.alt ∧ (rolledIf r s).stg = s.stg ∧
    (rolledIf r s).rsv = s.rsv ∧ (rolledIf r s).log = s.log ∧ (rolledIf r s).prt = s.prt ∧ (rolledIf r s).cfg = s.cfg := by
  unfold rolledIf
  split <;> simp

theorem rolledIf_ses (r : Bool) (s : State) :
    (rolledIf r s).ses = s.ses.map fun v => if r then { v with chain := chainDayLater v.chain } else v := by
  cases r
  · simp [rolledIf]
  · simp [rolledIf, State.dayRollover, State.modSes, chain_rolled]

theorem rolledIf_prk (r : Bool) (s : State) : (rolledIf r s).prk = { s.prk with
    entries := s.prk.entries.map fun e => if r then parkedDayLater e else e
    query := s.prk.query.map fun q => if r then { q with best := q.best.map Candidate.rolled } else q } := by
  have hrolled : ParkEntry.rolled = parkedDayLater := funext entry_rolled
  cases r
  · simp [rolledIf]
  · simp [rolledIf, State.dayRollover, State.prkRollover, State.modSes, ← hrolled]

/-- What the first stage leaves as it was, and the registers that it moves. -/
theorem opened_frame (s : State) : (opened s).clk = { s.clk with
      epoch := s.nextCount, disagree := agedDisagree s.clk.disagree, tickOwed := true } ∧ (opened s).lnk = s.lnk ∧
    (opened s).lastClaim = s.lastClaim ∧ (opened s).cfg = s.cfg := by
  obtain ⟨hclk, hlnk, hclaim, -, -, -, -, -, hcfg⟩ := rolledIf_frame (s.clk.epoch == 43199) (dated s)
  unfold opened
  simp only [State.ptbBoundary_frame, hclk, hlnk, hclaim, hcfg]
  exact ⟨rfl, rfl, rfl, rfl⟩

theorem opened_ses (s : State) : (opened s).ses =
    s.ses.map fun v => if s.clk.epoch = 43199 then { v with chain := chainDayLater v.chain } else v := by
  have hses := rolledIf_ses (s.clk.epoch == 43199) (dated s)
  simp only [beq_iff_eq] at hses
  rw [opened, (State.ptbBoundary_frame _).2.2.1, hses]
  rfl

theorem opened_prk (s : State) : (opened s).prk = { s.prk with
    entries := s.prk.entries.map fun e => if s.clk.epoch = 43199 then parkedDayLater e else e
    query := s.prk.query.map fun q => if s.clk.epoch = 43199 then { q with best := q.best.map Candidate.rolled } else q } := by
  have hprk := rolledIf_prk (s.clk.epoch == 43199) (dated s)
  simp only [beq_iff_eq] at hprk
  rw [opened]
  simp only [State.ptbBoundary_frame]
  rw [hprk]
  rfl

/-- The first stage reaches the log and the flags through DUP_BUS and its notices alone. -/
theorem opened_kept {out : List Cause} {P : State → Prop} (hP : KeptByActs out P) (hc : Spares out [.dupBus]) (h : P s) :
    P (opened s) := by
  obtain ⟨-, -, -, -, -, -, hlog, hprt, -⟩ := rolledIf_frame (s.clk.epoch == 43199) (dated s)
  exact hP.reevaluate hc (hP.congr h hlog (congrArg Prt.flags hprt))

/-! ## The order of the reserve unit, the session and the park table -/

/-- The park table comes first or last (R149, log entry 12). -/
theorem sessionAndPark_cases (s : State) : s.sessionAndPark = s.reserveAndSession.prkBoundary ∨
    s.closesForWant = true ∧ s.sessionAndPark = s.prkBoundary.reserveAndSession := by
  unfold State.sessionAndPark
  split
  · rename_i h
    exact .inr ⟨(Bool.and_eq_true _ _ ▸ h).1, rfl⟩
  · exact .inl rfl

theorem closesForWant_of_open (h : ∀ q ∈ s.prk.query, 1 < q.countdown) : s.closesForWant = false := by
  unfold State.closesForWant
  split
  · rfl
  · rename_i q hq
    have hlong := h q hq
    simp [show ¬q.countdown ≤ 1 by omega]

/-- With no window about to close the park table comes last. -/
theorem sessionAndPark_of_open (h : ∀ q ∈ s.prk.query, 1 < q.countdown) :
    s.sessionAndPark = s.reserveAndSession.prkBoundary := by
  unfold State.sessionAndPark
  rw [closesForWant_of_open h]
  rfl

end Sys2Proof.Proofs.Stages
end

section
/-!
Holds and TAKEN-waits at an epoch boundary (R143, R157): what becomes of an entry, of its queued OFFER, and of one that expires
(O57).
-/
namespace Sys2Proof.Proofs.Holds

open Sys2Proof Sys2Proof.Machine Sys2Proof.Proofs.Acts Sys2Proof.Proofs.Captures Sys2Proof.Proofs.Stages Sys2Proof.Proofs.Places

variable {s : State} {bus : Nat} {e : ParkEntry}

/-! ## The entries -/

/-- The entries that an epoch boundary leaves of those that stood. -/
def outlived (es : List ParkEntry) : List ParkEntry :=
  ((es.map ParkEntry.waited).filter fun e => !e.holdEnds).map fun e => { e with hold := e.hold - 1 }

theorem prkBoundary_entries (s : State) : s.prkBoundary.prk.entries = outlived s.prk.entries := by
  unfold State.prkBoundary outlived
  rw [State.holdsBoundary_prk, State.waitsBoundary_prk]
  simp

theorem sessionAndPark_entries (s : State) : s.sessionAndPark.prk.entries = outlived s.prk.entries := by
  obtain h | ⟨-, h⟩ := sessionAndPark_cases s <;> rw [h]
  · rw [prkBoundary_entries]
    simp
  · rw [(State.reserveAndSession_frame _).2.2.2.1, prkBoundary_entries]

/-- An entry a day later where the boundary is a day rollover. -/
def later (s : State) (e : ParkEntry) : ParkEntry := if s.clk.epoch = 43199 then parkedDayLater e else e

theorem later_figures (s : State) (e : ParkEntry) : (later s e).busId = e.busId ∧ (later s e).hold = e.hold ∧
    ((later s e).offered = none ↔ e.offered = none) ∧ (later s e).offered.map OfferWait.wait = e.offered.map OfferWait.wait := by
  unfold later parkedDayLater
  split
  · exact ⟨rfl, rfl, by simp, by cases e.offered <;> rfl⟩
  · exact ⟨rfl, rfl, Iff.rfl, rfl⟩

theorem linked_entries (s : State) : (opened s).lnkBoundary.prk.entries = s.prk.entries.map (later s) := by
  rw [(State.lnkBoundary_frame _).2.2.2.2.2.1, opened_prk]
  rfl

theorem epochBoundary_parked (h : s.AtEpochEnd) : s.epochBoundary.prk.entries = outlived (s.prk.entries.map (later s)) := by
  have hentries := sessionAndPark_entries (opened s).lnkBoundary
  rw [linked_entries] at hentries
  rw [epochBoundary_stages h]
  simpa using hentries

theorem waited_hold (e : ParkEntry) : e.waited.hold = e.hold := by
  unfold ParkEntry.waited
  split <;> rfl

/-- The entries of one bus at a boundary, from those of that bus before it. -/
theorem outlived_bus (es : List ParkEntry) (bus : Nat) :
    (outlived es).filter (fun x => x.busId == bus) = outlived (es.filter fun x => x.busId == bus) := by
  unfold outlived
  rw [List.filter_map, List.filter_filter, List.filter_map, List.filter_map, List.filter_filter]
  simp [Function.comp_def, Bool.and_comm]

theorem later_bus (s : State) (es : List ParkEntry) (bus : Nat) :
    (es.map (later s)).filter (fun x => x.busId == bus) = (es.filter fun x => x.busId == bus).map (later s) := by
  rw [List.filter_map]
  have hbus : ((fun x : ParkEntry => x.busId == bus) ∘ later s) = fun x => x.busId == bus := by
    funext x
    simp [later_figures s x]
  rw [hbus]

/-- The bus's entries after the boundary, from its one entry before. -/
theorem epochBoundary_bus (h : s.AtEpochEnd) (he : s.prk.entries.filter (fun x => x.busId == bus) = [e]) :
    s.epochBoundary.prk.entries.filter (fun x => x.busId == bus) = outlived [later s e] := by
  rw [epochBoundary_parked h, outlived_bus, later_bus, he]
  rfl

theorem outlived_expired (h : e.hold ≤ 1) : outlived [e] = [] := by
  have hends : e.waited.holdEnds = true := by simp [ParkEntry.holdEnds, waited_hold, h]
  simp [outlived, hends]

theorem outlived_held (h : 1 < e.hold) : outlived [e] = [{ e.waited with hold := e.hold - 1 }] := by
  have hends : e.waited.holdEnds = false := by simp [ParkEntry.holdEnds, waited_hold, h]
  simp [outlived, hends, waited_hold]

theorem waited_of_end {w : OfferWait} (ho : e.offered = some w) (hw : w.wait ≤ 1) : e.waitEnds = true := by
  simp [ParkEntry.waitEnds, ho, hw]

theorem waited_of_more (h : ∀ w ∈ e.offered, 1 < w.wait) :
    e.waited = { e with offered := e.offered.map fun w => { w with wait := w.wait - 1 } } := by
  have hends : ¬e.waitEnds = true := by
    unfold ParkEntry.waitEnds
    cases ho : e.offered with
    | none => simp
    | some w =>
      have := h w ho
      simp
      omega
  unfold ParkEntry.waited
  rw [if_neg hends]

/-! ## The queued OFFER (R23) -/

theorem expire_leaves_or_empties (s : State) (e : ParkEntry) (k : FrameKey) :
    place (s.expireContext e) k = place s k ∨ Emptied (place s k) (place (s.expireContext e) k) := by
  rw [place_expireContext]
  split
  · exact dequeue_leaves_or_empties s _ k
  · exact .inl rfl

/-- The waits take out the OFFER of an entry whose wait ends. -/
theorem emptied_waitsBoundary (he : e ∈ s.prk.entries) (hends : e.waitEnds = true) :
    Emptied (place s (.offer e.busId)) (place s.waitsBoundary (.offer e.busId)) :=
  emptied_foldl_of_mem (s.setPrk { s.prk with entries := s.prk.entries.map ParkEntry.waited })
    (List.mem_filter.mpr ⟨he, hends⟩) (fun t _ => dequeue_leaves_or_empties t _ _) fun t => emptied_dequeue t _

theorem waitsBoundary_leaves_or_empties (s : State) (k : FrameKey) :
    place s.waitsBoundary k = place s k ∨ Emptied (place s k) (place s.waitsBoundary k) :=
  foldl_leaves_or_empties _ (s.setPrk { s.prk with entries := s.prk.entries.map ParkEntry.waited })
    fun t _ => dequeue_leaves_or_empties t _ _

/-- The table with its holds an epoch boundary shorter, before what has expired is captured. -/
def heldOn (s : State) : State := s.setPrk { s.prk with
  entries := (s.prk.entries.filter fun e => !e.holdEnds).map fun e => { e with hold := e.hold - 1 } }

theorem holdsBoundary_eq (s : State) : s.holdsBoundary = (s.prk.entries.filter ParkEntry.holdEnds).foldl State.expireContext (heldOn s) := rfl

/-- The holds take out the OFFER of an entry that expires OFFERED. -/
theorem emptied_holdsBoundary (he : e ∈ s.prk.entries) (hends : e.holdEnds = true) (hoffered : e.offered.isSome = true) :
    Emptied (place s (.offer e.busId)) (place s.holdsBoundary (.offer e.busId)) := by
  have hplace : place (heldOn s) (.offer e.busId) = place s (.offer e.busId) := rfl
  rw [holdsBoundary_eq, ← hplace]
  refine emptied_foldl_of_mem _ (List.mem_filter.mpr ⟨he, hends⟩) (fun t x => expire_leaves_or_empties t x _) fun t => ?_
  rw [place_expireContext, if_pos hoffered]
  exact emptied_dequeue t _

theorem holdsBoundary_leaves_or_empties (s : State) (k : FrameKey) :
    place s.holdsBoundary k = place s k ∨ Emptied (place s k) (place s.holdsBoundary k) :=
  foldl_leaves_or_empties _ (heldOn s) fun t x => expire_leaves_or_empties t x _

/-- The OFFER of an entry whose wait or whose hold ends leaves the queue (R143, R157). -/
theorem emptied_prkBoundary (he : e ∈ s.prk.entries) (hoffered : e.offered ≠ none)
    (hends : e.waitEnds = true ∨ e.holdEnds = true) :
    Emptied (place s (.offer e.busId)) (place s.prkBoundary (.offer e.busId)) := by
  have hwindow : place s.windowBoundary (.offer e.busId) = place s (.offer e.busId) := place_windowBoundary s nofun nofun
  have hmem : e ∈ s.windowBoundary.prk.entries := by simpa using he
  have hholds := holdsBoundary_leaves_or_empties s.windowBoundary.waitsBoundary (.offer e.busId)
  rw [← hwindow]
  by_cases hwait : e.waitEnds = true
  · have hout := emptied_waitsBoundary hmem hwait
    obtain h | h := hholds
    · exact (congrArg (Emptied _) h).mpr hout
    · exact hout.trans h
  · have hwaited : e.waited ∈ s.windowBoundary.waitsBoundary.prk.entries := by
      rw [State.waitsBoundary_prk]
      exact List.mem_map_of_mem hmem
    have hsame : e.waited = { e with offered := e.offered.map fun w => { w with wait := w.wait - 1 } } := by
      unfold ParkEntry.waited
      rw [if_neg hwait]
    have hbus : e.waited.busId = e.busId := by rw [hsame]
    have hsome : e.waited.offered.isSome = true := by
      rw [hsame]
      simpa using Option.isSome_iff_ne_none.mpr hoffered
    have hhold : e.waited.holdEnds = true := by
      have hend := hends.resolve_left hwait
      rw [hsame]
      exact hend
    have hout := emptied_holdsBoundary hwaited hhold hsome
    rw [hbus] at hout
    obtain h | h := waitsBoundary_leaves_or_empties s.windowBoundary (.offer e.busId)
    · exact h ▸ hout
    · exact h.trans hout

theorem emptied_sessionAndPark (he : e ∈ s.prk.entries) (hoffered : e.offered ≠ none)
    (hends : e.waitEnds = true ∨ e.holdEnds = true) :
    Emptied (place s (.offer e.busId)) (place s.sessionAndPark (.offer e.busId)) := by
  obtain h | ⟨-, h⟩ := sessionAndPark_cases s <;> rw [h]
  · have hout := emptied_prkBoundary (s := s.reserveAndSession) (by simpa using he) hoffered hends
    rwa [place_reserveAndSession (k := .offer e.busId) _ nofun nofun] at hout
  · rw [place_reserveAndSession (k := .offer e.busId) _ nofun nofun]
    exact emptied_prkBoundary he hoffered hends

theorem emptied_aged {p q : List QEntry × Option (List Byte × Option Held)} (h : Emptied (aged p) q) : Emptied p q := h

/-- At an epoch boundary the OFFER of an entry whose wait or whose hold ends leaves the queue. -/
theorem epochBoundary_unqueued (h : s.AtEpochEnd) (he : e ∈ s.prk.entries) (hoffered : e.offered ≠ none)
    (hends : (∃ w, e.offered = some w ∧ w.wait ≤ 1) ∨ e.hold ≤ 1) : Unqueued s s.epochBoundary (.offer e.busId) := by
  obtain ⟨hbus, hhold, hnone, hwaits⟩ := later_figures s e
  have hmem : later s e ∈ (opened s).lnkBoundary.prk.entries := by
    rw [linked_entries]
    exact List.mem_map_of_mem he
  have hend : (later s e).waitEnds = true ∨ (later s e).holdEnds = true := by
    refine hends.imp (fun ⟨w, hw, hlast⟩ => ?_) fun hlast => by simp [ParkEntry.holdEnds, hhold, hlast]
    rw [hw, Option.map_some, Option.map_eq_some_iff] at hwaits
    obtain ⟨x, hx, hxw⟩ := hwaits
    exact waited_of_end hx (hxw ▸ hlast)
  have hout := emptied_sessionAndPark hmem (fun hn => hoffered (hnone.mp hn)) hend
  rw [hbus, place_lnkBoundary_other (k := .offer e.busId) _ nofun nofun, place_of_lnk (opened_frame s).2.1] at hout
  have hlast : s.epochBoundary.lnk = (opened s).lnkBoundary.sessionAndPark.lnk := by
    rw [epochBoundary_stages h]
    simp
  refine unqueued_of_emptied (emptied_aged (p := place s (.offer e.busId)) ?_)
  rwa [place_of_lnk hlast]

/-! ## The capture of an entry that expires (R143) -/

section Expiry

variable {P Q : State → Prop}

/-- What holds up to the capture of an expired context, and what holds from it on, across the holds. -/
theorem holdsBoundary_captures (hP : KeptByActs [] P) (hQ : KeptByActs [] Q)
    (hcapture : ∀ u, P u → Q (u.capture .contextExpired 0#32 (some e.busId))) (he : e ∈ s.prk.entries)
    (hends : e.holdEnds = true) (h : P s) : Q s.holdsBoundary := by
  obtain ⟨before, after, hsplit⟩ := List.append_of_mem (List.mem_filter.mpr ⟨he, hends⟩)
  rw [holdsBoundary_eq, hsplit, List.foldl_append, List.foldl_cons]
  have hbefore : P (before.foldl State.expireContext (heldOn s)) :=
    hP.foldl_expireContext (Spares.nil _) before (hP.congr (t := heldOn s) h rfl rfl)
  refine hQ.foldl_expireContext (Spares.nil _) after (hcapture _ (hP.congr hbefore ?_ ?_)) <;> simp

theorem sessionAndPark_captures (hP : KeptByActs [] P) (hQ : KeptByActs [] Q)
    (hcapture : ∀ u, P u → Q (u.capture .contextExpired 0#32 (some e.busId))) (he : e ∈ s.prk.entries) (hends : e.hold ≤ 1)
    (h : P s) : Q s.sessionAndPark := by
  have hpark : ∀ u, P u → u.prk = s.prk → Q u.prkBoundary := by
    intro u hu hprk
    have hmem : e.waited ∈ u.windowBoundary.waitsBoundary.prk.entries := by
      rw [State.waitsBoundary_prk]
      exact List.mem_map_of_mem (by simpa [hprk] using he)
    have hexpires : e.waited.holdEnds = true := by simp [ParkEntry.holdEnds, waited_hold, hends]
    have hbus : e.waited.busId = e.busId := by simp
    exact holdsBoundary_captures hP hQ (by rwa [hbus]) hmem hexpires
      (hP.waitsBoundary (hP.windowBoundary (Spares.nil _) hu))
  obtain heq | ⟨-, heq⟩ := sessionAndPark_cases s <;> rw [heq]
  · exact hpark _ (hP.reserveAndSession (Spares.nil _) h) (by simp)
  · exact hQ.reserveAndSession (Spares.nil _) (hpark s h rfl)

/-- An entry whose hold ends is captured at the boundary. -/
theorem epochBoundary_captures (hP : KeptByActs [] P) (hQ : KeptByActs [] Q)
    (hcapture : ∀ u, P u → Q (u.capture .contextExpired 0#32 (some e.busId))) (hend : s.AtEpochEnd) (he : e ∈ s.prk.entries)
    (hends : e.hold ≤ 1) (h : P s) : Q s.epochBoundary := by
  obtain ⟨hbus, hhold, -⟩ := later_figures s e
  have hmem : later s e ∈ (opened s).lnkBoundary.prk.entries := by
    rw [linked_entries]
    exact List.mem_map_of_mem he
  have hlinked : P (opened s).lnkBoundary := hP.lnkBoundary (Spares.nil _) (opened_kept hP (Spares.nil _) h)
  have hdone := sessionAndPark_captures hP hQ (by rwa [hbus]) hmem (by rwa [hhold]) hlinked
  rw [epochBoundary_stages hend]
  exact hQ.congr hdone (by simp) (by simp)

end Expiry

/-! ## The rows (O57) -/

theorem mem_of_bus (he : s.prk.entries.filter (fun x => x.busId == bus) = [e]) : e ∈ s.prk.entries ∧ e.busId = bus := by
  have hmem : e ∈ s.prk.entries.filter (fun x => x.busId == bus) := by simp [he]
  simpa using hmem

theorem contextExpired_row (hend : s.AtEpochEnd) (he : s.prk.entries.filter (fun x => x.busId == bus) = [e]) (hok : s.LogOk)
    (hhold : e.hold = 1) : Answers (.contextExpired bus) s fun t =>
      (∀ x ∈ t.prk.entries, x.busId ≠ bus) ∧ (e.offered ≠ none → Unqueued s t (.offer bus)) ∧
      (Logged s t .contextExpired 7 fun r => r.detail = 0#32 ∧ r.busId = bus) ∧
      s.counter .contextExpired ≤ t.counter .contextExpired ∧
      (s.counter .contextExpired < 63 → s.counter .contextExpired < t.counter .contextExpired) := by
  obtain ⟨hmem, rfl⟩ := mem_of_bus he
  obtain ⟨-, -, -, -, -, -, -, h24, hcounters, -⟩ := hok
  have hrow : (s.prk.entries.any fun x => x.busId == e.busId && x.holdEnds) = true :=
    List.any_eq_true.mpr ⟨e, hmem, by simp [ParkEntry.holdEnds, hhold]⟩
  refine Boundary.answers_of_boundaryWhere rfl hrow ⟨?_, fun hoffered => ?_, ?_, ?_⟩
  · have hgone := epochBoundary_bus hend he
    obtain ⟨-, hlater, -⟩ := later_figures s e
    rw [outlived_expired (by rw [hlater]; omega), List.filter_eq_nil_iff] at hgone
    simpa using hgone
  · exact epochBoundary_unqueued hend hmem hoffered (.inr (by omega))
  · refine logged_of_between (d := 0#32) (b := some e.busId) (fun g h => h) ?_
    exact epochBoundary_captures (logGrew_keptByActs s) (keptByActs_captureBetween s _ _ _ _)
      (fun u hu => captureBetween_of_capture hu ⟨rfl, rfl⟩) hend hmem (by omega) (LogGrew.refl s)
  · have hbound : s.counter .contextExpired ≤ 63 := by
      unfold State.counter
      rw [List.getD_eq_getElem?_getD]
      cases hx : s.log.counters[Cause.code .contextExpired - 1]? with
      | none => simp
      | some x => exact hcounters x (List.mem_of_getElem? hx)
    have hmore := epochBoundary_captures (keptByActs_counter_ge .contextExpired hbound)
      (keptByActs_counter_ge .contextExpired (k := min 63 (s.counter .contextExpired + 1)) (by omega))
      (fun u hu => ⟨by simpa using hu.1, by rw [State.capture_counter _ _ _ _ _ hu.1, if_pos rfl]; omega⟩) hend hmem (by omega)
      ⟨h24, le_rfl⟩
    obtain ⟨-, hge⟩ := hmore
    omega

/-- Settles O57: the entries of the bus one by one, its OFFER by its place in the queue, and the capture of what expires. -/
theorem holdsAndWaitsRunOut : Obligations.HoldsAndWaitsRunOut := by
  intro bus e s hend he hok
  obtain ⟨hmem, hbus⟩ := mem_of_bus he
  obtain ⟨-, hhold, hnone, hwaits⟩ := later_figures s e
  have hentries := epochBoundary_bus hend he
  refine ⟨contextExpired_row hend he hok, fun w hw hlast hlong => ?_, fun hlong hmore => ?_⟩
  · have hrow : (s.prk.entries.any fun x => x.busId == bus && x.waitEnds) = true :=
      List.any_eq_true.mpr ⟨e, hmem, by simp [hbus, waited_of_end hw (by omega)]⟩
    refine Boundary.answers_of_boundaryWhere rfl hrow ⟨?_, ?_⟩
    · rw [← hbus]
      exact epochBoundary_unqueued hend hmem (by simp [hw]) (.inl ⟨w, hw, by omega⟩)
    · rw [hw, Option.map_some, Option.map_eq_some_iff] at hwaits
      obtain ⟨x, hx, hxw⟩ := hwaits
      rw [hentries, outlived_held (by omega), ParkEntry.waited, if_pos (waited_of_end hx (by omega)), hhold]
      rfl
  · refine ⟨_, Boundary.exec_epochBoundary s, ?_⟩
    have hstays : ∀ x ∈ (later s e).offered, 1 < x.wait := by
      intro x hx
      have hwait : (e.offered.map OfferWait.wait) = some x.wait := by
        rw [← hwaits, Option.mem_def.mp hx]
        rfl
      obtain ⟨y, hy, hyx⟩ := Option.map_eq_some_iff.mp hwait
      rw [← hyx]
      exact hmore y hy
    refine hentries.trans ?_
    rw [outlived_held (by omega), waited_of_more hstays, hhold]
    rfl

end Sys2Proof.Proofs.Holds
end

section
/-!
The session at an epoch boundary (R60, R64): the legs missed and the figures made ready, as functions of the session that stands.
-/
namespace Sys2Proof.Proofs.SessionStage

open Sys2Proof Sys2Proof.Machine Sys2Proof.Proofs.Boundary Sys2Proof.Proofs.Stages

variable {s : State} {v : Session}

/-- The session with its leading past legs missed, up to a number of them (R60). -/
def missed (now window : Nat) : Nat → Session → Session
  | 0, v => v
  | n + 1, v => if v.legIsPast now window then missed now window n { v with chain := v.chain.markCursor .missed } else v

theorem missLegs_ses (s : State) (window n : Nat) : (s.missLegs window n).ses = s.ses.map (missed s.clk.epoch window n) := by
  induction n generalizing s with
  | zero =>
    have hid : missed s.clk.epoch window 0 = id := rfl
    rw [hid, Option.map_id, State.missLegs]
    rfl
  | succ n ih =>
    unfold State.missLegs
    cases hv : s.ses with
    | none => simp [hv]
    | some v =>
      by_cases hpast : v.legIsPast s.clk.epoch window = true
      · simp [hpast, missed, ih, State.missLeg]
      · simp [hpast, missed, hv]

theorem readySession_ses (s : State) (c : ConfigRecord) : (s.readySession c).ses =
    s.ses.map fun v => v.readied c s.clk.epoch s.alt.grant s.isPending := by
  unfold State.readySession
  cases hv : s.ses with
  | none => simp [hv]
  | some v =>
    dsimp only
    split <;> split <;> simp

theorem missed_keeps (now window n : Nat) (v : Session) : missed now window n v = { v with chain := (missed now window n v).chain } := by
  induction n generalizing v with
  | zero => rfl
  | succ n ih =>
    unfold missed
    split
    · rw [ih]
    · rfl

/-- The session after its boundary (R60, R64): the same figures whatever else the state holds. -/
theorem sessionBoundary_ses {c : ConfigRecord} (hcfg : s.cfg = some c) : s.sessionBoundary.ses = s.ses.map fun v =>
    (missed s.clk.epoch c.window v.chain.legs.length v).readied c s.clk.epoch s.alt.grant s.prk.query.isSome := by
  have hpending : ∀ v, s.ses = some v → (s.missLegs c.window v.chain.legs.length).isPending = s.prk.query.isSome := by
    intro v hv
    simp [State.isPending, missLegs_ses, hv]
  unfold State.sessionBoundary
  rw [hcfg]
  dsimp only
  rw [readySession_ses, missLegs_ses]
  cases hv : s.ses with
  | none => rfl
  | some v => simp [hpending v hv]

theorem sessionBoundary_ses_unconfigured (hcfg : s.cfg = none) : s.sessionBoundary.ses = s.ses := by
  unfold State.sessionBoundary
  rw [hcfg]

/-- The session's figures do not depend on where the reserve unit stands in the order of the boundary. -/
theorem sessionBoundary_ses_congr {t : State} (hses : t.ses = s.ses) (hcfg : t.cfg = s.cfg) (hclk : t.clk = s.clk)
    (hgrant : t.alt.grant = s.alt.grant) (hprk : t.prk = s.prk) : t.sessionBoundary.ses = s.sessionBoundary.ses := by
  cases h : s.cfg with
  | none => rw [sessionBoundary_ses_unconfigured (hcfg.trans h), sessionBoundary_ses_unconfigured h, hses]
  | some c => rw [sessionBoundary_ses (hcfg.trans h), sessionBoundary_ses h, hses, hclk, hgrant, hprk]

theorem reserveAndSession_ses (s : State) : s.reserveAndSession.ses = s.sessionBoundary.ses := by
  unfold State.reserveAndSession State.reserveAndClaim
  rw [(State.withdrawalCheck_frame _).2.2.2.1]
  split
  · simp [State.sesBoundary]
  · rw [State.sesBoundary, (State.claimAndLatch_frame _).2.2.1]
    exact sessionBoundary_ses_congr (by simp) (by simp) (by simp) (by simp) (by simp)

end Sys2Proof.Proofs.SessionStage
end

section
/-!
The close of a query window (R149, R54, R55): the window's figures, the session restored, settled or ended, its captures, its
QUERY and its TAKEN (O56).
-/
namespace Sys2Proof.Proofs.WindowClose

open Sys2Proof Sys2Proof.Machine Sys2Proof.Proofs.Acts Sys2Proof.Proofs.Captures Sys2Proof.Proofs.Stages Sys2Proof.Proofs.Places

variable {s u : State} {q : Query} {v w : Session}

/-! ## The session that awaits its context -/

/-- The figures of a pending session that the boundary's readiness leaves. -/
def core (v : Session) : Nat × Origin × Nat × Nat × Nat × Chain := (v.busId, v.origin, v.cap, v.e0, v.floor, v.chain)

/-- The candidate of a window a day later where the boundary is a day rollover (R144). -/
def laterBest (s : State) (q : Query) : Query := if s.clk.epoch = 43199 then { q with best := q.best.map Candidate.rolled } else q

/-- The state in which the window closes: the boundary under way, the pending session as it was but for its figures. -/
structure AtClose (s : State) (q : Query) (v : Session) (u : State) : Prop where
  query : u.prk.query = some (laterBest s q)
  epoch : u.clk.epoch = s.nextCount
  station : u.lnk.station ≠ .unconfigured
  session : ∃ w, u.ses = some w ∧ core w = core v

theorem sessionBoundary_core (hv : u.ses = some v) (hchain : v.chain = { legs := [], cursor := 0 }) :
    ∃ w, u.sessionBoundary.ses = some w ∧ core w = core v := by
  cases hcfg : u.cfg with
  | none => exact ⟨v, by rw [SessionStage.sessionBoundary_ses_unconfigured hcfg, hv], rfl⟩
  | some c =>
    refine ⟨_, by rw [SessionStage.sessionBoundary_ses hcfg, hv, Option.map_some], ?_⟩
    rw [hchain]
    rfl

theorem linked_atClose (hses : s.ses = some v) (hquery : s.prk.query = some q) (hstation : s.lnk.station ≠ .unconfigured)
    (hchain : v.chain = { legs := [], cursor := 0 }) : AtClose s q v (opened s).lnkBoundary where
  query := by
    rw [(State.lnkBoundary_frame _).2.2.2.2.2.1, opened_prk, hquery]
    rfl
  epoch := by
    obtain ⟨hclk, -⟩ := opened_frame s
    rw [(State.lnkBoundary_frame _).1, hclk]
  station := by
    obtain ⟨-, hlnk, -⟩ := opened_frame s
    rwa [ne_eq, Peers.station_lnkBoundary, hlnk]
  session := by
    rw [(State.lnkBoundary_frame _).2.2.1, opened_ses, hses]
    refine ⟨_, rfl, ?_⟩
    have hempty : chainDayLater v.chain = v.chain := by rw [hchain]; rfl
    split
    · simp [core, hempty]
    · rfl

theorem AtClose.reserved (h : AtClose s q v u) (hchain : v.chain = { legs := [], cursor := 0 }) : AtClose s q v u.reserveAndSession where
  query := by rw [(State.reserveAndSession_frame _).2.2.2.1, h.query]
  epoch := by rw [(State.reserveAndSession_frame _).1, h.epoch]
  station := by
    have hsame : u.reserveAndSession.lnk.station = u.lnk.station := by simp
    rw [hsame]
    exact h.station
  session := by
    obtain ⟨w, hw, hcore⟩ := h.session
    have hempty : w.chain = { legs := [], cursor := 0 } := by
      have hsame : w.chain = v.chain := congrArg (fun x => x.2.2.2.2.2) hcore
      rw [hsame, hchain]
    obtain ⟨x, hx, hxw⟩ := sessionBoundary_core hw hempty
    exact ⟨x, by rw [SessionStage.reserveAndSession_ses, hx], hxw.trans hcore⟩

/-! ## The window boundary -/

theorem laterBest_figures (s : State) (q : Query) : (laterBest s q).busId = q.busId ∧ (laterBest s q).countdown = q.countdown ∧
    (laterBest s q).offers = q.offers ∧ ((laterBest s q).best = none ↔ q.best = none) := by
  unfold laterBest
  split <;> simp

theorem windowBoundary_restores {c : Candidate} (h : AtClose s q v u) (hlast : q.countdown = 1)
    (hbest : (laterBest s q).best = some c) : u.windowBoundary = u.closeRestored (laterBest s q) c := by
  obtain ⟨-, hcount, -⟩ := laterBest_figures s q
  unfold State.windowBoundary
  rw [h.query]
  dsimp only
  rw [if_pos (by omega), hbest]

theorem windowBoundary_settles (h : AtClose s q v u) (hlast : q.countdown = 1) (hbest : q.best = none) :
    u.windowBoundary = u.closeCold (laterBest s q) := by
  obtain ⟨-, hcount, -, hnone⟩ := laterBest_figures s q
  unfold State.windowBoundary
  rw [h.query]
  dsimp only
  rw [if_pos (by omega), hnone.mpr hbest]

/-! ## The close with a candidate (R54) -/

section Restored

variable {c : Candidate} {out : List Cause} {P Q : State → Prop}

/-- The state that the capture of a restored session is taken in. -/
def restoredFrom (u : State) (q : Query) (c : Candidate) : State :=
  ((((u.endWindow q.closed).modSes fun v => v.restored c.ctx .restored).enqueue (.taken q.busId c.bay)).raise .handoverDone).recordHandover
    { result := .restored, busId := q.busId, epoch := u.clk.epoch, offerer := c.bay, offers := q.offers, lastE := c.ctx.lastE } |>.follow

theorem closeRestored_eq (u : State) (q : Query) (c : Candidate) :
    u.closeRestored q c = (restoredFrom u q c).captureNat .plugRestored c.bay := by
  have hclk : (((u.endWindow q.closed).modSes fun v => v.restored c.ctx .restored).enqueue (.taken q.busId c.bay)).clk = u.clk := by
    simp
  unfold State.closeRestored restoredFrom
  dsimp only
  rw [hclk]

theorem restoredFrom_prk (u : State) (q : Query) (c : Candidate) : (restoredFrom u q c).prk = { u.prk with
    query := none, idle := q.closed
    last := some { result := .restored, busId := q.busId, epoch := u.clk.epoch, offerer := c.bay, offers := q.offers,
                   lastE := c.ctx.lastE } } := by
  simp [restoredFrom, State.recordHandover, Parking.endWindow_prk]

theorem restoredFrom_ses (u : State) (q : Query) (c : Candidate) :
    (restoredFrom u q c).ses = u.ses.map fun v => v.restored c.ctx .restored := by
  simp [restoredFrom, State.recordHandover, State.modSes]

theorem restoredFrom_kept (hP : KeptByActs out P) (h : P u) : P (restoredFrom u q c) :=
  hP.congr (hP.raise .handoverDone h) (by simp [restoredFrom, State.recordHandover]) (by
    simp [restoredFrom, State.recordHandover, State.raise])

theorem restoredFrom_flagged (u : State) (q : Query) (c : Candidate) : (restoredFrom u q c).flagged .handoverDone = true := by
  unfold restoredFrom
  generalize ((u.endWindow q.closed).modSes fun v => v.restored c.ctx .restored).enqueue (.taken q.busId c.bay) = y
  exact (State.flagged_congr rfl _).trans (by simp : (y.raise .handoverDone).flagged .handoverDone = true)

end Restored

/-! ## The close without one (R55) -/

section Settled

variable {out : List Cause} {P Q : State → Prop}

/-- The state that the capture of a cold session is taken in. -/
def settledFrom (u : State) (q : Query) : State :=
  ((u.endWindow q.closed).raise .handoverDone).recordHandover
    { result := if decide ((u.ses.map Session.cap).getD 0 ≠ 0) then .cold else .noCapacity, busId := q.busId,
      epoch := u.clk.epoch, offerer := 0, offers := q.offers, lastE := 0 } |>.follow

theorem closeCold_eq (u : State) (q : Query) : u.closeCold q =
    if (u.ses.map Session.cap).getD 0 ≠ 0 then (settledFrom u q).captureNat .plugCold 0
    else ((settledFrom u q).captureNat .plugCold 0).dropSession := by
  have hclk : (u.endWindow q.closed).clk = u.clk := by simp
  unfold State.closeCold settledFrom
  dsimp only
  rw [hclk]
  by_cases hcap : (u.ses.map Session.cap).getD 0 ≠ 0
  · rw [if_pos (decide_eq_true hcap), if_pos hcap]
  · rw [if_neg (by simpa using hcap), if_neg hcap]

theorem settledFrom_prk (u : State) (q : Query) : (settledFrom u q).prk = { u.prk with
    query := none, idle := q.closed
    last := some { result := if decide ((u.ses.map Session.cap).getD 0 ≠ 0) then .cold else .noCapacity, busId := q.busId,
                   epoch := u.clk.epoch, offerer := 0, offers := q.offers, lastE := 0 } } := by
  simp [settledFrom, State.recordHandover, Parking.endWindow_prk]

theorem settledFrom_ses (u : State) (q : Query) : (settledFrom u q).ses = u.ses := by simp [settledFrom, State.recordHandover]

theorem settledFrom_kept (hP : KeptByActs out P) (h : P u) : P (settledFrom u q) :=
  hP.congr (hP.raise .handoverDone h) (by simp [settledFrom, State.recordHandover]) (by
    simp [settledFrom, State.recordHandover, State.raise])

theorem settledFrom_flagged (u : State) (q : Query) : (settledFrom u q).flagged .handoverDone = true := by
  unfold settledFrom
  generalize u.endWindow q.closed = y
  exact (State.flagged_congr rfl _).trans (by simp : (y.raise .handoverDone).flagged .handoverDone = true)

theorem closeCold_prk (u : State) (q : Query) : (u.closeCold q).prk = (settledFrom u q).prk := by
  rw [closeCold_eq]
  split <;> simp

end Settled

/-! ## The boundary around the close -/

/-- The causes of the parts of an epoch boundary before its window. -/
def beforeCauses : List Cause := [.dupBus, .isolated, .withdrawn, .legMissed, .atRisk, .eventTaken, .eventChanged, .eventEnded]

/-- The boundary of a closing window: what comes to it, and what follows it (log entry 12). -/
theorem epochBoundary_closes (hend : s.AtEpochEnd) (hses : s.ses = some v) (hquery : s.prk.query = some q)
    (hstation : s.lnk.station ≠ .unconfigured) (hchain : v.chain = { legs := [], cursor := 0 }) :
    ∃ u, AtClose s q v u ∧ place u .query = aged (place s .query) ∧
      (∀ {out : List Cause} {P : State → Prop}, KeptByActs out P → Spares out beforeCauses → P s → P u) ∧
      (s.epochBoundary = u.prkBoundary.bumpChoices.follow ∨
        q.best = none ∧ v.cap = 0 ∧ s.epochBoundary = u.prkBoundary.reserveAndSession.bumpChoices.follow) := by
  have hlinked := linked_atClose hses hquery hstation hchain
  have hplace : place (opened s).lnkBoundary .query = aged (place s .query) := by
    rw [place_lnkBoundary_other (k := .query) _ nofun nofun, place_of_lnk (opened_frame s).2.1]
  have hkept {out : List Cause} {P : State → Prop} (hP : KeptByActs out P) (hc : Spares out beforeCauses) (h : P s) :
      P (opened s).lnkBoundary :=
    hP.lnkBoundary (hc.sub (by simp [beforeCauses])) (opened_kept hP (hc.sub (by simp [beforeCauses])) h)
  rw [epochBoundary_stages hend]
  obtain heq | ⟨hwant, heq⟩ := sessionAndPark_cases (opened s).lnkBoundary
  · refine ⟨_, hlinked.reserved hchain, ?_, fun hP hc h => hP.reserveAndSession (hc.sub ?_) (hkept hP hc h), .inl (by rw [heq])⟩
    · rw [place_reserveAndSession (k := .query) _ nofun nofun, hplace]
    · simp [beforeCauses, KeptByActs.readyCauses, KeptByActs.eventCauses]
  · refine ⟨_, hlinked, hplace, hkept, .inr ?_⟩
    obtain ⟨w, hw, hcore⟩ := hlinked.session
    have hcap : w.cap = v.cap := congrArg (fun x => x.2.2.1) hcore
    obtain ⟨-, -, -, hnone⟩ := laterBest_figures s q
    unfold State.closesForWant at hwant
    rw [hlinked.query, hw] at hwant
    simp only [Bool.and_eq_true, Option.isNone_iff_eq_none, decide_eq_true_eq] at hwant
    obtain ⟨⟨-, hbest⟩, hzero⟩ := hwant
    refine ⟨hnone.mp hbest, by simpa [hcap] using hzero, by rw [heq]⟩

/-- The causes of the parts of an epoch boundary that may come after its window. -/
def afterCauses : List Cause := [.contextExpired, .withdrawn, .legMissed, .atRisk, .eventTaken, .eventChanged, .eventEnded]

/-- The two forms in which the boundary goes on from its window (log entry 12). -/
def GoesOn (u t : State) : Prop := t = u.prkBoundary.bumpChoices.follow ∨ t = u.prkBoundary.reserveAndSession.bumpChoices.follow

/-- What the boundary leaves of its window's close. -/
theorem goesOn_figures {t : State} (h : GoesOn u t) : t.clk = u.clk ∧ t.prk.query = u.windowBoundary.prk.query ∧
    t.prk.last = u.windowBoundary.prk.last ∧ t.prk.idle = u.windowBoundary.prk.idle ∧
    place t .query = place u.windowBoundary .query ∧ place t .taken = place u.windowBoundary .taken := by
  have hprk : u.prkBoundary.prk.query = u.windowBoundary.prk.query ∧ u.prkBoundary.prk.last = u.windowBoundary.prk.last ∧
      u.prkBoundary.prk.idle = u.windowBoundary.prk.idle := by
    unfold State.prkBoundary
    rw [State.holdsBoundary_prk, State.waitsBoundary_prk]
    exact ⟨rfl, rfl, rfl⟩
  have hclk : u.prkBoundary.clk = u.clk := by simp
  have hqueryPlace : place u.prkBoundary .query = place u.windowBoundary .query :=
    (place_holdsBoundary_other (k := .query) _ fun _ => nofun).trans (place_waitsBoundary_other (k := .query) _ fun _ => nofun)
  have htakenPlace : place u.prkBoundary .taken = place u.windowBoundary .taken :=
    (place_holdsBoundary_other (k := .taken) _ fun _ => nofun).trans (place_waitsBoundary_other (k := .taken) _ fun _ => nofun)
  obtain ⟨hquery, hlast, hidle⟩ := hprk
  obtain rfl | rfl := h
  · have hprk : u.prkBoundary.bumpChoices.follow.prk = u.prkBoundary.prk := by simp
    have hlnk : u.prkBoundary.bumpChoices.follow.lnk = u.prkBoundary.lnk := by simp
    rw [hprk, place_of_lnk hlnk, place_of_lnk hlnk]
    exact ⟨by simp, hquery, hlast, hidle, hqueryPlace, htakenPlace⟩
  · have hprk : u.prkBoundary.reserveAndSession.bumpChoices.follow.prk = u.prkBoundary.prk := by simp
    have hlnk : u.prkBoundary.reserveAndSession.bumpChoices.follow.lnk = u.prkBoundary.reserveAndSession.lnk := by simp
    rw [hprk, place_of_lnk hlnk, place_of_lnk hlnk, place_reserveAndSession (k := .query) _ nofun nofun,
      place_reserveAndSession (k := .taken) _ nofun nofun]
    exact ⟨by simp, hquery, hlast, hidle, hqueryPlace, htakenPlace⟩

theorem goesOn_kept {out : List Cause} {Q : State → Prop} {t : State} (hQ : KeptByActs out Q) (hc : Spares out afterCauses)
    (h : GoesOn u t) (hu : Q u.windowBoundary) : Q t := by
  have hparked : Q u.prkBoundary := hQ.holdsBoundary (hc.sub (by simp [afterCauses])) (hQ.waitsBoundary hu)
  obtain rfl | rfl := h
  · exact hQ.congr hparked (by simp) (by simp)
  · exact hQ.congr (hQ.reserveAndSession (hc.sub (by simp [afterCauses, KeptByActs.readyCauses, KeptByActs.eventCauses])) hparked)
      (by simp) (by simp)

/-! ## The QUERY and the TAKEN -/

theorem emptied_endWindow (u : State) (w : WindowFigures) : Emptied (place u .query) (place (u.endWindow w) .query) :=
  emptied_dequeue (u.setPrk { u.prk with query := none, idle := w }) .query

/-- The window's QUERY leaves the queue at its close. -/
theorem emptied_windowBoundary (h : AtClose s q v u) (hlast : q.countdown = 1) :
    Emptied (place u .query) (place u.windowBoundary .query) := by
  cases hbest : (laterBest s q).best with
  | none =>
    obtain ⟨-, -, -, hnone⟩ := laterBest_figures s q
    rw [windowBoundary_settles h hlast (hnone.mp hbest), place_of_lnk (closeCold_lnk _ _)]
    exact emptied_endWindow u _
  | some c =>
    rw [windowBoundary_restores h hlast hbest, place_of_lnk (closeRestored_lnk _ _ _),
      place_enqueue_other (f := .taken (laterBest s q).busId c.bay) (k := .query) _ nofun]
    exact (place_of_lnk (t := (u.endWindow (laterBest s q).closed).modSes fun v => v.restored c.ctx .restored)
      (s := u.endWindow (laterBest s q).closed) (by simp) .query).symm ▸ emptied_endWindow u _

theorem windowBoundary_prk (h : AtClose s q v u) (hlast : q.countdown = 1) : u.windowBoundary.prk.query = none ∧
    u.windowBoundary.prk.idle = { busId := q.busId, countdown := 0, offers := q.offers } ∧
    u.windowBoundary.flagged .handoverDone = true := by
  obtain ⟨hbus, -, hoffers, hnone⟩ := laterBest_figures s q
  have hidle : (laterBest s q).closed = { busId := q.busId, countdown := 0, offers := q.offers } := by
    rw [Query.closed, hbus, hoffers]
  have hflag := keptByActs_flagged .handoverDone
  cases hbest : (laterBest s q).best with
  | none =>
    rw [windowBoundary_settles h hlast (hnone.mp hbest), closeCold_prk, settledFrom_prk, ← hidle]
    refine ⟨rfl, rfl, ?_⟩
    have hcold := hflag.captureNat .plugCold 0 List.not_mem_nil (settledFrom_flagged u (laterBest s q))
    rw [closeCold_eq]
    split
    · exact hcold
    · exact hflag.dropSession (Spares.nil _) hcold
  | some c =>
    rw [windowBoundary_restores h hlast hbest, closeRestored_eq]
    have hprk : ((restoredFrom u (laterBest s q) c).captureNat .plugRestored c.bay).prk = (restoredFrom u (laterBest s q) c).prk := by simp
    rw [hprk, restoredFrom_prk, ← hidle]
    exact ⟨rfl, rfl, hflag.captureNat _ _ List.not_mem_nil (restoredFrom_flagged _ _ _)⟩

/-! ## The captures and the sessions -/

/-- A capture as the session closes: what holds before it and what holds from it on, up to the boundary's end. -/
theorem restored_captures {c : Candidate} {t : State} {out : List Cause} {P Q : State → Prop} (hP : KeptByActs out P)
    (hQ : KeptByActs out Q) (hc : Spares out afterCauses) (h : AtClose s q v u) (hlast : q.countdown = 1)
    (hbest : (laterBest s q).best = some c)
    (hcapture : ∀ y, P y → y.liveBus = v.busId → Q (y.capture .plugRestored (BitVec.ofNat 32 c.bay) none)) (hgoes : GoesOn u t)
    (hu : P u) : Q t := by
  refine goesOn_kept hQ hc hgoes ?_
  rw [windowBoundary_restores h hlast hbest, closeRestored_eq]
  refine hcapture _ (restoredFrom_kept hP hu) ?_
  obtain ⟨w, hw, hcore⟩ := h.session
  have hbus : w.busId = v.busId := congrArg Prod.fst hcore
  rw [State.liveBus, restoredFrom_ses, hw, ← hbus]
  rfl

theorem settled_captures {t : State} {out : List Cause} {P Q : State → Prop} (hP : KeptByActs out P)
    (hQ : KeptByActs out Q) (hc : Spares out afterCauses) (hdrop : Spares out KeptByActs.endCauses) (h : AtClose s q v u)
    (hlast : q.countdown = 1) (hbest : q.best = none)
    (hcapture : ∀ y, P y → y.liveBus = v.busId → Q (y.capture .plugCold 0#32 none)) (hgoes : GoesOn u t) (hu : P u) : Q t := by
  have hcold : Q ((settledFrom u (laterBest s q)).captureNat .plugCold 0) := by
    refine hcapture _ (settledFrom_kept hP hu) ?_
    obtain ⟨w, hw, hcore⟩ := h.session
    have hbus : w.busId = v.busId := congrArg Prod.fst hcore
    rw [State.liveBus, settledFrom_ses, hw, ← hbus]
    rfl
  refine goesOn_kept hQ hc hgoes ?_
  rw [windowBoundary_settles h hlast hbest, closeCold_eq]
  split
  · exact hcold
  · exact hQ.dropSession hdrop hcold

/-- A cause counted once: what its counter shows before and from the capture on. -/
theorem counter_captured {c : Cause} {k : Nat} (d : BitVec 32) (b : Option Nat) (y : State)
    (h : y.log.counters.length = 24 ∧ y.counter c = k) :
    (y.capture c d b).log.counters.length = 24 ∧ (y.capture c d b).counter c = min 63 (k + 1) := by
  obtain ⟨h24, hk⟩ := h
  rw [State.capture_counters_length, State.capture_counter _ _ _ _ _ h24, if_pos rfl, hk]
  exact ⟨h24, rfl⟩

/-- The session restored from a candidate (R54). -/
theorem restored_session {c : Candidate} {t : State} (h : AtClose s q v u) (hlast : q.countdown = 1)
    (hbest : (laterBest s q).best = some c) (hgoes : t = u.prkBoundary.bumpChoices.follow) :
    ∃ w, t.ses = some w ∧ w.origin = .restored ∧ w.cap = (if v.cap = 0 then c.ctx.cap else v.cap) ∧
      w.e0 = min v.e0 w.cap ∧ w.floor = min (if v.floor = 0 then c.ctx.floor else v.floor) w.cap ∧
      w.chain = c.ctx.chain.clampTo w.cap ∧
      (w.cumImp, w.cumExp, w.cumResp, w.sessions) =
        (c.ctx.cumImp, c.ctx.cumExp, c.ctx.cumResp, min 255 (c.ctx.sessions + 1)) := by
  obtain ⟨w, hw, hcore⟩ := h.session
  obtain ⟨-, -, hcap, he0, hfloor, -⟩ := by simpa only [core, Prod.mk.injEq] using hcore
  have hses : t.ses = some (w.restored c.ctx .restored) := by
    have hclosed : u.windowBoundary.ses = some (w.restored c.ctx .restored) := by
      rw [windowBoundary_restores h hlast hbest, closeRestored_eq, State.captureNat, (State.capture_frame _ _ _ _).2.2.2.1,
        restoredFrom_ses, hw]
      rfl
    rw [hgoes, ← hclosed]
    simp [State.prkBoundary]
  refine ⟨_, hses, rfl, ?_, ?_, ?_, rfl, rfl⟩
  · simp [Session.restored, hcap]
  · simp [Session.restored, hcap, he0]
  · simp [Session.restored, hcap, hfloor]

/-- The session settled COLD, or ended where its capacity is unknown (R55). -/
theorem settled_session {t : State} (h : AtClose s q v u) (hlast : q.countdown = 1) (hbest : q.best = none)
    (hgoes : t = u.prkBoundary.bumpChoices.follow ∨ v.cap = 0 ∧ t = u.prkBoundary.reserveAndSession.bumpChoices.follow) :
    (v.cap ≠ 0 → ∃ w, t.ses = some w ∧ core w = core v) ∧ (v.cap = 0 → t.ses = none ∧ t.alt.grant = 0 ∧ t.stg.applied = 0) := by
  obtain ⟨w, hw, hcore⟩ := h.session
  have hcap : w.cap = v.cap := congrArg (fun x => x.2.2.1) hcore
  have hknown : (u.ses.map Session.cap).getD 0 = v.cap := by rw [hw, ← hcap]; rfl
  have hclosed := windowBoundary_settles h hlast hbest
  rw [closeCold_eq, hknown] at hclosed
  constructor
  · intro hne
    refine ⟨w, ?_, hcore⟩
    obtain rfl | ⟨hzero, -⟩ := hgoes
    · have hses : u.windowBoundary.ses = some w := by
        rw [hclosed, if_pos hne, State.captureNat, (State.capture_frame _ _ _ _).2.2.2.1, settledFrom_ses, hw]
      rw [← hses]
      simp [State.prkBoundary]
    · exact absurd hzero hne
  · intro hzero
    rw [if_neg (by simpa using hzero)] at hclosed
    have hses : u.prkBoundary.ses = none := by
      simp [State.prkBoundary, hclosed]
    have hgrant : u.prkBoundary.alt.grant = 0 := by
      simp [State.prkBoundary, hclosed, State.dropSession]
    have happlied (y : State) (hy : y.ses = none) : y.follow.stg.applied = 0 := by
      rw [Parking.follow_of_noSession hy]
      rfl
    obtain rfl | ⟨-, rfl⟩ := hgoes
    · exact ⟨by simpa using hses, by simpa using hgrant, happlied _ (by simpa using hses)⟩
    · have hready : u.prkBoundary.reserveAndSession.ses = none := by
        rw [SessionStage.reserveAndSession_ses]
        cases hcfg : u.prkBoundary.cfg with
        | none => rw [SessionStage.sessionBoundary_ses_unconfigured hcfg, hses]
        | some c => rw [SessionStage.sessionBoundary_ses hcfg, hses]; rfl
      exact ⟨by simpa using hready, by simpa using hgrant, happlied _ (by simpa using hready)⟩

/-! ## The row (O56) -/

/-- A candidate as the boundary restores it. -/
theorem laterBest_some {c : Candidate} (h : c ∈ q.best) : (laterBest s q).best = some (if s.clk.epoch = 43199 then c.rolled else c) := by
  unfold laterBest
  split
  · rw [Option.mem_def.mp h]
    rfl
  · exact h

/-- The TAKEN that names the candidate's bay is held to be sent. -/
theorem restored_holds {c : Candidate} {t : State} (h : AtClose s q v u) (hlast : q.countdown = 1)
    (hbest : (laterBest s q).best = some c) (hplace : place t .taken = place u.windowBoundary .taken) :
    t.Holds (.taken q.busId c.bay) := by
  obtain ⟨hbus, -⟩ := laterBest_figures s q
  rw [holds_congr (s := u.windowBoundary) hplace, windowBoundary_restores h hlast hbest]
  have hlnk := closeRestored_lnk u (laterBest s q) c
  rw [holds_congr (place_of_lnk hlnk _), ← hbus]
  exact State.enqueue_holds _ _ (by simpa [State.modSes] using h.station)

theorem closed_with_candidate {c : Candidate} {t : State} (h : AtClose s q v u) (hlast : q.countdown = 1) (hc : c ∈ q.best)
    (h24 : s.log.counters.length = 24) (hgoes : t = u.prkBoundary.bumpChoices.follow)
    (hkept : ∀ {out : List Cause} {P : State → Prop}, KeptByActs out P → Spares out beforeCauses → P s → P u) :
    (∃ w, t.ses = some w ∧ w.origin = .restored ∧ w.cap = (if v.cap = 0 then c.ctx.cap else v.cap) ∧
        w.e0 = min v.e0 w.cap ∧ w.floor = min (if v.floor = 0 then c.ctx.floor else v.floor) w.cap ∧
        (let held := if s.clk.epoch = 43199 then chainDayLater c.ctx.chain else c.ctx.chain
         w.chain = { held with legs := held.legs.map fun l => { l with req := min l.req w.cap } }) ∧
        (w.cumImp, w.cumExp, w.cumResp, w.sessions) =
          (c.ctx.cumImp, c.ctx.cumExp, c.ctx.cumResp, min 255 (c.ctx.sessions + 1))) ∧
      t.Holds (.taken q.busId c.bay) ∧ t.counter .plugRestored = min 63 (s.counter .plugRestored + 1) ∧
      (Logged s t .plugRestored 2 fun r => r.detail = BitVec.ofNat 32 c.bay ∧ r.busId = v.busId) ∧
      t.prk.last = some { result := .restored, busId := q.busId, epoch := s.nextCount, offerer := c.bay,
                          offers := q.offers, lastE := c.ctx.lastE } := by
  have hbest := laterBest_some (s := s) hc
  obtain ⟨-, -, hlastRecord, -, -, hplace⟩ := goesOn_figures (.inl hgoes)
  obtain ⟨hbus, -, hoffers, -⟩ := laterBest_figures s q
  have hrolled : ∀ b : Bool, (if b then c.rolled else c).bay = c.bay ∧ (if b then c.rolled else c).ctx =
      { c.ctx with chain := if b then chainDayLater c.ctx.chain else c.ctx.chain } := by
    intro b
    cases b
    · exact ⟨rfl, rfl⟩
    · simp [Candidate.rolled, Context.rolled, chain_rolled]
  obtain ⟨hbay, hctx⟩ : (if s.clk.epoch = 43199 then c.rolled else c).bay = c.bay ∧
      (if s.clk.epoch = 43199 then c.rolled else c).ctx =
        { c.ctx with chain := if s.clk.epoch = 43199 then chainDayLater c.ctx.chain else c.ctx.chain } := by
    have h := hrolled (decide (s.clk.epoch = 43199))
    simpa using h
  generalize (if s.clk.epoch = 43199 then c.rolled else c) = x at hbest hbay hctx
  have hsession := restored_session h hlast hbest hgoes
  refine ⟨?_, ?_, ?_, ?_, ?_⟩
  · obtain ⟨w, hw, horigin, hcap, he0, hfloor, hchain, htotals⟩ := hsession
    rw [hctx] at hcap hfloor hchain htotals
    exact ⟨w, hw, horigin, hcap, he0, hfloor, hchain, htotals⟩
  · rw [← hbay]
    exact restored_holds h hlast hbest hplace
  · exact (restored_captures (keptByActs_counter _ _) (keptByActs_counter _ _) (by decide) h hlast hbest
      (fun y hy _ => counter_captured _ _ y hy) (.inl hgoes) (hkept (keptByActs_counter _ _) (by decide) ⟨h24, rfl⟩)).2
  · refine logged_of_between (d := BitVec.ofNat 32 x.bay) (b := none) (fun g h => h) ?_
    exact restored_captures (logGrew_keptByActs s) (keptByActs_captureBetween s _ _ _ _) (Spares.nil _) h hlast hbest
      (fun y hy hlive => captureBetween_of_capture hy ⟨by rw [← hbay]; rfl, hlive⟩) (.inl hgoes)
      (hkept (logGrew_keptByActs s) (Spares.nil _) (LogGrew.refl s))
  · have hclosed : u.windowBoundary.prk.last = (restoredFrom u (laterBest s q) x).prk.last := by
      rw [windowBoundary_restores h hlast hbest, closeRestored_eq]
      simp
    rw [hlastRecord, hclosed, restoredFrom_prk, h.epoch, hbus, hoffers, hbay, hctx]

theorem closed_without {t : State} (h : AtClose s q v u) (hlast : q.countdown = 1) (hbest : q.best = none)
    (h24 : s.log.counters.length = 24)
    (hgoes : t = u.prkBoundary.bumpChoices.follow ∨ v.cap = 0 ∧ t = u.prkBoundary.reserveAndSession.bumpChoices.follow)
    (hkept : ∀ {out : List Cause} {P : State → Prop}, KeptByActs out P → Spares out beforeCauses → P s → P u) :
    t.counter .plugCold = min 63 (s.counter .plugCold + 1) ∧
      (Logged s t .plugCold 1 fun r => r.detail = 0#32 ∧ r.busId = v.busId) ∧
      t.prk.last = some { result := if v.cap ≠ 0 then .cold else .noCapacity, busId := q.busId,
                          epoch := s.nextCount, offerer := 0, offers := q.offers, lastE := 0 } ∧
      (v.cap ≠ 0 → ∃ w, t.ses = some w ∧ core w = core v) ∧ (v.cap = 0 → t.ses = none ∧ t.alt.grant = 0 ∧ t.stg.applied = 0) := by
  have hforms : GoesOn u t := hgoes.imp id And.right
  obtain ⟨-, -, hlastRecord, -⟩ := goesOn_figures hforms
  obtain ⟨hbus, -, hoffers, -⟩ := laterBest_figures s q
  refine ⟨?_, ?_, ?_, settled_session h hlast hbest hgoes⟩
  · exact (settled_captures (keptByActs_counter _ _) (keptByActs_counter _ _) (by decide) (by decide) h hlast hbest
      (fun y hy _ => counter_captured _ _ y hy) hforms (hkept (keptByActs_counter _ _) (by decide) ⟨h24, rfl⟩)).2
  · refine logged_of_between (d := 0#32) (b := none) (fun g h => h) ?_
    exact settled_captures (logGrew_keptByActs s) (keptByActs_captureBetween s _ _ _ _) (Spares.nil _) (Spares.nil _) h hlast hbest
      (fun y hy hlive => captureBetween_of_capture hy ⟨rfl, hlive⟩) hforms
      (hkept (logGrew_keptByActs s) (Spares.nil _) (LogGrew.refl s))
  · obtain ⟨w, hw, hcore⟩ := h.session
    have hcap : w.cap = v.cap := congrArg (fun x => x.2.2.1) hcore
    rw [hlastRecord, windowBoundary_settles h hlast hbest, closeCold_prk, settledFrom_prk, h.epoch, hbus, hoffers, hw]
    by_cases hzero : v.cap = 0 <;> simp [hcap, hzero]

/-- Settles O56: the state in which the window closes, its close, and what of it the rest of the boundary leaves. -/
theorem windowCloseRestoresOrSettles : Obligations.WindowCloseRestoresOrSettles := by
  intro q v s hend hses hquery hlast hstation hchain h24
  obtain ⟨u, hclose, hplace, hkept, hgoes⟩ := epochBoundary_closes hend hses hquery hstation hchain
  have hforms : GoesOn u s.epochBoundary := hgoes.imp id fun ⟨_, _, h⟩ => h
  obtain ⟨hclk, hnone, -, hidle, hqueryPlace, -⟩ := goesOn_figures hforms
  obtain ⟨hwnone, hwidle, hflag⟩ := windowBoundary_prk hclose hlast
  have hrow : (s.prk.query.map fun q => decide (q.countdown ≤ 1)).getD false = true := by simp [hquery, hlast]
  refine Boundary.answers_of_boundaryWhere rfl hrow ⟨hnone.trans hwnone, hidle.trans hwidle, ?_, ?_, ?_, fun c hc => ?_, fun hbest => ?_⟩
  · refine unqueued_of_emptied (Holds.emptied_aged (p := place s .query) ?_)
    rw [← hplace, hqueryPlace]
    exact emptied_windowBoundary hclose hlast
  · exact goesOn_kept (keptByActs_flagged .handoverDone) (Spares.nil _) hforms hflag
  · rw [hclk, hclose.epoch]
  · have hfirst : s.epochBoundary = u.prkBoundary.bumpChoices.follow := by
      obtain h | ⟨hbest, -⟩ := hgoes
      · exact h
      · rw [hbest] at hc
        cases hc
    exact closed_with_candidate hclose hlast hc h24 hfirst hkept
  · obtain ⟨hcount, hlogged, hrecord, hsettles, hends⟩ :=
      closed_without hclose hlast hbest h24 (hgoes.imp id fun ⟨_, h⟩ => h) hkept
    refine ⟨hcount, hlogged, hrecord, fun hne => ?_, hends⟩
    obtain ⟨w, hw, hcore⟩ := hsettles hne
    obtain ⟨-, horigin, hcap, he0, hfloor, hwchain⟩ := by simpa only [core, Prod.mk.injEq] using hcore
    exact ⟨w, hw, horigin, hcap, he0, hfloor, by rw [hwchain, hchain]⟩

end Sys2Proof.Proofs.WindowClose
end

section
/-!
The missed-leg test at an epoch boundary (R60): which legs it misses, their captures, and the figures made ready after it (O38).
-/
namespace Sys2Proof.Proofs.MissedLegs

open Sys2Proof Sys2Proof.Machine Sys2Proof.Proofs.Acts Sys2Proof.Proofs.Captures Sys2Proof.Proofs.Stages
open Sys2Proof.Proofs.SessionStage

variable {s : State} {v : Session} {now window n : Nat}

/-! ## The legs missed -/

/-- A chain with its legs from the cursor up to `k` missed. -/
def missedTo (c : Chain) (k : Nat) : Chain :=
  { legs := c.legs.mapIdx fun i l => if c.cursor ≤ i ∧ i < k then { l with state := .missed } else l, cursor := k }

theorem missedTo_cursor (c : Chain) : missedTo c c.cursor = c := by
  have hnone : (fun (i : Nat) (l : Leg) => if c.cursor ≤ i ∧ i < c.cursor then { l with state := .missed } else l) = fun _ l => l := by
    funext i l
    rw [if_neg (by omega)]
  unfold missedTo
  rw [hnone]
  congr 1
  exact List.ext_getElem? fun i => by simp

/-- The first of the legs missed, then the others. -/
theorem missedTo_markCursor (c : Chain) {k : Nat} (h : c.cursor < k) : missedTo (c.markCursor .missed) k = missedTo c k := by
  have hlegs : (c.legs.modify c.cursor fun l => { l with state := .missed }).mapIdx (fun i l =>
      if c.cursor + 1 ≤ i ∧ i < k then { l with state := .missed } else l) =
      c.legs.mapIdx fun i l => if c.cursor ≤ i ∧ i < k then { l with state := .missed } else l := by
    refine List.ext_getElem? fun i => ?_
    simp only [List.getElem?_mapIdx, List.getElem?_modify]
    cases c.legs[i]? with
    | none => rfl
    | some l =>
      by_cases hi : c.cursor = i
      · subst hi
        simp [h]
      · have hrest : c.cursor < i ↔ c.cursor ≤ i := by omega
        simp [hi, hrest]
  exact congrArg (fun ls => ({ legs := ls, cursor := k } : Chain)) hlegs

/-- A leg that stands past its departure window. -/
def IsPast (now window : Nat) (l : Leg) : Prop := l.dep + window * 30 < now

theorem legIsPast_iff : v.legIsPast now window = true ↔ ∃ l, v.chain.legs[v.chain.cursor]? = some l ∧ IsPast now window l := by
  unfold Session.legIsPast Chain.cursorLeg IsPast
  cases v.chain.legs[v.chain.cursor]? <;> simp

/-- The missed-leg test marks past legs from the cursor on, as many as its bound admits, and stops before one that is not. -/
theorem missed_spec (now window n : Nat) (v : Session) : ∃ k, v.chain.cursor ≤ k ∧ k ≤ v.chain.cursor + n ∧
    (missed now window n v).chain = missedTo v.chain k ∧
    (∀ i, v.chain.cursor ≤ i → i < k → ∃ l, v.chain.legs[i]? = some l ∧ IsPast now window l) ∧
    (k < v.chain.cursor + n → ∀ l, v.chain.legs[k]? = some l → ¬IsPast now window l) := by
  induction n generalizing v with
  | zero => exact ⟨v.chain.cursor, le_rfl, by omega, (missedTo_cursor _).symm, fun i h1 h2 => by omega, fun h => by omega⟩
  | succ n ih =>
    unfold missed
    by_cases hpast : v.legIsPast now window = true
    · rw [if_pos hpast]
      obtain ⟨k, hlo, hhi, hchain, hall, hstop⟩ := ih { v with chain := v.chain.markCursor .missed }
      have hcursor : (v.chain.markCursor .missed).cursor = v.chain.cursor + 1 := rfl
      rw [hcursor] at hlo hhi hstop
      have hother : ∀ i, v.chain.cursor < i → (v.chain.markCursor .missed).legs[i]? = v.chain.legs[i]? := by
        intro i hi
        simp [Chain.markCursor, show v.chain.cursor ≠ i by omega]
      refine ⟨k, by omega, by omega, hchain.trans (missedTo_markCursor _ (by omega)), fun i h1 h2 => ?_, fun h l hl => ?_⟩
      · by_cases hi : i = v.chain.cursor
        · rw [hi]
          exact legIsPast_iff.mp hpast
        · obtain ⟨l, hl, hpast⟩ := hall i (by rw [hcursor]; omega) h2
          exact ⟨l, by rwa [hother i (by omega)] at hl, hpast⟩
      · exact hstop (by omega) l (by rwa [hother k (by omega)])
    · rw [if_neg hpast]
      refine ⟨v.chain.cursor, le_rfl, by omega, (missedTo_cursor _).symm, fun i h1 h2 => by omega, fun _ l hl hnow => ?_⟩
      exact hpast (legIsPast_iff.mpr ⟨l, hl, hnow⟩)

/-! ## Their captures -/

/-- Each leg missed is captured with its index: what holds before it, and what holds from it on. -/
theorem missLegs_captures {P Q : State → Prop} (hP : KeptByActs [] P) (hQ : KeptByActs [] Q) {bus i : Nat}
    (hcapture : ∀ y, P y → y.clk.epoch = now → y.liveBus = bus → Q ((y.captureNat .legMissed i).raise .legMissed))
    (hclk : s.clk.epoch = now) (hv : s.ses = some v) (hbus : v.busId = bus) (hlo : v.chain.cursor ≤ i)
    (hhi : i < (missed now window n v).chain.cursor) (h : P s) : Q (s.missLegs window n) := by
  induction n generalizing s v with
  | zero =>
    have hsame : missed now window 0 v = v := rfl
    rw [hsame] at hhi
    omega
  | succ n ih =>
    unfold missed at hhi
    by_cases hpast : v.legIsPast now window = true
    · rw [if_pos hpast] at hhi
      have hstep : s.missLegs window (n + 1) = (s.missLeg v).missLegs window n := by
        rw [State.missLegs, hv]
        dsimp only
        rw [hclk, if_pos hpast]
      rw [hstep]
      have hset : P (s.setSes (some { v with chain := v.chain.markCursor .missed })) := hP.congr h rfl rfl
      by_cases hi : v.chain.cursor = i
      · have hlive : (s.setSes (some { v with chain := v.chain.markCursor .missed })).liveBus = bus := hbus
        have hdone := hcapture _ hset hclk hlive
        rw [← hi] at hdone
        exact hQ.missLegs (Spares.nil _) _ _ hdone
      · refine ih (v := { v with chain := v.chain.markCursor .missed }) ?_ ?_ hbus ?_ hhi ?_
        · simpa [State.missLeg] using hclk
        · simp [State.missLeg]
        · have hcursor : (v.chain.markCursor .missed).cursor = v.chain.cursor + 1 := rfl
          show (v.chain.markCursor .missed).cursor ≤ i
          omega
        · exact hP.begins _ _ _ List.not_mem_nil hset
    · rw [if_neg hpast] at hhi
      omega

/-! ## The boundary of a settled session (O38) -/

/-- The session's chain as the missed-leg test finds it: a day later where the boundary is a day rollover (R58). -/
def laterChain (s : State) (v : Session) : Chain := if s.clk.epoch = 43199 then chainDayLater v.chain else v.chain

theorem laterChain_cursor (h : v.chain.cursor ≤ v.chain.legs.length) : (laterChain s v).cursor ≤ (laterChain s v).legs.length := by
  unfold laterChain chainDayLater
  split
  · simp
  · exact h

theorem opened_session (hv : s.ses = some v) : (opened s).lnkBoundary.ses = some { v with chain := laterChain s v } := by
  rw [(State.lnkBoundary_frame _).2.2.1, opened_ses, hv, Option.map_some, laterChain]
  split <;> rfl

/-- With no window open the park table comes last, with its waits and its holds. -/
theorem sessionAndPark_of_noWindow (h : s.prk.query = none) :
    s.sessionAndPark = s.reserveAndSession.waitsBoundary.holdsBoundary := by
  have hstill : s.reserveAndSession.prk.query = none := by simpa using h
  have hwindow : s.reserveAndSession.windowBoundary = s.reserveAndSession := by
    unfold State.windowBoundary
    rw [hstill]
  rw [sessionAndPark_of_open (by simp [h]), State.prkBoundary, hwindow]

/-- With no window open the boundary ends with the session as its own stage leaves it, and the grant as the link left it. -/
theorem epochBoundary_session (hend : s.AtEpochEnd) (hquery : s.prk.query = none) :
    s.epochBoundary.ses = (opened s).lnkBoundary.sessionBoundary.ses ∧
      s.epochBoundary.alt.grant = (opened s).lnkBoundary.alt.grant ∧ (opened s).lnkBoundary.prk.query = none := by
  have hnone : (opened s).lnkBoundary.prk.query = none := by
    rw [(State.lnkBoundary_frame _).2.2.2.2.2.1, opened_prk, hquery]
    rfl
  rw [epochBoundary_stages hend, sessionAndPark_of_noWindow hnone, ← SessionStage.reserveAndSession_ses]
  exact ⟨by simp, by simp, hnone⟩

/-- A leg missed at the boundary is captured with its index, the new epoch and the session's bus. -/
theorem epochBoundary_misses {P Q : State → Prop} (hP : KeptByActs [] P) (hQ : KeptByActs [] Q) {c : ConfigRecord} {i : Nat}
    (hend : s.AtEpochEnd) (hv : s.ses = some v) (hcfg : s.cfg = some c) (hquery : s.prk.query = none)
    (hcapture : ∀ y, P y → y.clk.epoch = s.nextCount → y.liveBus = v.busId → Q ((y.captureNat .legMissed i).raise .legMissed))
    (hlo : (laterChain s v).cursor ≤ i)
    (hhi : i < (missed s.nextCount c.window (laterChain s v).legs.length { v with chain := laterChain s v }).chain.cursor)
    (h : P s) : Q s.epochBoundary := by
  obtain ⟨hclk, -, -, hocfg⟩ := opened_frame s
  have hsession : ∀ u : State, P u → u.cfg = some c → u.clk.epoch = s.nextCount → u.ses = some { v with chain := laterChain s v } →
      Q u.sesBoundary := by
    intro u hu hucfg huclk hus
    have hmissed : Q (u.missLegs c.window (laterChain s v).legs.length) :=
      missLegs_captures hP hQ hcapture huclk hus rfl hlo hhi hu
    have hstage : u.sesBoundary = ((u.missLegs c.window (laterChain s v).legs.length).readySession c).claimAndLatch := by
      rw [State.sesBoundary, State.sessionBoundary, hucfg]
      dsimp only
      rw [hus]
      rfl
    rw [hstage]
    exact hQ.claimAndLatch (hQ.readySession (Spares.nil _) _ hmissed)
  have hreserve : ∀ u : State, P u → u.cfg = some c → u.clk.epoch = s.nextCount → u.ses = some { v with chain := laterChain s v } →
      Q u.reserveAndSession := by
    intro u hu hucfg huclk hus
    unfold State.reserveAndSession State.reserveAndClaim
    refine hQ.withdrawalCheck (Spares.nil _) ?_
    split
    · exact hQ.rsvCountdown (Spares.nil _) (hsession u hu hucfg huclk hus)
    · exact hsession _ (hP.rsvCountdown (Spares.nil _) hu) (by simpa using hucfg) (by simpa using huclk) (by simpa using hus)
  obtain ⟨-, -, hnone⟩ := epochBoundary_session hend hquery
  have hlinked : P (opened s).lnkBoundary := hP.lnkBoundary (Spares.nil _) (opened_kept hP (Spares.nil _) h)
  have hreserved : Q (opened s).lnkBoundary.reserveAndSession := by
    refine hreserve _ hlinked ?_ ?_ (opened_session hv)
    · rw [(State.lnkBoundary_frame _).2.2.2.2.2.2.1, hocfg, hcfg]
    · rw [(State.lnkBoundary_frame _).1, hclk]
  rw [epochBoundary_stages hend, sessionAndPark_of_noWindow hnone]
  exact hQ.congr (hQ.holdsBoundary (Spares.nil _) (hQ.waitsBoundary hreserved)) (by simp) (by simp)

/-- Settles O38: the legs that the test misses, their captures, and the figures that stand at the boundary's end. -/
theorem boundaryTestsLegsAndReadies : Obligations.BoundaryTestsLegsAndReadies := by
  intro v c s hend hv hcfg hquery hok
  obtain ⟨-, hcursor, -⟩ := hok
  obtain ⟨hclk, -, -, hocfg⟩ := opened_frame s
  obtain ⟨hses, hgrant, hnone⟩ := epochBoundary_session hend hquery
  have hlclk : (opened s).lnkBoundary.clk.epoch = s.nextCount := by rw [(State.lnkBoundary_frame _).1, hclk]
  have hlcfg : (opened s).lnkBoundary.cfg = some c := by rw [(State.lnkBoundary_frame _).2.2.2.2.2.2.1, hocfg, hcfg]
  rw [sessionBoundary_ses hlcfg, opened_session hv, hnone, hlclk, ← hgrant] at hses
  change s.epochBoundary.ses = some ((missed s.nextCount c.window (laterChain s v).legs.length
    { v with chain := laterChain s v }).readied c s.nextCount s.epochBoundary.alt.grant (none : Option Query).isSome) at hses
  have hwithin := laterChain_cursor (s := s) hcursor
  have hkeeps := missed_keeps s.nextCount c.window (laterChain s v).legs.length { v with chain := laterChain s v }
  obtain ⟨k, hlo, hhi, hchain, hall, hstop⟩ :=
    missed_spec s.nextCount c.window (laterChain s v).legs.length { v with chain := laterChain s v }
  have hbound : k ≤ (laterChain s v).legs.length := by
    by_contra hbeyond
    obtain ⟨l, hl, -⟩ := hall (laterChain s v).legs.length hwithin (by omega)
    simp at hl
  have hcaptures {P Q : State → Prop} (hP : KeptByActs [] P) (hQ : KeptByActs [] Q) (i : Nat) (hi : (laterChain s v).cursor ≤ i)
      (hik : i < k) (hcapture : ∀ y, P y → y.clk.epoch = s.nextCount → y.liveBus = v.busId →
        Q ((y.captureNat .legMissed i).raise .legMissed)) (h : P s) : Q s.epochBoundary :=
    epochBoundary_misses hP hQ hend hv hcfg hquery hcapture hi (by rw [hchain]; exact hik) h
  refine ⟨_, Boundary.exec_epochBoundary s, ?_⟩
  beta_reduce
  intro history chain
  have hlater : chain = laterChain s v := rfl
  clear_value chain
  subst hlater
  refine ⟨_, hses, ?_⟩
  generalize missed s.nextCount c.window (laterChain s v).legs.length { v with chain := laterChain s v } = m at hkeeps hchain
  have hready : (m.readied c s.nextCount s.epochBoundary.alt.grant (none : Option Query).isSome).chain = missedTo (laterChain s v) k := hchain
  rw [hready]
  refine ⟨hlo, hbound, rfl, fun i l hi hik hl => ?_, fun l hl => ?_, ?_, fun hk => ?_, fun i hi hik => ?_⟩
  · obtain ⟨x, hx, hpast⟩ := hall i hi hik
    rw [hl] at hx
    exact Option.some.inj hx ▸ hpast
  · have hleg : (laterChain s v).legs[k]? = some l := by
      have hmapped : ((laterChain s v).legs.mapIdx fun i l =>
          if (laterChain s v).cursor ≤ i ∧ i < k then { l with state := .missed } else l)[k]? = some l := hl
      simpa using hmapped
    have hlt : k < (laterChain s v).legs.length := (List.getElem?_eq_some_iff.mp hleg).1
    have hnow := hstop (by show k < (laterChain s v).cursor + _; omega) l hleg
    unfold IsPast at hnow
    omega
  · rw [hkeeps, hchain]
    rfl
  · exact hcaptures (logGrew_keptByActs s) (keptByActs_flagged .legMissed) _ le_rfl hk (fun y _ _ _ => by simp) (LogGrew.refl s)
  · refine logged_of_between (d := BitVec.ofNat 32 i) (b := none) (fun g h => h) ?_
    exact hcaptures (logGrew_keptByActs s) (keptByActs_captureBetween s _ _ _ _) i hi hik
      (fun y hy hclk hbus => (keptByActs_captureBetween s _ _ _ _).raise _ (captureBetween_of_capture hy ⟨rfl, hclk, hbus⟩))
      (LogGrew.refl s)

end Sys2Proof.Proofs.MissedLegs
end

section
/-!
The event countdown among the parts of an epoch boundary (R121, R134): what the countdown does to the event state, and that the
parts around it leave the event alone.
-/
namespace Sys2Proof.Proofs.Countdown

open Sys2Proof Sys2Proof.Machine Sys2Proof.Proofs.Acts Sys2Proof.Proofs.Stages Sys2Proof.Proofs.Places

variable {s t u : State}

/-! ## The event registers -/

/-- The reserve unit but for what a withdrawal and a change of the own grant move. -/
def eventOf (r : Rsv) : Rsv := { r with baseline := 0, standing := none, share := 0 }

/-- What the event registers say of an event. -/
theorem eventOf_figures {r r' : Rsv} (h : eventOf r = eventOf r') : r.active = r'.active ∧ r.holder = r'.holder ∧
    r.dActive = r'.dActive ∧ r.remaining = r'.remaining ∧ r.refresh = r'.refresh ∧ r.ownSeq = r'.ownSeq ∧ r.lastSeq = r'.lastSeq ∧
    r.members = r'.members ∧ r.shareSum = r'.shareSum := by
  simp only [eventOf, Rsv.mk.injEq] at h
  simp only [h, and_self]

theorem eventOf_setGrant (s : State) (g : Nat) : eventOf (s.setGrant g).rsv = eventOf s.rsv := by
  rw [State.setGrant_rsv]
  split <;> rfl

theorem eventOf_capIsolated (s : State) : eventOf s.capIsolated.rsv = eventOf s.rsv := by
  unfold State.capIsolated
  split
  · exact eventOf_setGrant s _
  · rfl

theorem eventOf_withdraw (s : State) : eventOf s.withdraw.rsv = eventOf s.rsv := by simp [State.withdraw, eventOf]

theorem eventOf_dropSession (s : State) : eventOf s.dropSession.rsv = eventOf s.rsv := by
  have hgone : eventOf ((s.setSes none).altDiscard.setGrant 0).rsv = eventOf s.rsv := eventOf_setGrant (s.setSes none).altDiscard 0
  have hended : eventOf ((s.setSes none).altDiscard.setGrant 0).rsvSessionEnd.rsv = eventOf s.rsv := by
    unfold State.rsvSessionEnd
    split
    · exact (eventOf_withdraw _).trans hgone
    · exact hgone
  have hdup : s.dropSession.rsv = ((s.setSes none).altDiscard.setGrant 0).rsvSessionEnd.rsv := by simp [State.dropSession]
  rw [hdup, hended]

theorem eventOf_windowBoundary (s : State) : eventOf s.windowBoundary.rsv = eventOf s.rsv := by
  unfold State.windowBoundary
  split
  · rfl
  · split
    · split
      · exact congrArg eventOf (by simp [State.closeRestored])
      · unfold State.closeCold
        dsimp only
        split
        · exact congrArg eventOf (by simp)
        · exact (eventOf_dropSession _).trans (congrArg eventOf (by simp))
    · rfl

theorem eventOf_enterIsolated (s : State) : eventOf s.enterIsolated.rsv = eventOf s.rsv := by
  rw [Isolation.enterIsolated_rsv]
  rfl

theorem eventOf_missEpoch (s : State) : eventOf s.missEpoch.rsv = eventOf s.rsv := by
  rw [Isolation.missEpoch_eq]
  split
  · exact eventOf_enterIsolated _
  · rfl

theorem eventOf_lnkBoundary (s : State) : eventOf s.lnkBoundary.rsv = eventOf s.rsv := by
  refine State.lnkBoundary_preserves (P := fun t => eventOf t.rsv = eventOf s.rsv) (fun _ h => h) (fun t h => ?_)
    (fun t _ h => Eq.trans ?_ h) (fun t _ h => Eq.trans ?_ h) (fun t h => ?_) s rfl
  · exact (congrArg eventOf (by simp)).trans h
  · unfold State.listeningBoundary
    split
    · dsimp only
      split
      · exact eventOf_enterIsolated _
      · rfl
    · rfl
  · obtain ⟨e, -⟩ | ⟨e, -⟩ | ⟨e, -⟩ := t.claimBoundary_cases <;> rw [e]
    · exact eventOf_missEpoch t
    · exact (eventOf_missEpoch _).trans (congrArg eventOf (by simp))
  · exact (congrArg eventOf (by simp)).trans h

theorem eventOf_opened (s : State) : eventOf (opened s).rsv = eventOf s.rsv := by
  obtain ⟨-, -, -, -, -, hrsv, -⟩ := rolledIf_frame (s.clk.epoch == 43199) (dated s)
  have hreevaluate (x : State) : eventOf x.reevaluate.rsv = eventOf x.rsv := by
    unfold State.reevaluate
    rw [(State.evalDupBus_frame _).2.2.2.2.2.2.2.1, (State.evalLimits_frame _).2.2.2.2.2.2.2.1]
    exact eventOf_capIsolated x
  exact (hreevaluate _).trans (congrArg eventOf hrsv)

/-! ## The countdown itself (R121, R134) -/

/-- The reserve unit after the countdown of an event that goes on, with the own bay id. -/
def countedOn (own : Nat) (r : Rsv) : Rsv :=
  if r.holder = some own then
    if r.refresh ≤ 1 then
      { r with remaining := r.remaining - 1, refresh := 5, ownSeq := (r.ownSeq + 1) % 256, lastSeq := (r.ownSeq + 1) % 256 }
    else { r with remaining := r.remaining - 1, refresh := r.refresh - 1 }
  else { r with remaining := r.remaining - 1 }

theorem eventOf_countedOn (own : Nat) (r : Rsv) : eventOf (countedOn own r) = countedOn own (eventOf r) := by
  unfold countedOn eventOf
  split
  · split <;> rfl
  · rfl

theorem rsvCountdown_ends (hactive : s.rsv.active = true) (hlast : s.rsv.remaining ≤ 1) :
    s.rsvCountdown = (s.setRsv { s.rsv with remaining := s.rsv.remaining - 1 }).endEvent := by
  have hzero : s.rsv.remaining - 1 = 0 := by omega
  unfold State.rsvCountdown
  rw [hactive, if_neg (by simp)]
  exact if_pos hzero

/-- What the countdown needs of an event to go on: a demand above 0, and the own number as the last one while it is held. -/
structure InProgress (s : State) : Prop where
  active : s.rsv.active = true
  demand : 0 < s.rsv.dActive
  ownSeq : s.rsv.ownSeq < 256
  last : s.rsv.holder = some s.ownBay → s.rsv.lastSeq = s.rsv.ownSeq

/-- A refresh repeats the demand with the next own number, and changes no figure of the event else (R121). -/
theorem sendEvent_repeats (h : InProgress s) (hholder : s.rsv.holder = some s.ownBay) (r : Nat) :
    s.sendEvent s.rsv.dActive r = (OwnEvents.numbered s s.rsv.dActive r).setRsv { s.rsv with
      ownSeq := (s.rsv.ownSeq + 1) % 256, refresh := 5, lastSeq := (s.rsv.ownSeq + 1) % 256, remaining := r } := by
  have hrsv := OwnEvents.numbered_rsv s s.rsv.dActive r
  have hnewer : isNewer ((s.rsv.ownSeq + 1) % 256) (OwnEvents.numbered s s.rsv.dActive r).rsv.lastSeq = true := by
    rw [hrsv, h.last hholder]
    exact isNewer_next _ h.ownSeq
  rw [OwnEvents.sendEvent_eq, Events.judgeEvent_holder (by rw [hrsv]; exact h.active) (by rw [hrsv]; exact hholder),
    if_pos hnewer, if_neg h.demand.ne']
  unfold State.holderUpdate
  dsimp only
  rw [hrsv, if_pos rfl]

/-- The state with one remaining epoch less. -/
def shortened (s : State) : State := s.setRsv { s.rsv with remaining := s.rsv.remaining - 1 }

/-- An event with more than one epoch left goes on: its holder refreshes it, or counts to the refresh (R121, R134). -/
theorem rsvCountdown_more (h : InProgress s) (hmore : 1 < s.rsv.remaining) : s.rsvCountdown =
    if s.rsv.holder = some s.ownBay then (shortened s).refreshBoundary else shortened s := by
  have hleft : ¬s.rsv.remaining - 1 = 0 := by omega
  unfold State.rsvCountdown
  rw [h.active, if_neg (by simp)]
  exact if_neg hleft

theorem rsvCountdown_sends (h : InProgress s) (hmore : 1 < s.rsv.remaining) (hholder : s.rsv.holder = some s.ownBay)
    (hdue : s.rsv.refresh ≤ 1) : s.rsvCountdown = (shortened s).sendEvent s.rsv.dActive (s.rsv.remaining - 1) := by
  rw [rsvCountdown_more h hmore, if_pos hholder]
  exact if_pos hdue

theorem rsvCountdown_goesOn (h : InProgress s) (hmore : 1 < s.rsv.remaining) :
    s.rsvCountdown = { s with rsv := countedOn s.ownBay s.rsv, lnk := s.rsvCountdown.lnk } := by
  have hnext : InProgress (shortened s) := ⟨h.active, h.demand, h.ownSeq, h.last⟩
  unfold countedOn
  by_cases hholder : s.rsv.holder = some s.ownBay
  · rw [if_pos hholder]
    by_cases hdue : s.rsv.refresh ≤ 1
    · have hrepeat := sendEvent_repeats hnext hholder (s.rsv.remaining - 1)
      rw [rsvCountdown_sends h hmore hholder hdue, if_pos hdue]
      refine hrepeat.trans ?_
      rw [show (shortened s).sendEvent s.rsv.dActive (s.rsv.remaining - 1) = _ from hrepeat]
      ext1 <;> simp [OwnEvents.numbered, shortened]
    · have hwait : (shortened s).refreshBoundary = s.setRsv { s.rsv with
          remaining := s.rsv.remaining - 1, refresh := s.rsv.refresh - 1 } := if_neg hdue
      rw [rsvCountdown_more h hmore, if_pos hholder, if_neg hdue, hwait]
      rfl
  · rw [rsvCountdown_more h hmore, if_neg hholder, if_neg hholder]
    rfl

/-- The frame of a refresh is held to be sent (R121). -/
theorem rsvCountdown_holds (h : InProgress s) (hmore : 1 < s.rsv.remaining) (hholder : s.rsv.holder = some s.ownBay)
    (hdue : s.rsv.refresh ≤ 1) (hstation : s.lnk.station ≠ .unconfigured) :
    s.rsvCountdown.Holds (.event ((s.rsv.ownSeq + 1) % 256) s.rsv.dActive (s.rsv.remaining - 1)) := by
  rw [rsvCountdown_sends h hmore hholder hdue]
  exact OwnEvents.sendEvent_holds (s := shortened s) hstation

/-! ## What the parts around the countdown leave -/

/-- The causes of the parts of an epoch boundary but the countdown. -/
def aroundCauses : List Cause := [.dupBus, .isolated, .legMissed, .atRisk, .plugRestored, .plugCold, .withdrawn, .contextExpired]

/-- A part of an epoch boundary that leaves the event alone. -/
structure Around (s t : State) : Prop where
  event : eventOf t.rsv = eventOf s.rsv
  cfg : t.cfg = s.cfg
  station : t.lnk.station = .unconfigured ↔ s.lnk.station = .unconfigured
  held : ∀ f, keyOf f = .event → s.Holds f → t.Holds f
  kept : ∀ (out : List Cause) (P : State → Prop), KeptByActs out P → Spares out aroundCauses → P s → P t

theorem Around.trans (h : Around s t) (h' : Around t u) : Around s u :=
  ⟨h'.event.trans h.event, h'.cfg.trans h.cfg, h'.station.trans h.station, fun f hf hs => h'.held f hf (h.held f hf hs),
    fun out P hP hc hs => h'.kept out P hP hc (h.kept out P hP hc hs)⟩

/-- A part that touches neither the place of EVENT frames nor the station state. -/
theorem Around.of_place (hevent : eventOf t.rsv = eventOf s.rsv) (hcfg : t.cfg = s.cfg) (hstation : t.lnk.station = s.lnk.station)
    (hplace : place t .event = place s .event)
    (hkept : ∀ (out : List Cause) (P : State → Prop), KeptByActs out P → Spares out aroundCauses → P s → P t) : Around s t where
  event := hevent
  cfg := hcfg
  station := by rw [hstation]
  held f hf hs := (holds_congr (by rw [hf, hplace])).mpr hs
  kept := hkept

theorem around_opened (s : State) : Around s (opened s) := by
  obtain ⟨-, hlnk, -, hcfg⟩ := opened_frame s
  exact Around.of_place (eventOf_opened s) hcfg (by rw [hlnk]) (place_of_lnk hlnk _)
    fun out P hP hc h => opened_kept hP (hc.sub (by simp [aroundCauses])) h

theorem holds_aged {f : Frame} (h : place t (keyOf f) = aged (place s (keyOf f))) (hs : s.Holds f) : t.Holds f := by
  rw [holds_iff] at hs ⊢
  rw [h]
  refine hs.imp (fun ⟨e, he, hf⟩ => ⟨e.boundary, List.mem_map_of_mem he, hf⟩) id

theorem around_lnkBoundary (s : State) : Around s s.lnkBoundary where
  event := eventOf_lnkBoundary s
  cfg := by simp
  station := Peers.station_lnkBoundary s
  held f hf hs := holds_aged (by rw [hf]; exact place_lnkBoundary_other (k := .event) _ nofun nofun) hs
  kept out P hP hc h := hP.lnkBoundary (hc.sub (by simp [aroundCauses])) h

theorem around_sesBoundary (s : State) : Around s s.sesBoundary :=
  Around.of_place (by simp) (by simp) (by simp) (place_sesBoundary (k := .event) s nofun)
    fun out P hP hc h => hP.sesBoundary (hc.sub (by simp [aroundCauses, KeptByActs.readyCauses])) h

theorem around_withdrawalCheck (s : State) : Around s s.withdrawalCheck := by
  refine Around.of_place ?_ (by simp) (by simp) (place_of_lnk (by simp) _)
    fun out P hP hc h => hP.withdrawalCheck (hc.sub (by simp [aroundCauses])) h
  unfold State.withdrawalCheck
  split
  · exact eventOf_withdraw s
  · rfl

theorem around_prkBoundary (s : State) : Around s s.prkBoundary := by
  refine Around.of_place ?_ (by simp) (by simp) ?_ fun out P hP hc h => ?_
  · refine (congrArg eventOf ?_).trans (eventOf_windowBoundary s)
    simp [State.prkBoundary]
  · unfold State.prkBoundary
    rw [place_holdsBoundary_other (k := .event) _ fun _ => nofun, place_waitsBoundary_other (k := .event) _ fun _ => nofun,
      place_windowBoundary (k := .event) _ nofun nofun]
  · exact hP.holdsBoundary (hc.sub (by simp [aroundCauses]))
      (hP.waitsBoundary (hP.windowBoundary (hc.sub (by simp [aroundCauses, KeptByActs.windowCauses])) h))

theorem around_finish (s : State) : Around s s.bumpChoices.follow :=
  Around.of_place (by simp) (by simp) (by simp) (place_of_lnk (by simp) _) fun _ _ hP _ h => hP.congr h (by simp) (by simp)

/-! ## The boundary around its countdown -/

/-- The whole Wh that the end of an event reports stand at the session's boundary. -/
theorem responseDetail_of_ses {g : Session → Session} (hresp : ∀ v, (g v).resp = v.resp) (hses : t.ses = s.ses.map g) :
    t.responseDetail = s.responseDetail := by
  unfold State.responseDetail
  rw [hses]
  cases s.ses <;> simp [hresp]

theorem sesBoundary_responseDetail (s : State) : s.sesBoundary.responseDetail = s.responseDetail := by
  have hses : s.sesBoundary.ses = s.sessionBoundary.ses := by simp [State.sesBoundary]
  cases hcfg : s.cfg with
  | none => exact responseDetail_of_ses (g := id) (fun _ => rfl) (by
      rw [hses, SessionStage.sessionBoundary_ses_unconfigured hcfg, Option.map_id, id])
  | some c =>
    refine responseDetail_of_ses (fun v => ?_) (hses.trans (SessionStage.sessionBoundary_ses hcfg))
    rw [SessionStage.missed_keeps]
    rfl

theorem linked_responseDetail (s : State) : (opened s).lnkBoundary.responseDetail = s.responseDetail := by
  refine responseDetail_of_ses (g := fun v => if s.clk.epoch = 43199 then { v with chain := chainDayLater v.chain } else v) (fun v => ?_)
    (((State.lnkBoundary_frame _).2.2.1).trans (opened_ses s))
  split <;> rfl

/-- RSV's countdown comes before or after the session's boundary (log entry 2). -/
theorem reserveAndSession_countdown (s : State) : ∃ u, (u = s ∨ u = s.sesBoundary) ∧
    Around u.rsvCountdown s.reserveAndSession := by
  unfold State.reserveAndSession State.reserveAndClaim
  split
  · exact ⟨_, .inr rfl, around_withdrawalCheck _⟩
  · exact ⟨_, .inl rfl, (around_sesBoundary _).trans (around_withdrawalCheck _)⟩

theorem linked_open (h : ∀ q ∈ s.prk.query, 1 < q.countdown) : ∀ q ∈ (opened s).lnkBoundary.prk.query, 1 < q.countdown := by
  intro q hq
  rw [(State.lnkBoundary_frame _).2.2.2.2.2.1, opened_prk] at hq
  obtain ⟨p, hp, rfl⟩ := Option.map_eq_some_iff.mp hq
  have hcount := h p hp
  split <;> exact hcount

/-- An epoch boundary is its countdown, with parts before it and after it that leave the event alone. -/
theorem epochBoundary_countdown (hend : s.AtEpochEnd) : ∃ u, Around s u ∧ Around u.rsvCountdown s.epochBoundary ∧
    ((∀ q ∈ s.prk.query, 1 < q.countdown) → u.responseDetail = s.responseDetail) := by
  have hlinked : Around s (opened s).lnkBoundary := (around_opened s).trans (around_lnkBoundary _)
  have hdetail := linked_responseDetail s
  have hopen := linked_open (s := s)
  rw [epochBoundary_stages hend]
  generalize (opened s).lnkBoundary = l at hlinked hdetail hopen
  have hses (x : State) : ∀ u, u = x ∨ u = x.sesBoundary → Around x u ∧ u.responseDetail = x.responseDetail := by
    rintro u (rfl | rfl)
    · exact ⟨Around.of_place rfl rfl rfl rfl fun _ _ _ _ h => h, rfl⟩
    · exact ⟨around_sesBoundary x, sesBoundary_responseDetail x⟩
  obtain heq | ⟨hwant, heq⟩ := sessionAndPark_cases l
  · obtain ⟨u, hu, hafter⟩ := reserveAndSession_countdown l
    obtain ⟨haround, hresp⟩ := hses l u hu
    refine ⟨u, hlinked.trans haround, ?_, fun _ => hresp.trans hdetail⟩
    rw [heq]
    exact (hafter.trans (around_prkBoundary _)).trans (around_finish _)
  · obtain ⟨u, hu, hafter⟩ := reserveAndSession_countdown l.prkBoundary
    obtain ⟨haround, -⟩ := hses l.prkBoundary u hu
    refine ⟨u, (hlinked.trans (around_prkBoundary l)).trans haround, ?_, fun h => ?_⟩
    · rw [heq]
      exact hafter.trans (around_finish _)
    · rw [closesForWant_of_open (hopen h)] at hwant
      exact absurd hwant (by simp)

/-- An event in progress is so up to the countdown. -/
theorem Around.inProgress (h : Around s u) (hs : InProgress s) : InProgress u := by
  have hown : u.ownBay = s.ownBay := by rw [State.ownBay, State.ownBay, h.cfg]
  obtain ⟨hactive, hholder, hdemand, -, -, hseq, hlast, -⟩ := eventOf_figures h.event
  exact ⟨hactive.trans hs.active, hdemand ▸ hs.demand, hseq ▸ hs.ownSeq, fun hheld =>
    hlast.trans ((hs.last (hholder ▸ hown ▸ hheld)).trans hseq.symm)⟩

end Sys2Proof.Proofs.Countdown
end

section
/-!
The countdown, the refresh and the withdrawal at an epoch boundary (R121, R134, R135; O52).
-/
namespace Sys2Proof.Proofs.EventBoundary

open Sys2Proof Sys2Proof.Machine Sys2Proof.Proofs.Acts Sys2Proof.Proofs.Captures Sys2Proof.Proofs.Stages Sys2Proof.Proofs.Places
open Sys2Proof.Proofs.Countdown Sys2Proof.Proofs.Boundary

variable {s t u : State}

theorem inProgress_of_ok (hok : s.ReserveOk) (hactive : s.rsv.active = true) : InProgress s ∧ s.lnk.station ≠ .unconfigured := by
  obtain ⟨⟨hseq, hin, -⟩, hlast⟩ := Event.reserveOk_iff.mp hok
  obtain ⟨hconfigured, -, hdemand, -, -⟩ := hin hactive
  exact ⟨⟨hactive, hdemand, hseq, hlast hactive⟩, Event.isConfigured_iff.mp hconfigured⟩

/-! ## The end by the countdown (R134, R137) -/

/-- The event's items after an epoch boundary whose countdown ends it. -/
theorem epochBoundary_ends (hend : s.AtEpochEnd) (hactive : s.rsv.active = true) (hlast : s.rsv.remaining ≤ 1) :
    eventOf s.epochBoundary.rsv = eventOf (Events.endedRsv s) := by
  obtain ⟨u, hu, hafter, -⟩ := epochBoundary_countdown hend
  obtain ⟨hsame, -, hdemand, hleft, -⟩ := eventOf_figures hu.event
  have hended := rsvCountdown_ends (hsame.trans hactive) (hleft.trans_le hlast)
  rw [hafter.event, hended, Events.endEvent_rsv]
  have hcleared : eventOf (Events.endedRsv u) = Events.endedRsv (s.setRsv (eventOf u.rsv)) := rfl
  exact hcleared.trans (by rw [hu.event]; rfl)

/-- What the capture of the event's end shows at the boundary. -/
theorem epochBoundary_endCaptured {out : List Cause} {P Q : State → Prop} (hP : KeptByActs out P) (hQ : KeptByActs out Q)
    (hc : Spares out aroundCauses) (hend : s.AtEpochEnd) (hactive : s.rsv.active = true) (hlast : s.rsv.remaining ≤ 1)
    (hcapture : ∀ y : State, P y → y.rsv.active = true → y.rsv.dActive = s.rsv.dActive →
      ((∀ q ∈ s.prk.query, 1 < q.countdown) → y.responseDetail = s.responseDetail) → Q y.endEvent) (h : P s) :
    Q s.epochBoundary := by
  obtain ⟨u, hu, hafter, hdetail⟩ := epochBoundary_countdown hend
  obtain ⟨hsame, -, hdemand, hleft, -⟩ := eventOf_figures hu.event
  have hended := rsvCountdown_ends (hsame.trans hactive) (hleft.trans_le hlast)
  refine hafter.kept _ _ hQ hc ?_
  rw [hended]
  exact hcapture _ (hP.congr (hu.kept _ _ hP hc h) rfl rfl) (hsame.trans hactive) hdemand hdetail

/-! ## An event that goes on (R121) -/

theorem epochBoundary_goesOn (hend : s.AtEpochEnd) (hs : InProgress s) (hmore : 1 < s.rsv.remaining) :
    eventOf s.epochBoundary.rsv = countedOn s.ownBay (eventOf s.rsv) := by
  obtain ⟨u, hu, hafter, -⟩ := epochBoundary_countdown hend
  have hown : u.ownBay = s.ownBay := by rw [State.ownBay, State.ownBay, hu.cfg]
  obtain ⟨-, -, -, hleft, -⟩ := eventOf_figures hu.event
  have hcount := rsvCountdown_goesOn (hu.inProgress hs) (hleft ▸ hmore)
  rw [hafter.event, hcount]
  dsimp only
  rw [eventOf_countedOn, hu.event, hown]

/-- No capture of an event's cause is taken at a boundary at which the event goes on. -/
theorem epochBoundary_spares {out : List Cause} {P : State → Prop} (hP : KeptByActs out P) (hc : Spares out aroundCauses)
    (hend : s.AtEpochEnd) (hs : InProgress s) (hmore : 1 < s.rsv.remaining) (h : P s) : P s.epochBoundary := by
  obtain ⟨u, hu, hafter, -⟩ := epochBoundary_countdown hend
  obtain ⟨-, -, -, hleft, -⟩ := eventOf_figures hu.event
  have hcount := rsvCountdown_goesOn (hu.inProgress hs) (hleft ▸ hmore)
  refine hafter.kept _ _ hP hc (hP.congr (hu.kept _ _ hP hc h) ?_ ?_) <;> rw [hcount]

theorem epochBoundary_holds (hend : s.AtEpochEnd) (hs : InProgress s) (hstation : s.lnk.station ≠ .unconfigured)
    (hmore : 1 < s.rsv.remaining) (hholder : s.rsv.holder = some s.ownBay) (hdue : s.rsv.refresh ≤ 1) :
    s.epochBoundary.Holds (.event ((s.rsv.ownSeq + 1) % 256) s.rsv.dActive (s.rsv.remaining - 1)) := by
  obtain ⟨u, hu, hafter, -⟩ := epochBoundary_countdown hend
  have hown : u.ownBay = s.ownBay := by rw [State.ownBay, State.ownBay, hu.cfg]
  obtain ⟨-, hsame, hdemand, hleft, hrefresh, hseq, -⟩ := eventOf_figures hu.event
  have hheld := rsvCountdown_holds (hu.inProgress hs) (hleft ▸ hmore) (by rw [hown, hsame, hholder]) (hrefresh ▸ hdue)
    (fun h => hstation (hu.station.mp h))
  rw [hseq, hdemand, hleft] at hheld
  exact hafter.held _ rfl hheld

/-! ## The withdrawal check (R135, log entry 11) -/

/-- The link's boundary moves the event state and the setpoint by an entry into ISOLATED alone. -/
theorem lnkBoundary_of_stays (h : s.lnk.station = .active) (h' : s.lnkBoundary.lnk.station = .active) :
    s.lnkBoundary.rsv = s.rsv ∧ s.lnkBoundary.stg = s.stg := by
  have hmiss (x : State) (hx : x.missEpoch.lnk.station = .active) : x.missEpoch.rsv = x.rsv ∧ x.missEpoch.stg = x.stg := by
    rw [Isolation.missEpoch_eq] at hx ⊢
    split at hx
    · rw [Isolation.enterIsolated_lnk] at hx
      cases hx
    · rename_i hstays
      rw [if_neg hstays]
      exact ⟨rfl, rfl⟩
  revert h'
  unfold State.lnkBoundary
  dsimp only
  generalize hx : s.setLnk { s.lnk with queue := s.lnk.queue.map QEntry.boundary } = x
  generalize hy : (if x.lnk.queue.any QEntry.isExpired then x.expireTaken else x) = y
  have hsame : y.lnk.station = .active ∧ y.rsv = s.rsv ∧ y.stg = s.stg := by
    rw [← hy, ← hx]
    split <;> simp [h]
  obtain ⟨hactive, hrsv, hstg⟩ := hsame
  rw [hactive]
  dsimp only
  intro h'
  have hstation : y.claimBoundary.lnk.station = .active := by simpa using h'
  have hkept : y.claimBoundary.rsv = y.rsv ∧ y.claimBoundary.stg = y.stg := by
    obtain ⟨e, -⟩ | ⟨e, -⟩ | ⟨e, -⟩ := y.claimBoundary_cases <;> rw [e] at hstation ⊢
    · exact ⟨rfl, rfl⟩
    · exact hmiss y hstation
    · obtain ⟨hr, hs⟩ := hmiss (y.dequeue .claim) hstation
      exact ⟨hr.trans (by simp), hs.trans (by simp)⟩
  exact ⟨by simpa using hkept.1.trans hrsv, by simpa using hkept.2.trans hstg⟩

/-- A station that is not ISOLATED has no cap to follow while the peer table ages. -/
theorem opened_of_active (h : s.lnk.station = .active) : (opened s).rsv = s.rsv ∧ (opened s).stg = s.stg := by
  obtain ⟨-, hlnk, -, -, hstg, hrsv, -⟩ := rolledIf_frame (s.clk.epoch == 43199) (dated s)
  have hcap (x : State) (hx : x.lnk.station = .active) : x.capIsolated = x := by
    unfold State.capIsolated
    rw [hx]
    rfl
  have hreevaluate (x : State) (hx : x.lnk.station = .active) : x.reevaluate.rsv = x.rsv ∧ x.reevaluate.stg = x.stg := by
    unfold State.reevaluate
    rw [hcap x hx]
    exact ⟨by simp, by simp⟩
  obtain ⟨hr, hs⟩ := hreevaluate ((rolledIf (s.clk.epoch == 43199) (dated s)).setPtb
    { (rolledIf (s.clk.epoch == 43199) (dated s)).ptb with
      entries := agedPeers (rolledIf (s.clk.epoch == 43199) (dated s)).ptb.entries }) (by
        show (rolledIf (s.clk.epoch == 43199) (dated s)).lnk.station = .active
        rw [hlnk]
        exact h)
  exact ⟨hr.trans hrsv, hs.trans hstg⟩

/-- A window that does not close moves the query's countdown alone. -/
theorem windowBoundary_of_open (h : ∀ q ∈ s.prk.query, 1 < q.countdown) : ∃ p, s.windowBoundary = s.setPrk p := by
  unfold State.windowBoundary
  split
  · exact ⟨s.prk, rfl⟩
  · rename_i q hq
    rw [if_neg (by have := h q hq; omega)]
    exact ⟨_, rfl⟩

/-- The park table's boundary with no window about to close leaves the reserve unit and the session. -/
theorem prkBoundary_of_open (h : ∀ q ∈ s.prk.query, 1 < q.countdown) : s.prkBoundary.rsv = s.rsv ∧ s.prkBoundary.ses = s.ses ∧
    ∀ {out : List Cause} {P : State → Prop}, KeptByActs out P → Spares out [.contextExpired] → P s → P s.prkBoundary := by
  obtain ⟨p, hp⟩ := windowBoundary_of_open h
  unfold State.prkBoundary
  rw [hp]
  exact ⟨by simp, by simp, fun hP hc hs => hP.holdsBoundary hc (hP.waitsBoundary (hP.congr hs rfl rfl))⟩

/-- The state in which the withdrawal check of an event that goes on is made. -/
def checkedIn (s : State) : State := (opened s).lnkBoundary.rsvCountdown.sesBoundary

theorem linked_around (s : State) : Around s (opened s).lnkBoundary := (around_opened s).trans (around_lnkBoundary _)

theorem epochBoundary_checks (hend : s.AtEpochEnd) (hmore : 1 < s.rsv.remaining) (hopen : ∀ q ∈ s.prk.query, 1 < q.countdown) :
    s.epochBoundary = (checkedIn s).withdrawalCheck.prkBoundary.bumpChoices.follow := by
  have hleft : (opened s).lnkBoundary.eventEnds = false := by
    have hremaining : (opened s).lnkBoundary.rsv.remaining = s.rsv.remaining := (eventOf_figures (linked_around s).event).2.2.2.1
    rw [State.eventEnds, hremaining, decide_eq_false (by omega), Bool.and_false]
  rw [epochBoundary_stages hend, sessionAndPark_of_open (linked_open hopen), State.reserveAndSession, State.reserveAndClaim, hleft]
  rfl

theorem checkedIn_open (hopen : ∀ q ∈ s.prk.query, 1 < q.countdown) :
    ∀ q ∈ (checkedIn s).withdrawalCheck.prk.query, 1 < q.countdown := by
  have hprk : (checkedIn s).withdrawalCheck.prk = (opened s).lnkBoundary.prk := by simp [checkedIn]
  rw [hprk]
  exact linked_open hopen

theorem checkedIn_rsv (hs : InProgress s) (hmore : 1 < s.rsv.remaining) :
    (checkedIn s).rsv = countedOn s.ownBay (opened s).lnkBoundary.rsv ∧ (checkedIn s).stg = (opened s).lnkBoundary.stg ∧
      (checkedIn s).lnk.station = (opened s).lnkBoundary.lnk.station := by
  have haround := linked_around s
  have hown : (opened s).lnkBoundary.ownBay = s.ownBay := by rw [State.ownBay, State.ownBay, haround.cfg]
  have hcount := rsvCountdown_goesOn (haround.inProgress hs) ((eventOf_figures haround.event).2.2.2.1 ▸ hmore)
  rw [hown] at hcount
  have hrsv : (checkedIn s).rsv = (opened s).lnkBoundary.rsvCountdown.rsv := by simp [checkedIn]
  have hstg : (checkedIn s).stg = (opened s).lnkBoundary.rsvCountdown.stg := by simp [checkedIn]
  have hstation : (checkedIn s).lnk.station = (opened s).lnkBoundary.lnk.station := by simp [checkedIn]
  rw [hrsv, hstg, hcount]
  exact ⟨rfl, rfl, hstation⟩

theorem checkedIn_kept {out : List Cause} {P : State → Prop} (hP : KeptByActs out P)
    (hc : Spares out [.dupBus, .isolated, .legMissed, .atRisk]) (hs : InProgress s) (hmore : 1 < s.rsv.remaining) (h : P s) :
    P (checkedIn s) := by
  have haround := linked_around s
  have hcount := rsvCountdown_goesOn (haround.inProgress hs) ((eventOf_figures haround.event).2.2.2.1 ▸ hmore)
  have hlinked : P (opened s).lnkBoundary := hP.lnkBoundary (hc.sub (by simp)) (opened_kept hP (hc.sub (by simp)) h)
  refine hP.sesBoundary (hc.sub (by simp [KeptByActs.readyCauses])) (hP.congr hlinked ?_ ?_) <;> rw [hcount]

theorem countedOn_standing (own : Nat) (r : Rsv) : (countedOn own r).standing = r.standing ∧ (countedOn own r).share = r.share ∧
    (countedOn own r).baseline = r.baseline ∧ (countedOn own r).active = r.active := by
  unfold countedOn
  split
  · split <;> exact ⟨rfl, rfl, rfl, rfl⟩
  · exact ⟨rfl, rfl, rfl, rfl⟩

/-- R135's two tests of the figures of the boundary, over the baseline and the setpoint from before it. -/
theorem mustWithdraw_iff {w : Session} {b : Int} {n : Nat} (hses : u.ses = some w) (hactive : u.rsv.active = true)
    (hmember : u.rsv.standing = some .member) (hbaseline : u.rsv.baseline = n) (happlied : u.stg.applied = b) :
    u.mustWithdraw = true ↔ (0 < w.need ∧ n ≤ w.need) ∨ (b < 0 ∧ w.surplus ≤ 0) := by
  unfold State.mustWithdraw
  rw [hses]
  simp [hactive, hmember, hbaseline, happlied]

/-- The state in which a withdrawal is captured. -/
def withdrawing (u : State) : State := (u.setRsv { u.rsv with standing := some .withdrawn, share := 0 }).follow

theorem withdraw_counts {k : Nat} (h : u.log.counters.length = 24 ∧ u.counter .withdrawn = k) :
    u.withdraw.log.counters.length = 24 ∧ u.withdraw.counter .withdrawn = min 63 (k + 1) := by
  obtain ⟨hlength, hcount⟩ := h
  have hbefore : Losses.Shows .withdrawn .withdrawn k ((withdrawing u).flagged .withdrawn) (withdrawing u) := ⟨hlength, hcount, rfl⟩
  obtain ⟨hl, hc, -⟩ := hbefore.begins 0
  exact ⟨hl, hc⟩

theorem withdraw_rsv (u : State) : u.withdraw.rsv = { u.rsv with standing := some .withdrawn, share := 0 } := by
  simp [State.withdraw]

/-- The station state after the boundary is the one at the withdrawal check. -/
theorem epochBoundary_station (hend : s.AtEpochEnd) (hs : InProgress s) (hmore : 1 < s.rsv.remaining)
    (hopen : ∀ q ∈ s.prk.query, 1 < q.countdown) : s.epochBoundary.lnk.station = (opened s).lnkBoundary.lnk.station := by
  obtain ⟨-, -, hstation⟩ := checkedIn_rsv hs hmore
  rw [epochBoundary_checks hend hmore hopen, ← hstation]
  simp

/-- A MEMBER's check at a boundary that leaves it ACTIVE, with what stands after it (R135, R136). -/
theorem epochBoundary_withdraws {w : Session} (hend : s.AtEpochEnd) (hs : InProgress s) (hmore : 1 < s.rsv.remaining)
    (hmember : s.rsv.standing = some .member) (hstation : s.lnk.station = .active) (hopen : ∀ q ∈ s.prk.query, 1 < q.countdown)
    (hafter : s.epochBoundary.lnk.station = .active) (hw : s.epochBoundary.ses = some w) :
    ((checkedIn s).mustWithdraw = true ↔
      (0 < w.need ∧ s.rsv.baseline ≤ w.need) ∨ (s.stg.applied < 0 ∧ w.surplus ≤ 0)) ∧
    ((checkedIn s).rsv.standing, (checkedIn s).rsv.share) = (some Standing.member, s.rsv.share) := by
  obtain ⟨-, hlnk, -⟩ := opened_frame s
  obtain ⟨hrsv, hstg⟩ := opened_of_active hstation
  obtain ⟨hlrsv, hlstg⟩ := lnkBoundary_of_stays (s := opened s) (by rw [hlnk, hstation])
    (by rw [← epochBoundary_station hend hs hmore hopen, hafter])
  obtain ⟨hcrsv, hcstg, -⟩ := checkedIn_rsv hs hmore
  obtain ⟨hcstanding, hcshare, hcbaseline, hcactive⟩ := countedOn_standing s.ownBay (opened s).lnkBoundary.rsv
  have hses : (checkedIn s).ses = some w := by
    rw [← hw, epochBoundary_checks hend hmore hopen]
    obtain ⟨-, hkept, -⟩ := prkBoundary_of_open (checkedIn_open hopen)
    simp [hkept]
  rw [← hcrsv, hlrsv, hrsv] at hcstanding hcshare hcbaseline hcactive
  exact ⟨mustWithdraw_iff hses (hcactive.trans hs.active) (hcstanding.trans hmember) hcbaseline (by rw [hcstg, hlstg, hstg]),
    by rw [hcstanding, hcshare, hmember]⟩

/-- What the boundary leaves of the check, where no window is about to close. -/
theorem epochBoundary_checked (hend : s.AtEpochEnd) (hmore : 1 < s.rsv.remaining) (hopen : ∀ q ∈ s.prk.query, 1 < q.countdown) :
    s.epochBoundary.rsv = (checkedIn s).withdrawalCheck.rsv ∧
    ∀ {out : List Cause} {P : State → Prop}, KeptByActs out P → Spares out [.contextExpired] → P (checkedIn s).withdrawalCheck →
      P s.epochBoundary := by
  obtain ⟨hrsv, -, hkept⟩ := prkBoundary_of_open (checkedIn_open hopen)
  rw [epochBoundary_checks hend hmore hopen]
  exact ⟨by simp [hrsv], fun hP hc h => hP.congr (hkept hP hc h) (by simp) (by simp)⟩

/-- The withdrawal of a MEMBER at the boundary: its standing, its share, its notice, its count and its record. -/
theorem withdrawn_at_boundary (hend : s.AtEpochEnd) (hs : InProgress s) (hmore : 1 < s.rsv.remaining)
    (hopen : ∀ q ∈ s.prk.query, 1 < q.countdown) (hlength : s.log.counters.length = 24) (hmust : (checkedIn s).mustWithdraw = true) :
    s.epochBoundary.rsv.standing = some .withdrawn ∧ s.epochBoundary.rsv.share = 0 ∧ s.epochBoundary.flagged .withdrawn = true ∧
      s.epochBoundary.counter .withdrawn = min 63 (s.counter .withdrawn + 1) ∧
      Logged s s.epochBoundary .withdrawn 12 fun r => r.detail = 0#32 := by
  obtain ⟨hrsv, hkept⟩ := epochBoundary_checked hend hmore hopen
  have hcheck : (checkedIn s).withdrawalCheck = (checkedIn s).withdraw := if_pos hmust
  rw [hcheck] at hrsv hkept
  have hlog : LogGrew s (checkedIn s) := checkedIn_kept (logGrew_keptByActs s) (Spares.nil _) hs hmore (LogGrew.refl s)
  have hcounted := checkedIn_kept (keptByActs_counter .withdrawn (s.counter .withdrawn)) (by decide) hs hmore ⟨hlength, rfl⟩
  refine ⟨by rw [hrsv, withdraw_rsv], by rw [hrsv, withdraw_rsv], ?_, ?_, logged_of_between (d := 0#32) (b := none) (fun g h => h) ?_⟩
  · exact hkept (keptByActs_flagged .withdrawn) (Spares.nil _) (by simp [State.withdraw])
  · exact (hkept (keptByActs_counter .withdrawn (min 63 (s.counter .withdrawn + 1))) (by decide) (withdraw_counts hcounted)).2
  · exact hkept (keptByActs_captureBetween s _ _ _ _) (Spares.nil _) ((keptByActs_captureBetween s _ _ _ _).raise _
      (captureBetween_of_capture (hlog.trans (LogGrew.of_log (by simp))) rfl))

/-- The items of an event that the countdown has ended (R137). -/
theorem epochBoundary_noEvent (hend : s.AtEpochEnd) (hpeers : s.PeersOk) (hok : s.ReserveOk) (hactive : s.rsv.active = true)
    (hlast : s.rsv.remaining ≤ 1) : s.epochBoundary.rsv.active = false ∧ Event.NoEvent s.epochBoundary.rsv := by
  obtain ⟨hshape, hown⟩ := Event.reserveOk_iff.mp hok
  have hgood : Event.Good s := ⟨(Peers.peersOk_iff.mp hpeers).1.configured, hshape, hown⟩
  obtain ⟨hidle, -⟩ := eventOf_figures (epochBoundary_ends hend hactive hlast)
  exact ⟨hidle, hgood.epochBoundary.shape.idle hidle⟩

theorem endEvent_counts {k : Nat} (h : u.log.counters.length = 24 ∧ u.counter .eventEnded = k) :
    u.endEvent.log.counters.length = 24 ∧ u.endEvent.counter .eventEnded = min 63 (k + 1) := by
  obtain ⟨hlength, hcount⟩ := h
  refine ⟨?_, hcount ▸ Events.endEvent_counter hlength⟩
  rw [Events.endEvent_log, State.capture_counters_length, hlength]

/-- Settles O52: the countdown ends the event, refreshes it or counts on, and a MEMBER is checked against the boundary's figures. -/
theorem countdownAndRefresh : Obligations.CountdownAndRefresh := by
  intro s hend hpeers hok hactive hlength
  obtain ⟨hs, hstation⟩ := inProgress_of_ok hok hactive
  have hgoes (hmore : 1 < s.rsv.remaining) := eventOf_figures ((epochBoundary_goesOn hend hs hmore).trans (eventOf_countedOn s.ownBay s.rsv).symm)
  refine ⟨fun hlast => ?_, fun hmore hholder hdue => ?_, fun hmore hother => ?_, fun hmore hmember hlink hopen => ?_⟩
  · refine answers_of_boundaryWhere rfl (by simp [State.eventEnds, hactive, hlast]) ?_
    have hended := epochBoundary_ends hend hactive hlast
    obtain ⟨hidle, hnone⟩ := epochBoundary_noEvent hend hpeers hok hactive hlast
    simp only [eventOf, Rsv.mk.injEq] at hended
    obtain ⟨-, -, -, -, hbands, hhost, hduration, hown, -, -, hseq, -, -, hrefresh, -⟩ := hended
    refine ⟨?_, ?_, ?_, hseq, hown, hduration, ?_, ?_, fun hopen => logged_of_between (d := s.responseDetail) (b := none) (fun g h => h) ?_⟩
    · rw [hidle, hnone.holder, hnone.dActive, hnone.remaining, hrefresh]
      rfl
    · rw [hnone.standing, hnone.members, hnone.baseline, hnone.shortfall, hhost]
      rfl
    · intro b hb
      rw [hbands] at hb
      obtain ⟨x, -, rfl⟩ := List.mem_map.mp hb
      rfl
    · exact epochBoundary_endCaptured (P := fun _ => True) ⟨fun _ _ _ => trivial, fun _ _ _ _ _ => trivial, fun _ _ => trivial⟩
        (keptByActs_flagged .eventEnded) (Spares.nil _) hend hactive hlast (fun y _ _ _ _ => Events.endEvent_flagged y) trivial
    · exact (epochBoundary_endCaptured (keptByActs_counter _ _) (keptByActs_counter _ _) (by decide) hend hactive hlast
        (fun y hy _ _ _ => endEvent_counts hy) ⟨hlength, rfl⟩).2
    · refine epochBoundary_endCaptured (logGrew_keptByActs s) (keptByActs_captureBetween s _ _ _ _) (Spares.nil _) hend hactive hlast
        (fun y hy hin hdemand hdetail => ?_) (LogGrew.refl s)
      rw [← hdetail hopen]
      exact (keptByActs_captureBetween s _ _ _ _).congr
        ((keptByActs_captureBetween s _ _ _ _).raise .eventEnded (captureBetween_of_capture hy ⟨hdetail hopen, (if_pos hin).trans hdemand⟩)) rfl rfl
  · have hdue' : s.refreshDue = true := by
      simp [State.refreshDue, State.eventEnds, hactive, hholder, hdue, hmore]
    refine answers_of_boundaryWhere rfl hdue' ?_
    obtain ⟨h1, h2, h3, h4, h5, h6, h7, h8, h9⟩ := hgoes hmore
    simp only [countedOn, if_pos hholder, if_pos hdue] at h1 h2 h3 h4 h5 h6 h7 h8 h9
    exact ⟨h1.trans hactive, h2.trans hholder, h3, h4, h5, h6, h7, h8, h9,
      (epochBoundary_spares (keptByActs_counter .eventChanged (s.counter .eventChanged)) (by decide) hend hs hmore ⟨hlength, rfl⟩).2,
      epochBoundary_holds hend hs hstation hmore hholder hdue⟩
  · refine ⟨_, exec_epochBoundary s, ?_⟩
    obtain ⟨h1, h2, h3, h4, h5, h6, h7, -⟩ := hgoes hmore
    by_cases hholder : s.rsv.holder = some s.ownBay
    · have hwaits : ¬s.rsv.refresh ≤ 1 := by
        have := hother.resolve_left (fun h => h hholder)
        omega
      simp only [countedOn, if_pos hholder, if_neg hwaits] at h1 h2 h3 h4 h5 h6 h7
      exact ⟨h1.trans hactive, h2, h3, h4, h6, h7, by rw [if_pos hholder, h5]⟩
    · simp only [countedOn, if_neg hholder] at h1 h2 h3 h4 h5 h6 h7
      exact ⟨h1.trans hactive, h2, h3, h4, h6, h7, by rw [if_neg hholder, h5]⟩
  · refine ⟨_, exec_epochBoundary s, fun hafter w hw => ?_⟩
    obtain ⟨hiff, hkept⟩ := epochBoundary_withdraws hend hs hmore hmember hlink hopen hafter hw
    obtain ⟨hstanding, hshare⟩ := Prod.mk.inj hkept
    refine ⟨fun hmust => withdrawn_at_boundary hend hs hmore hopen hlength (hiff.mpr hmust), fun hstays => ?_⟩
    obtain ⟨hrsv, hcounted⟩ := epochBoundary_checked hend hmore hopen
    have hcheck : (checkedIn s).withdrawalCheck = checkedIn s := if_neg fun h => hstays (hiff.mp h)
    rw [hcheck] at hrsv hcounted
    refine ⟨by rw [hrsv, hstanding], by rw [hrsv, hshare], ?_⟩
    exact (hcounted (keptByActs_counter .withdrawn (s.counter .withdrawn)) (by decide)
      (checkedIn_kept (keptByActs_counter _ _) (by decide) hs hmore ⟨hlength, rfl⟩)).2

end Sys2Proof.Proofs.EventBoundary
end

section
/-!
The end of a session in the other blocks (R62, R78, R136): the own grant and the setpoint at 0, a computation marked, an event that
sees the bay withdrawn, and no DUP_BUS.
-/
namespace Sys2Proof.Proofs.SessionEnd

open Sys2Proof Sys2Proof.Machine

variable {s : State}

/-- The state in which the event sees the session's end. -/
def ended (s : State) : State := (s.setSes none).altDiscard.setGrant 0

theorem setGrant_of_noSession (g : Nat) (h : s.ses = none) : s.setGrant g = { s with
    alt := { s.alt with grant := g }
    rsv := { s.rsv with baseline := if s.rsv.active then g else s.rsv.baseline }
    stg := { s.stg with applied := 0 } } := by
  have hzero : (s.setGrant g).stg.applied = 0 := by
    have hfollow (x : State) (hx : x.ses = none) : x.follow.stg.applied = 0 := by rw [Parking.follow_of_noSession hx, State.setStg_stg]
    exact hfollow _ (by split <;> exact h)
  have happlied : (s.setGrant g).setpointFrom s.stg.applied = (s.setGrant g).stg.applied := by
    conv_rhs => rw [Tick.setGrant_eq]
  have hset := Tick.setGrant_eq s g
  rwa [happlied, hzero] at hset

theorem ended_eq (s : State) : ended s = { s with
    ses := none
    alt := { s.alt with grant := 0, discard := s.alt.discard || s.alt.flight.isSome }
    rsv := { s.rsv with baseline := if s.rsv.active then 0 else s.rsv.baseline }
    stg := { s.stg with applied := 0 } } := by
  exact setGrant_of_noSession (s := (s.setSes none).altDiscard) 0 rfl

theorem dropSession_eq (s : State) : s.dropSession = (ended s).rsvSessionEnd.evalDupBus := rfl

/-- With no session no peer reports its bus. -/
theorem evalDupBus_of_none (h : s.ses = none) : s.evalDupBus = s.setPtb { s.ptb with dupBus := false } := by
  unfold State.evalDupBus State.busReporter
  rw [h]

theorem rsvSessionEnd_ses (h : s.ses = none) : s.rsvSessionEnd.ses = none := by
  unfold State.rsvSessionEnd
  split
  · simp [State.withdraw, h]
  · exact h

theorem dropSession_marks (s : State) : s.dropSession = (ended s).rsvSessionEnd.setPtb { s.ptb with dupBus := false } := by
  have hptb : (ended s).rsvSessionEnd.ptb = s.ptb := by
    rw [ended_eq]
    simp
  rw [dropSession_eq, evalDupBus_of_none (rsvSessionEnd_ses (by rw [ended_eq])), hptb]

theorem dropSession_ptb (s : State) : s.dropSession.ptb = { s.ptb with dupBus := false } := by rw [dropSession_marks]; rfl

theorem dropSession_alt (s : State) : s.dropSession.alt =
    { s.alt with grant := 0, discard := s.alt.discard || s.alt.flight.isSome } := by
  rw [dropSession_marks]
  simp [ended_eq]

theorem rsvSessionEnd_stg (h : s.ses = none) (hzero : s.stg.applied = 0) : s.rsvSessionEnd.stg = s.stg := by
  unfold State.rsvSessionEnd
  split
  · unfold State.withdraw
    rw [Parking.follow_of_noSession (by exact h)]
    simp [← hzero]
  · rfl

theorem dropSession_stg (s : State) : s.dropSession.stg = { s.stg with applied := 0 } := by
  rw [dropSession_marks]
  refine (rsvSessionEnd_stg ?_ ?_).trans ?_ <;> rw [ended_eq]

/-- An event in progress sees the bay withdrawn, and its baseline at 0 (R132, R136). -/
theorem dropSession_event (hactive : s.rsv.active = true) :
    s.dropSession.rsv.standing = some .withdrawn ∧ s.dropSession.rsv.baseline = 0 := by
  have hend : (ended s).rsv.active = true ∧ (ended s).rsv.baseline = 0 := by
    rw [ended_eq]
    exact ⟨hactive, if_pos hactive⟩
  obtain ⟨hin, hzero⟩ := hend
  rw [dropSession_marks]
  unfold State.rsvSessionEnd
  rw [hin]
  split
  · simp [State.withdraw, hzero]
  · rename_i hgone
    exact ⟨by simpa [State.isWithdrawn] using hgone, hzero⟩

/-- The session's end is no capture where the event does not see it. -/
theorem dropSession_log (h : s.rsv.active = false ∨ s.rsv.standing = some .withdrawn) : s.dropSession.log = s.log := by
  have hquiet : (ended s).rsvSessionEnd = ended s := by
    unfold State.rsvSessionEnd
    refine if_neg ?_
    rw [ended_eq]
    obtain h | h := h <;> simp [State.isWithdrawn, h]
  rw [dropSession_marks, hquiet, ended_eq]
  rfl

end Sys2Proof.Proofs.SessionEnd
end

section
/-!
UNPLUG (R61 to R63, R141, R142, R151): the context parked, the captures, and the end of the session (O37).
-/
namespace Sys2Proof.Proofs.Unplug

open Sys2Proof Sys2Proof.Machine Sys2Proof.Proofs.Acts Sys2Proof.Proofs.Captures Sys2Proof.Proofs.Places

variable {s : State} {v : Session}

/-! ## The stages of the command -/

/-- The session as it leaves: where it is settled, with its cursor leg DONE in its departure window (R61). -/
def leaving (s : State) (v : Session) : Session := if s.prk.query.isSome then v else v.legDone s.clk.epoch s.window

/-- The window cancelled and the leaving session in place. -/
def shut (s : State) (v : Session) : State := s.cancelWindow.setSes (some (leaving s v))

/-- The state in which UNPLUG is captured: the context parked, where there is one (R62, R63). -/
def vacated (s : State) (v : Session) : State :=
  if s.prk.query = none ∨ v.cap ≠ 0 then (shut s v).park v.busId s.holdBoundaries (leaving s v).context else shut s v

theorem legDone_eq (v : Session) (now window : Nat) : v.legDone now window = { v with chain := (v.legDone now window).chain } := by
  unfold Session.legDone
  split
  · rfl
  · split <;> rfl

theorem leaving_eq (s : State) (v : Session) : leaving s v = { v with chain := (leaving s v).chain } := by
  unfold leaving
  split
  · rfl
  · exact legDone_eq v _ _

theorem setSes_self (h : s.ses = some v) : s.setSes (some v) = s := by rw [← h]; rfl

theorem unplugNow_eq (hv : s.ses = some v) : s.unplugNow = ((vacated s v).captureUnplug (leaving s v)).dropSession := by
  have hbus : (leaving s v).busId = v.busId := by rw [leaving_eq]
  unfold State.unplugNow
  rw [hv]
  dsimp only
  cases hquery : s.prk.query with
  | none =>
    have hsettled : s.isPending = false := by simp [State.isPending, hquery]
    have hleaves : leaving s v = v.legDone s.clk.epoch s.window := by rw [leaving, hquery]; rfl
    have hparked : vacated s v = (shut s v).park v.busId s.holdBoundaries (leaving s v).context := if_pos (.inl hquery)
    rw [if_neg (by simp [hsettled]), hparked, shut, Parking.cancelWindow_none hquery, ← hbus, hleaves]
    rfl
  | some q =>
    have hpending : s.isPending = true := by simp [State.isPending, hquery, hv]
    have hleaves : leaving s v = v := by rw [leaving, hquery]; rfl
    have hshut : shut s v = s.cancelWindow := by rw [shut, hleaves, setSes_self (by simp [hv])]
    have hhold : s.cancelWindow.holdBoundaries = s.holdBoundaries := by simp [State.holdBoundaries]
    rw [if_pos hpending, vacated, hshut, hleaves, State.unplugPending, hhold]
    by_cases hcap : v.cap = 0
    · simp [hquery, hcap]
    · simp [hcap]

/-! ## What is parked (R62, R63, R141, R142) -/

theorem shut_frame (s : State) (v : Session) : (shut s v).clk = s.clk ∧ (shut s v).ptb = s.ptb ∧ (shut s v).lastClaim = s.lastClaim ∧
    (shut s v).alt = s.alt ∧ (shut s v).stg = s.stg ∧ (shut s v).snap = s.snap ∧ (shut s v).rsv = s.rsv ∧ (shut s v).cfg = s.cfg ∧
    (shut s v).log = s.log ∧ (shut s v).prt = s.prt ∧ (shut s v).ses = some (leaving s v) ∧ (shut s v).prk = s.cancelWindow.prk ∧
    (shut s v).lnk = s.cancelWindow.lnk := by
  simp [shut]

theorem vacated_frame (s : State) (v : Session) : (vacated s v).clk = s.clk ∧ (vacated s v).ptb = s.ptb ∧
    (vacated s v).lastClaim = s.lastClaim ∧ (vacated s v).alt = s.alt ∧ (vacated s v).stg = s.stg ∧ (vacated s v).snap = s.snap ∧
    (vacated s v).rsv = s.rsv ∧ (vacated s v).cfg = s.cfg ∧ (vacated s v).ses = some (leaving s v) := by
  unfold vacated
  split <;> simp [shut_frame]

theorem vacated_keeps (s : State) (v : Session) : (vacated s v).prt.answer = s.prt.answer ∧ (vacated s v).prt.mask = s.prt.mask ∧
    (vacated s v).prk.query = none ∧ (vacated s v).prk.last = s.prk.last ∧ (vacated s v).prk.idle = s.cancelWindow.prk.idle := by
  obtain ⟨hquery, -⟩ := Parking.cancelWindow_figures s
  obtain ⟨-, -, -, -, -, -, -, -, -, hprt, -, hprk, -⟩ := shut_frame s v
  unfold vacated
  split
  · rw [Parking.park_prk]
    simp [hprt, hprk, hquery]
  · simp [hprt, hprk, hquery]

theorem vacated_parks (h : s.prk.query = none ∨ v.cap ≠ 0) : (vacated s v).prk.entries = roomFor v.busId s.prk.entries ++
    [{ busId := v.busId, parkedEpoch := s.clk.epoch, dayAge := 0, hold := s.holdBoundaries
       ctx := leftBehind v (leaving s v).chain, offered := none }] := by
  obtain ⟨-, -, hentries, -⟩ := Parking.cancelWindow_figures s
  obtain ⟨hclk, -, -, -, -, -, -, -, -, -, -, hprk, -⟩ := shut_frame s v
  have hcontext : leftBehind (leaving s v) (leaving s v).chain = leftBehind v (leaving s v).chain := by
    conv_lhs => rw [leaving_eq]
    rfl
  rw [vacated, if_pos h, Parking.park_entries, hprk, hentries, hclk, Parking.context_eq, hcontext]

theorem vacated_leaves (hquery : s.prk.query ≠ none) (hcap : v.cap = 0) : (vacated s v).prk.entries = s.prk.entries := by
  obtain ⟨-, -, hentries, -⟩ := Parking.cancelWindow_figures s
  obtain ⟨-, -, -, -, -, -, -, -, -, -, -, hprk, -⟩ := shut_frame s v
  rw [vacated, if_neg (by simp [hquery, hcap]), hprk, hentries]

/-! ## What the log and the queue see of it -/

/-- The eviction that parking the session may take (R142). -/
theorem vacated_evicts (h : s.prk.query = none ∨ v.cap ≠ 0) : Parking.EvictsFor v.busId (shut s v) (vacated s v) := by
  rw [vacated, if_pos h]
  exact Parking.park_evicts _ _ _ _

theorem shut_entries (s : State) (v : Session) : (shut s v).prk.entries = s.prk.entries := by
  obtain ⟨-, -, hentries, -⟩ := Parking.cancelWindow_figures s
  obtain ⟨-, -, -, -, -, -, -, -, -, -, -, hprk, -⟩ := shut_frame s v
  rw [hprk, hentries]

/-- Without an eviction the log stands up to the UNPLUG captures. -/
theorem vacated_log (h : evictedFor v.busId s.prk.entries = none ∨ (s.prk.query ≠ none ∧ v.cap = 0)) :
    (vacated s v).log = s.log := by
  obtain ⟨-, -, -, -, -, -, -, -, hlog, -⟩ := shut_frame s v
  by_cases hparks : s.prk.query = none ∨ v.cap ≠ 0
  · have hnone : evictedFor v.busId s.prk.entries = none := h.resolve_right fun ⟨hq, hc⟩ => hparks.elim hq fun hn => hn hc
    have hevicts := vacated_evicts hparks
    unfold Parking.EvictsFor at hevicts
    rw [shut_entries, hnone] at hevicts
    exact hevicts.1.trans hlog
  · rw [vacated, if_neg hparks, hlog]

theorem vacated_kept {out : List Cause} {P : State → Prop} (hP : KeptByActs out P) (hc : Spares out [.contextEvicted]) (h : P s) :
    P (vacated s v) := by
  obtain ⟨-, -, -, -, -, -, -, -, hlog, hprt, -⟩ := shut_frame s v
  have hshut : P (shut s v) := hP.congr h hlog (by rw [hprt])
  unfold vacated
  split
  · exact hP.park hc _ _ _ hshut
  · exact hshut

/-- Parking for a bus takes the OFFER of the entry that it evicts out of the queue (R142). -/
theorem park_empties {bus hold : Nat} {x : Context} {e : ParkEntry} (h : evictedFor bus s.prk.entries = some e)
    (hoffered : e.offered ≠ none) : Emptied (place s (.offer e.busId)) (place (s.park bus hold x) (.offer e.busId)) := by
  have hremoved : place (s.removePark bus) (.offer e.busId) = place s (.offer e.busId) ∨
      Emptied (place s (.offer e.busId)) (place (s.removePark bus) (.offer e.busId)) := by
    unfold State.removePark State.dropOffer
    split
    · exact .inl rfl
    · split
      · exact dequeue_leaves_or_empties _ _ _
      · exact .inl rfl
  have hentries := State.removePark_entries s bus
  have hevicted : Emptied (place (s.removePark bus) (.offer e.busId)) (place (s.removePark bus).evictOldest (.offer e.busId)) := by
    unfold State.evictOldest
    rw [hentries]
    cases hothers : withoutBus s.prk.entries bus with
    | nil =>
      rw [Parking.evictedFor_of_nil hothers] at h
      cases h
    | cons x es =>
      rw [Parking.evictedFor_of_cons hothers] at h
      split at h
      · rename_i hfull
        cases h
        simp only [Config.parkEntries, List.length_cons, if_pos hfull]
        rw [place_of_lnk (State.capture_frame _ _ _ _).2.1]
        unfold State.dropOffer
        rw [if_pos (Option.isSome_iff_ne_none.mpr hoffered)]
        exact emptied_dequeue ((s.removePark bus).setPrk { (s.removePark bus).prk with entries := es }) _
      · cases h
  have hlast : place (s.park bus hold x) (.offer e.busId) = place (s.removePark bus).evictOldest (.offer e.busId) := rfl
  rw [hlast]
  obtain hsame | hout := hremoved
  · rwa [hsame] at hevicted
  · exact hout.trans hevicted

/-- Parking touches the places of OFFERs alone. -/
theorem place_park {bus hold : Nat} {x : Context} {k : FrameKey} (h : ∀ b, FrameKey.offer b ≠ k) :
    place (s.park bus hold x) k = place s k := by
  have hdrop (t : State) (e : ParkEntry) : place (t.dropOffer e) k = place t k := by
    unfold State.dropOffer
    split
    · exact place_dequeue_other t (h e.busId)
    · rfl
  have hremoved : place (s.removePark bus) k = place s k := by
    unfold State.removePark
    split
    · rfl
    · exact hdrop _ _
  have hevicted (t : State) : place t.evictOldest k = place t k := by
    unfold State.evictOldest
    split
    · rfl
    · split
      · rw [place_of_lnk (State.capture_frame _ _ _ _).2.1]
        exact hdrop _ _
      · rfl
  exact (hevicted (s.removePark bus)).trans hremoved

theorem place_shut {k : FrameKey} (h : FrameKey.query ≠ k) : place (shut s v) k = place s k := by
  have hlnk : (shut s v).lnk = s.cancelWindow.lnk := rfl
  rw [place_of_lnk hlnk]
  unfold State.cancelWindow
  split
  · rfl
  · exact place_endWindow s _ h

theorem vacated_offer {e : ParkEntry} (hparks : s.prk.query = none ∨ v.cap ≠ 0) (he : evictedFor v.busId s.prk.entries = some e)
    (hoffered : e.offered ≠ none) : Emptied (place s (.offer e.busId)) (place (vacated s v) (.offer e.busId)) := by
  rw [vacated, if_pos hparks, ← place_shut (k := .offer e.busId) (v := v) nofun]
  exact park_empties (by rw [shut_entries, he]) hoffered

theorem vacated_query (hquery : s.prk.query ≠ none) : Emptied (place s .query) (place (vacated s v) .query) := by
  have hshut : Emptied (place s .query) (place (shut s v) .query) := by
    obtain ⟨q, hq⟩ := Option.ne_none_iff_exists'.mp hquery
    have hlnk : (shut s v).lnk = (s.endWindow q.cancelled).lnk := by rw [← Parking.cancelWindow_some hq]; rfl
    rw [place_of_lnk hlnk]
    exact emptied_dequeue (s.setPrk { s.prk with query := none, idle := q.cancelled }) .query
  unfold vacated
  split
  · rwa [place_park (k := .query) fun _ => nofun]
  · exact hshut

/-! ## The captures (R161, R162, R194) -/

/-- The detail of the first UNPLUG record. -/
theorem unplugFirst_eq (v : Session) : unplugFirst v = BitVec.ofNat 32 (min 2147483647 v.imp.wh.toNat) := by
  have hclamped : (clampInt v.imp.wh 0 2147483647).toNat = min 2147483647 v.imp.wh.toNat := by
    rw [Setpoint.clampInt_eq_max_min (by decide)]
    omega
  rw [unplugFirst, hclamped]

/-- The detail of the second. -/
theorem unplugSecond_eq (v : Session) : unplugSecond v = BitVec.ofNat 32 (2147483648 +
    (max 0 (max (-32768) (min 32767 (v.exp.wh / 10)))).toNat * 65536 +
      (max (-32768) (min 32767 (v.resp.wh / 10)) % 65536).toNat) := by
  have hexp : clampInt (v.exp.wh / 10) 0 32767 = max 0 (max (-32768) (min 32767 (v.exp.wh / 10))) := by
    rw [Setpoint.clampInt_eq_max_min (by decide)]
    omega
  rw [unplugSecond, hexp, Setpoint.clampInt_eq_max_min (by decide)]

/-- An UNPLUG record of the leaving session: its detail, the session's bus, the grant and the setpoint of before the end. -/
def Recorded (s : State) (v : Session) (d : BitVec 32) (r : LogRecord) : Prop :=
  r.detail = d ∧ r.busId = v.busId ∧ r.grant = s.alt.grant ∧ r.applied = s.stg.applied

theorem recorded_of_frame {y : State} (d : BitVec 32) (hses : y.ses = some (leaving s v)) (halt : y.alt = s.alt) (hstg : y.stg = s.stg) :
    Recorded s v d (y.record .unplug d none) := by
  have hbus : (leaving s v).busId = v.busId := by rw [leaving_eq]
  refine ⟨rfl, ?_, congrArg Alt.grant halt, congrArg Stg.applied hstg⟩
  show y.liveBus = v.busId
  simp [State.liveBus, hses, hbus]

/-- The two UNPLUG captures, each with its record (R162, R194). -/
theorem unplugNow_captures (hv : s.ses = some v) :
    CaptureBetween s .unplug (unplugFirst v) none (Recorded s v (unplugFirst v)) s.unplugNow ∧
    CaptureBetween s .unplug (unplugSecond v) none (Recorded s v (unplugSecond v)) s.unplugNow := by
  obtain ⟨-, -, -, halt, hstg, -, -, -, hses⟩ := vacated_frame s v
  have hgrew : LogGrew s (vacated s v) := vacated_kept (logGrew_keptByActs s) (Spares.nil _) (LogGrew.refl s)
  have hdetails : unplugFirst (leaving s v) = unplugFirst v ∧ unplugSecond (leaving s v) = unplugSecond v := by
    rw [leaving_eq]
    exact ⟨rfl, rfl⟩
  obtain ⟨hfirst, hsecond⟩ := hdetails
  rw [unplugNow_eq hv, State.captureUnplug, hfirst, hsecond]
  constructor
  · exact (keptByActs_captureBetween s _ _ _ _).dropSession (Spares.nil _)
      ((keptByActs_captureBetween s _ _ _ _).capture _ _ _ (by simp) (captureBetween_of_capture hgrew (recorded_of_frame _ hses halt hstg)))
  · exact (keptByActs_captureBetween s _ _ _ _).dropSession (Spares.nil _) (captureBetween_of_capture
      (hgrew.trans (logGrew_capture _ _ _ _)) (recorded_of_frame _ (by simpa using hses) (by simpa using halt) (by simpa using hstg)))

theorem unplugNow_counts (hv : s.ses = some v) (h24 : s.log.counters.length = 24) :
    s.unplugNow.counter .unplug = min 63 (s.counter .unplug + 2) := by
  have hbefore := vacated_kept (v := v) (keptByActs_counter .unplug (s.counter .unplug)) (by decide) ⟨h24, rfl⟩
  have hcounts (k : Nat) (d : BitVec 32) (y : State) (h : y.log.counters.length = 24 ∧ y.counter .unplug = k) :
      (y.capture .unplug d none).log.counters.length = 24 ∧ (y.capture .unplug d none).counter .unplug = min 63 (k + 1) := by
    obtain ⟨hlength, hk⟩ := h
    rw [State.capture_counters_length, State.capture_counter _ _ _ _ _ hlength, if_pos rfl, hk]
    exact ⟨hlength, rfl⟩
  have hafter := (keptByActs_counter .unplug (min 63 (min 63 (s.counter .unplug + 1) + 1))).dropSession (by decide)
    (hcounts _ (unplugSecond (leaving s v)) _ (hcounts _ (unplugFirst (leaving s v)) _ hbefore))
  rw [unplugNow_eq hv, State.captureUnplug, hafter.2]
  omega

/-- The two parts, wherever the registers that their records read are the same. -/
theorem parts_congr {y z : State} (hlog : y.log = z.log) (hclk : y.clk = z.clk) (halt : y.alt = z.alt) (hstg : y.stg = z.stg)
    (hrsv : y.rsv = z.rsv) (hlive : (y.liveBus, y.energy) = (z.liveBus, z.energy)) (d e : BitVec 32) :
    ((y.capture .unplug d none).capture .unplug e none).log = ((z.capture .unplug d none).capture .unplug e none).log := by
  obtain ⟨hbus, henergy⟩ := Prod.mk.inj hlive
  have hone : (y.capture .unplug d none).log = (z.capture .unplug d none).log := by
    refine capture_log_congr hlog ?_
    simp only [State.record, hlog, hclk, halt, hstg, hrsv, hbus, henergy]
  have hbus' : (y.capture .unplug d none).liveBus = (z.capture .unplug d none).liveBus := by simpa [State.liveBus] using hbus
  have henergy' : (y.capture .unplug d none).energy = (z.capture .unplug d none).energy := by simpa [State.energy] using henergy
  refine capture_log_congr hone ?_
  simp only [State.record, hone, hbus', henergy']
  simp [hclk, halt, hstg, hrsv]

/-- Where nothing is evicted and no event sees the end, the two parts are all that the log takes. -/
theorem unplugNow_log (hv : s.ses = some v) (hevicts : evictedFor v.busId s.prk.entries = none ∨ (s.prk.query ≠ none ∧ v.cap = 0))
    (hevent : s.rsv.active = false ∨ s.rsv.standing = some .withdrawn) :
    s.unplugNow.log = ((s.capture .unplug (unplugFirst v) none).capture .unplug (unplugSecond v) none).log := by
  obtain ⟨hclk, -, -, halt, hstg, -, hrsv, -, hses⟩ := vacated_frame s v
  have hleaving := leaving_eq s v
  have hdetails : unplugFirst (leaving s v) = unplugFirst v ∧ unplugSecond (leaving s v) = unplugSecond v := by
    rw [hleaving]
    exact ⟨rfl, rfl⟩
  obtain ⟨hfirst, hsecond⟩ := hdetails
  have hlive : ((vacated s v).liveBus, (vacated s v).energy) = (s.liveBus, s.energy) := by
    rw [State.liveBus, State.liveBus, State.energy, State.energy, hses, hv, hleaving]
    rfl
  have hevent' : ((vacated s v).captureUnplug (leaving s v)).rsv.active = false ∨
      ((vacated s v).captureUnplug (leaving s v)).rsv.standing = some .withdrawn := by
    simpa [State.captureUnplug, hrsv] using hevent
  rw [unplugNow_eq hv, SessionEnd.dropSession_log hevent', State.captureUnplug, hfirst, hsecond]
  exact parts_congr (vacated_log hevicts) hclk halt hstg hrsv hlive _ _

/-! ## The command (O37) -/

theorem leaving_done {c : ConfigRecord} (hcfg : s.cfg = some c) (hquery : s.prk.query = none)
    (h : ∃ l, v.chain.legs[v.chain.cursor]? = some l ∧ l.dep - c.window * 30 ≤ s.clk.epoch ∧ (s.clk.epoch : Int) ≤ l.dep + c.window * 30) :
    (leaving s v).chain = v.chain.markCursor .done := by
  obtain ⟨l, hl, hin⟩ := h
  have hwindow : s.window = c.window := by rw [State.window, hcfg]; rfl
  rw [leaving, hquery, hwindow]
  simp only [Option.isSome_none, Bool.false_eq_true, if_false, Session.legDone, Chain.cursorLeg, hl, if_pos hin]

theorem leaving_undone {c : ConfigRecord} (hcfg : s.cfg = some c) (h : ¬(s.prk.query = none ∧ ∃ l,
    v.chain.legs[v.chain.cursor]? = some l ∧ l.dep - c.window * 30 ≤ s.clk.epoch ∧ (s.clk.epoch : Int) ≤ l.dep + c.window * 30)) :
    (leaving s v).chain = v.chain := by
  have hwindow : s.window = c.window := by rw [State.window, hcfg]; rfl
  unfold leaving
  split
  · rfl
  · rename_i hopen
    rw [hwindow, Session.legDone, Chain.cursorLeg]
    split
    · rfl
    · rename_i l hl
      exact congrArg Session.chain (if_neg fun hin => h ⟨by simpa using hopen, l, hl, hin⟩)

/-- What the end of the session leaves of the link, the park table and the port's answer. -/
theorem unplugNow_keeps (hv : s.ses = some v) : s.unplugNow.lnk = (vacated s v).lnk ∧ s.unplugNow.prk = (vacated s v).prk ∧
    s.unplugNow.prt.answer = s.prt.answer ∧ s.unplugNow.prt.mask = s.prt.mask ∧ s.unplugNow.ses = none := by
  obtain ⟨hanswer, hmask, -⟩ := vacated_keeps s v
  rw [unplugNow_eq hv]
  exact ⟨by simp [State.captureUnplug], by simp [State.captureUnplug], by simpa [State.captureUnplug] using hanswer,
    by simpa [State.captureUnplug] using hmask, State.dropSession_ses _⟩

/-- What it leaves of the blocks that act on the end (R62, R78, R136, R43). -/
theorem unplugNow_acts (hv : s.ses = some v) : s.unplugNow.stg = { s.stg with applied := 0 } ∧
    s.unplugNow.alt = { s.alt with grant := 0, discard := s.alt.discard || s.alt.flight.isSome } ∧
    s.unplugNow.ptb = { s.ptb with dupBus := false } ∧
    (s.rsv.active = true → s.unplugNow.rsv.standing = some .withdrawn ∧ s.unplugNow.rsv.baseline = 0) := by
  obtain ⟨-, hptb, -, halt, hstg, -, hrsv, -⟩ := vacated_frame s v
  rw [unplugNow_eq hv, SessionEnd.dropSession_stg, SessionEnd.dropSession_alt, SessionEnd.dropSession_ptb]
  refine ⟨by simp [State.captureUnplug, hstg], by simp [State.captureUnplug, halt], by simp [State.captureUnplug, hptb], fun hactive => ?_⟩
  exact SessionEnd.dropSession_event (by simpa [State.captureUnplug, hrsv] using hactive)

/-- What the eviction shows in the queue and the log. -/
theorem unplugNow_evicts {e : ParkEntry} (hv : s.ses = some v) (hparks : s.prk.query = none ∨ v.cap ≠ 0)
    (he : evictedFor v.busId s.prk.entries = some e) : (e.offered ≠ none → Unqueued s s.unplugNow (.offer e.busId)) ∧
    Logged s s.unplugNow .contextEvicted 8 fun r => r.detail = 0#32 ∧ r.busId = e.busId := by
  obtain ⟨hlnk, -⟩ := unplugNow_keeps hv
  refine ⟨fun hoffered => unqueued_of_emptied ?_, ?_⟩
  · rw [place_of_lnk hlnk]
    exact vacated_offer hparks he hoffered
  · have hevicts := vacated_evicts hparks
    unfold Parking.EvictsFor at hevicts
    rw [shut_entries, he] at hevicts
    obtain ⟨hlog, hflags⟩ := hevicts
    have hshut : LogGrew s (shut s v) := LogGrew.of_log (shut_frame s v).2.2.2.2.2.2.2.2.1
    refine logged_of_between (d := 0#32) (b := some e.busId) (fun g h => h) ?_
    rw [unplugNow_eq hv, State.captureUnplug]
    have hkept := keptByActs_captureBetween s .contextEvicted 0#32 (some e.busId) fun r => r.detail = 0#32 ∧ r.busId = e.busId
    exact hkept.dropSession (Spares.nil _) (hkept.capture _ _ _ (by simp) (hkept.capture _ _ _ (by simp)
      (hkept.congr (captureBetween_of_capture hshut ⟨rfl, rfl⟩) hlog hflags)))

/-- Settles O37: what UNPLUG parks and captures, and how the blocks see the session's end. -/
theorem unplugParksAndEnds : Obligations.UnplugParksAndEnds := by
  intro v c s hv hcfg
  have hexec : exec .unplug s = .next (s.command 6 true none State.unplugNow fun _ => []) := by
    have hlive : exec .unplug s = .next (s.command 6 s.ses.isSome none State.unplugNow fun _ => []) := rfl
    rw [hlive, hv]
    rfl
  refine Port.answers_of_taken hexec ?_
  have hv' : s.counted.ses = some v := hv
  obtain ⟨hstg, halt, hptb, hevent⟩ := unplugNow_acts hv'
  obtain ⟨hlnk, hprk, hanswer, hmask, hses⟩ := unplugNow_keeps hv'
  obtain ⟨-, -, hclosed, hlast, hidle⟩ := vacated_keeps s.counted v
  obtain ⟨-, -, -, hfigures, hcancelled⟩ := Parking.cancelWindow_figures s.counted
  obtain ⟨hfirst, hsecond⟩ := unplugNow_captures hv'
  have hframe := State.unplugNow_frame s.counted
  have hhold : s.counted.holdBoundaries = c.parkHold * 1800 := by
    show (s.cfg.map fun c => c.parkHold * 1800).getD 0 = _
    rw [hcfg]
    rfl
  generalize hu : s.counted.unplugNow = u at *
  intro inWindow
  have hentries : u.ptb.entries = s.ptb.entries := by rw [hptb]; rfl
  have hdup : u.ptb.dupBus = false := by rw [hptb]
  have hquery : u.prk.query = none := by rw [hprk, hclosed]
  have hlastRecord : u.prk.last = s.prk.last := by rw [hprk, hlast]; rfl
  have hidle' : u.prk.idle = s.counted.cancelWindow.prk.idle := by rw [hprk, hidle]
  obtain ⟨hclk, hclaim, hsnap, hucfg, -⟩ := hframe
  refine ⟨hses, hquery, congrArg Alt.grant halt, hstg, fun hparks => ⟨⟨(leaving s.counted v).chain, ?_, fun hin => ?_, fun hout => ?_⟩,
      fun e he => ?_⟩, fun hopen => ?_, ?_, fun hopen hcap => ?_, fun hnone => ?_, fun hopen => ?_, halt, hevent, fun h24 => ?_, hclk,
    hentries, hdup, hclaim, hsnap, hucfg, hlastRecord, hmask, Port.responds_answerWith _ _ hanswer⟩
  · show u.prk.entries = _
    rw [hprk, vacated_parks (by exact hparks), hhold]
    rfl
  · exact leaving_done (s := s.counted) hcfg hin.1 hin.2
  · exact leaving_undone (s := s.counted) hcfg hout
  · obtain ⟨hunqueued, hlogged⟩ := unplugNow_evicts hv' (by exact hparks) he
    rw [hu] at hunqueued hlogged
    exact ⟨hunqueued, hlogged⟩
  · refine unqueued_of_emptied (s := s.counted) (t := u) ?_
    rw [place_of_lnk hlnk]
    exact vacated_query hopen
  · intro first tens second parts
    have hone : first = unplugFirst v := (unplugFirst_eq v).symm
    have htwo : second = unplugSecond v := (unplugSecond_eq v).symm
    have hparts : parts = (s.capture .unplug (unplugFirst v) none).capture .unplug (unplugSecond v) none := by rw [← hone, ← htwo]
    rw [hparts, hone, htwo]
    refine ⟨logged_of_between (s := s.counted) (t := u) (fun g h => h) hfirst,
      logged_of_between (s := s.counted) (t := u) (fun g h => h) hsecond, fun hevicts hgone => ?_⟩
    have hlog := unplugNow_log hv' hevicts hgone
    rw [hu] at hlog
    show u.log = _
    rw [hlog]
    exact parts_congr (y := s.counted) (z := s) rfl rfl rfl rfl rfl rfl _ _
  · show u.prk.entries = _
    rw [hprk, vacated_leaves (by exact hopen) hcap]
    rfl
  · show u.prk.idle = _
    rw [hidle', hfigures hnone]
    rfl
  · obtain ⟨q, hq⟩ := Option.ne_none_iff_exists'.mp hopen
    show u.prk.idle.offers = 0
    rw [hidle', hcancelled q hq]
    rfl
  · have hcounter := unplugNow_counts hv' h24
    rw [hu] at hcounter
    exact hcounter

end Sys2Proof.Proofs.Unplug
end

section
/-!
PLUG (R51 to R53, R43, R136, R145, R146): the session begun, restored from the own park table or with a window, and DUP_BUS (O35).
-/
namespace Sys2Proof.Proofs.Plug

open Sys2Proof Sys2Proof.Machine Sys2Proof.Proofs.Acts Sys2Proof.Proofs.Captures Sys2Proof.Proofs.Places

variable {s u : State} {p : PlugFields} {c : ConfigRecord} {e : ParkEntry} {v : Session}

/-! ## The stages of the command -/

/-- The session in place, before any other block acts on it. -/
def arrived (s : State) (p : PlugFields) : State := s.setSes (some (s.newSession p))

/-- DUP_BUS judged and the event told of the session (R43, R136). -/
def begun (s : State) (p : PlugFields) : State := (arrived s p).evalDupBus.rsvSessionBegin

/-- The state in which a local restore is captured (R52, R145). -/
def restoredFor (u : State) (e : ParkEntry) : State :=
  (((u.removePark e.busId).modSes fun v => v.restored e.ctx .locally).recordHandover
    { result := .locally, busId := e.busId, epoch := u.clk.epoch, offerer := 0, offers := 0, lastE := e.ctx.lastE }).follow

theorem restoreLocal_eq (u : State) (e : ParkEntry) : u.restoreLocal e = (restoredFor u e).captureNat .plugLocal 0 := rfl

theorem begun_frame (s : State) (p : PlugFields) : (begun s p).clk = s.clk ∧ (begun s p).lnk = s.lnk ∧
    (begun s p).ses = some (s.newSession p) ∧ (begun s p).prk = s.prk ∧ (begun s p).cfg = s.cfg := by
  simp [begun, arrived]

theorem plugIn_local (he : s.prk.entryOf p.busId = some e) : s.plugIn p = (begun s p).restoreLocal e := by
  obtain ⟨-, -, -, hprk, -⟩ := begun_frame s p
  have hform : s.plugIn p = match (begun s p).prk.entryOf p.busId with
    | some e => (begun s p).restoreLocal e
    | none => ((begun s p).openWindow p.busId).follow := rfl
  rw [hform, hprk, he]

theorem plugIn_cold (he : s.prk.entryOf p.busId = none) : s.plugIn p = ((begun s p).openWindow p.busId).follow := by
  obtain ⟨-, -, -, hprk, -⟩ := begun_frame s p
  have hform : s.plugIn p = match (begun s p).prk.entryOf p.busId with
    | some e => (begun s p).restoreLocal e
    | none => ((begun s p).openWindow p.busId).follow := rfl
  rw [hform, hprk, he]

/-! ## What both outcomes leave of the beginning -/

theorem plugIn_registers (s : State) (p : PlugFields) : (s.plugIn p).rsv = (begun s p).rsv ∧ (s.plugIn p).ptb = (begun s p).ptb := by
  cases he : s.prk.entryOf p.busId with
  | none => rw [plugIn_cold he]; simp
  | some e => rw [plugIn_local he]; simp

theorem plugIn_kept {out : List Cause} {P : State → Prop} (hP : KeptByActs out P) (hc : Spares out [.plugLocal])
    (h : P (arrived s p).evalDupBus) : P (s.plugIn p) := by
  have hbegun : P (begun s p) := hP.congr h (by simp [begun]) (by simp [begun])
  cases he : s.prk.entryOf p.busId with
  | none =>
    rw [plugIn_cold he]
    exact hP.congr hbegun (by simp) (by simp)
  | some e =>
    rw [plugIn_local he, restoreLocal_eq]
    exact hP.captureNat _ _ (hc _ (by simp)) (hP.congr hbegun (by simp [restoredFor, State.recordHandover])
      (by simp [restoredFor, State.recordHandover]))

/-- A session begun during an event is OUTSIDE (R136). -/
theorem begun_outside (h : s.rsv.active = true) : (begun s p).rsv.standing = some .outside ∧ (begun s p).rsv.share = 0 := by
  have hactive : (arrived s p).evalDupBus.rsv.active = true := by simpa [arrived] using h
  unfold begun State.rsvSessionBegin
  rw [if_pos hactive]
  simp

/-! ## DUP_BUS (R43, log entry 55) -/

theorem busReporter_arrived {q : PeerEntry}
    (hq : (s.ptb.entries.find? fun q => decide (q.state = .live) && q.claim.busId == p.busId) = some q) :
    (arrived s p).busReporter = some q.bay := by
  have hlive : (fun q : PeerEntry => q.isLive && q.claim.busId == p.busId) =
      fun q => decide (q.state = .live) && q.claim.busId == p.busId := by
    funext q
    rw [PeerEntry.isLive]
    cases q.state <;> rfl
  have hform : (arrived s p).busReporter =
      (s.ptb.entries.find? fun q => q.isLive && q.claim.busId == p.busId).map PeerEntry.bay := rfl
  rw [hform, hlive, hq]
  rfl

theorem plugIn_dupBus {q : PeerEntry}
    (hq : (s.ptb.entries.find? fun q => decide (q.state = .live) && q.claim.busId == p.busId) = some q) :
    (s.plugIn p).ptb.dupBus = true := by
  have hkept : (begun s p).ptb = (arrived s p).evalDupBus.ptb := by simp [begun]
  rw [(plugIn_registers s p).2, hkept, Peers.evalDupBus_dupBus, busReporter_arrived hq]
  rfl

/-- E by the C that PLUG gave. -/
theorem arrived_energy (s : State) (p : PlugFields) : (arrived s p).energy = if p.cap = 0 then 0 else min p.e0 p.cap := by
  have henergy : (arrived s p).energy = (clampInt ((clampKnown p.cap p.e0 : Nat) + 0 - 0) 0 p.cap).toNat := rfl
  rw [henergy, Setpoint.clampInt_eq_max_min (by omega), clampKnown]
  split <;> omega

/-- Where DUP_BUS begins it is noticed, and captured before the restore. -/
theorem plugIn_begins_dupBus {q : PeerEntry}
    (hq : (s.ptb.entries.find? fun q => decide (q.state = .live) && q.claim.busId == p.busId) = some q)
    (hnew : s.ptb.dupBus = false) : (s.plugIn p).flagged .dupBus = true ∧ CaptureBetween s .dupBus (BitVec.ofNat 32 q.bay) none
      (fun r => r.detail = BitVec.ofNat 32 q.bay ∧ r.busId = p.busId ∧ r.energy = if p.cap = 0 then 0 else min p.e0 p.cap)
      (s.plugIn p) := by
  have hbegins : (arrived s p).evalDupBus =
      ((((arrived s p).setPtb { s.ptb with dupBus := true }).captureNat .dupBus q.bay).raise .dupBus) := by
    unfold State.evalDupBus
    rw [busReporter_arrived hq]
    dsimp only
    exact if_neg (by simp [arrived, hnew])
  have hkept := keptByActs_captureBetween s .dupBus (BitVec.ofNat 32 q.bay) none fun r =>
    r.detail = BitVec.ofNat 32 q.bay ∧ r.busId = p.busId ∧ r.energy = if p.cap = 0 then 0 else min p.e0 p.cap
  refine ⟨plugIn_kept (keptByActs_flagged .dupBus) (Spares.nil _) ?_, plugIn_kept hkept (Spares.nil _) ?_⟩ <;> rw [hbegins]
  · simp
  · exact hkept.raise _ (captureBetween_of_capture (LogGrew.of_log rfl) ⟨rfl, rfl, arrived_energy s p⟩)

/-! ## A local restore (R52, R145) -/

theorem restoreLocal_ses (h : u.ses = some v) : (u.restoreLocal e).ses = some (v.restored e.ctx .locally) := by
  simp [State.restoreLocal, State.recordHandover, State.modSes, h]

theorem restoreLocal_prk (he : u.prk.entryOf e.busId = some e) : (u.restoreLocal e).prk = { u.prk with
    entries := u.prk.entries.filter (fun x => x.busId != e.busId)
    last := some { result := .locally, busId := e.busId, epoch := u.clk.epoch, offerer := 0, offers := 0,
                   lastE := e.ctx.lastE } } := by
  have hprk := ParkedFrames.removePark_prk he
  simp [State.restoreLocal, State.recordHandover, State.modSes, hprk]

theorem restoreLocal_lnk (u : State) (e : ParkEntry) : (u.restoreLocal e).lnk = (u.removePark e.busId).lnk := by
  simp [State.restoreLocal, State.recordHandover, State.modSes]

/-- A frame taken out of the queue: what is driven stays with its removal held, and every other entry stands (R21, R23). -/
theorem unqueuedAlone_dequeue (s : State) (k : FrameKey) : UnqueuedAlone s (s.dequeue k) k := by
  constructor
  · intro hquiet
    unfold State.dequeue
    split
    · rename_i j bytes held haccess
      have hj : j ≠ k := fun h => by simp [haccess, Access.drives, h] at hquiet
      rw [if_neg hj]
      exact Transmission.removeAt_eq _ _
    · rw [← Transmission.removeAt_eq]
      simp
  · intro bytes held haccess
    unfold State.dequeue
    rw [haccess]
    simp

/-- An entry restored while OFFERED loses its queued OFFER. -/
theorem restoreLocal_unqueues (he : u.prk.entryOf e.busId = some e) (hoffered : e.offered ≠ none) :
    UnqueuedAlone u (u.restoreLocal e) (.offer e.busId) := by
  have hout := unqueuedAlone_dequeue (u.setPrk { u.prk with entries := withoutBus u.prk.entries e.busId }) (.offer e.busId)
  have hlnk : (u.restoreLocal e).lnk = ((u.setPrk { u.prk with entries := withoutBus u.prk.entries e.busId }).dequeue (.offer e.busId)).lnk := by
    rw [restoreLocal_lnk, ParkedFrames.removePark_some he, State.dropOffer, if_pos (Option.isSome_iff_ne_none.mpr hoffered)]
  unfold UnqueuedAlone at hout ⊢
  rw [hlnk]
  exact hout

theorem restoredFor_log (u : State) (e : ParkEntry) : (restoredFor u e).log = u.log := by
  simp [restoredFor, State.recordHandover]

theorem restoredFor_ses (h : u.ses = some v) : (restoredFor u e).ses = some (v.restored e.ctx .locally) := by
  simp [restoredFor, State.recordHandover, State.modSes, h]

/-- The capture of a local restore reads the session as restored (R161, R162). -/
theorem restoreLocal_captures {w : Session} (hw : u.ses = some v) (hr : v.restored e.ctx .locally = w) (hgrew : LogGrew s u) :
    CaptureBetween s .plugLocal 0#32 none (fun r => r.detail = 0#32 ∧ r.busId = w.busId ∧ r.energy = w.energy) (u.restoreLocal e) := by
  have hses := restoredFor_ses (e := e) hw
  rw [hr] at hses
  refine captureBetween_of_capture (hgrew.trans (LogGrew.of_log (restoredFor_log u e))) ⟨rfl, ?_, ?_⟩
  · show (restoredFor u e).liveBus = w.busId
    rw [State.liveBus, hses]
    rfl
  · show (restoredFor u e).energy = w.energy
    rw [State.energy, hses]
    rfl

theorem restoreLocal_counts {k : Nat} (h : u.log.counters.length = 24 ∧ u.counter .plugLocal = k) :
    (u.restoreLocal e).counter .plugLocal = min 63 (k + 1) := by
  obtain ⟨hlength, hk⟩ := h
  have hlog := restoredFor_log u e
  have hcount : (restoredFor u e).counter .plugLocal = k := (State.counter_congr (by rw [hlog]) _).trans hk
  rw [restoreLocal_eq, State.captureNat_counter _ _ _ _ (by rw [hlog, hlength]), if_pos rfl, hcount]

/-! ## The session's figures (R51, R52) -/

/-- The figures of PLUG that stand whatever the outcome (R51). -/
def Plugged (s : State) (p : PlugFields) (c : ConfigRecord) (w : Session) : Prop :=
  w.busId = p.busId ∧ w.plugEpoch = s.clk.epoch ∧ w.consent = decide (p.consent = 1) ∧
    w.pAccept = min p.pAccept c.chargerRating ∧ w.dischargeLimit = min p.dischargeLimit c.dischargeRating ∧
    (w.need, w.ask, w.pledge, w.late, w.atRisk) = (0, 0, 0, false, false) ∧
    (w.imp, w.exp, w.resp) = (zeroIntegrator, zeroIntegrator, zeroIntegrator)

theorem newSession_plugged (hcfg : s.cfg = some c) : Plugged s p c (s.newSession p) := by
  have hcharger : s.chargerRating = c.chargerRating := by rw [State.chargerRating, hcfg]; rfl
  have hdischarge : s.dischargeRating = c.dischargeRating := by rw [State.dischargeRating, hcfg]; rfl
  unfold Plugged State.newSession
  rw [hcharger, hdischarge]
  exact ⟨rfl, rfl, rfl, rfl, rfl, rfl, rfl⟩

theorem Plugged.restored {w : Session} (h : Plugged s p c w) (x : Context) (o : Origin) : Plugged s p c (w.restored x o) := h

/-- A restored session's figures from PLUG's fields and the context (R52). -/
theorem newSession_restored (hin : PlugInRange p) (x : Context) {w : Session} (hw : (s.newSession p).restored x .locally = w) :
    w.origin = .locally ∧ w.cap = (if p.cap = 0 then x.cap else p.cap) ∧ w.e0 = min p.e0 w.cap ∧
      w.floor = min (if p.floor = 0 then x.floor else p.floor) w.cap ∧
      w.chain = { x.chain with legs := x.chain.legs.map fun l => { l with req := min l.req w.cap } } ∧
      (w.cumImp, w.cumExp, w.cumResp, w.sessions) = (x.cumImp, x.cumExp, x.cumResp, min 255 (x.sessions + 1)) ∧
      w.energy = w.e0 := by
  obtain ⟨-, hcap, -⟩ := hin
  subst hw
  refine ⟨rfl, rfl, ?_, ?_, rfl, rfl, ?_⟩
  · show min (clampKnown p.cap p.e0) (if p.cap = 0 then x.cap else p.cap) = min p.e0 (if p.cap = 0 then x.cap else p.cap)
    unfold clampKnown
    split <;> omega
  · show min (if clampKnown p.cap p.floor = 0 then x.floor else clampKnown p.cap p.floor) (if p.cap = 0 then x.cap else p.cap) =
      min (if p.floor = 0 then x.floor else p.floor) (if p.cap = 0 then x.cap else p.cap)
    unfold clampKnown
    split
    · rfl
    · split <;> split <;> omega
  · show (clampInt ((min (clampKnown p.cap p.e0) (if p.cap = 0 then x.cap else p.cap) : Nat) + 0 - 0) 0
      (if p.cap = 0 then x.cap else p.cap : Nat)).toNat = min (clampKnown p.cap p.e0) (if p.cap = 0 then x.cap else p.cap)
    rw [Setpoint.clampInt_eq_max_min (by omega)]
    omega

/-! ## The checks (R53) -/

/-- The checks of PLUG, each in the statement's words. -/
theorem firstFail_plugChecks (p : PlugFields) : firstFail (plugChecks p) =
    if 1 ≤ p.busId ∧ p.busId ≤ 255 then
      if p.cap = 0 ∨ 10000 ≤ p.cap ∧ p.cap ≤ 1000000 then
        if p.e0 ≤ 1000000 then if p.floor ≤ 1000000 then if p.consent ≤ 1 then none else some 6 else some 4 else some 3
      else some 2
    else some 1 := by
  simp only [plugChecks, firstFail, busFieldOk, capacityOk, within, Bool.or_eq_true, decide_eq_true_eq]

theorem plugChecks_pass (hin : PlugInRange p) : firstFail (plugChecks p) = none := by
  obtain ⟨hbus, hcap, he0, hfloor, hconsent⟩ := hin
  rw [firstFail_plugChecks, if_pos hbus, if_pos hcap, if_pos he0, if_pos hfloor, if_pos hconsent]

theorem plugChecks_fail (hout : ¬PlugInRange p) : firstFail (plugChecks p) = some (
    if ¬(1 ≤ p.busId ∧ p.busId ≤ 255) then 1
    else if ¬(p.cap = 0 ∨ 10000 ≤ p.cap ∧ p.cap ≤ 1000000) then 2
    else if 1000000 < p.e0 then 3
    else if 1000000 < p.floor then 4
    else 6) := by
  rw [firstFail_plugChecks]
  by_cases hbus : 1 ≤ p.busId ∧ p.busId ≤ 255
  · rw [if_pos hbus, if_neg (not_not.mpr hbus)]
    by_cases hcap : p.cap = 0 ∨ 10000 ≤ p.cap ∧ p.cap ≤ 1000000
    · rw [if_pos hcap, if_neg (not_not.mpr hcap)]
      by_cases he0 : p.e0 ≤ 1000000
      · rw [if_pos he0, if_neg (not_lt.mpr he0)]
        by_cases hfloor : p.floor ≤ 1000000
        · rw [if_pos hfloor, if_neg (not_lt.mpr hfloor), if_neg fun hconsent => hout ⟨hbus, hcap, he0, hfloor, hconsent⟩]
        · rw [if_neg hfloor, if_pos (not_le.mp hfloor)]
      · rw [if_neg he0, if_pos (not_le.mp he0)]
    · rw [if_neg hcap, if_pos hcap]
  · rw [if_neg hbus, if_pos hbus]

theorem exec_plug (hstation : s.lnk.station ≠ .unconfigured) (hses : s.ses = none) : exec (.plug p) s =
    .next (s.command 3 true (firstFail (plugChecks p)) (fun t => t.plugIn p) State.plugPayload) := by
  have hok : (s.isConfigured && s.ses.isNone) = true := by simp [State.isConfigured, hstation, hses]
  have hform : exec (.plug p) s =
      .next (s.command 3 (s.isConfigured && s.ses.isNone) (firstFail (plugChecks p)) (fun t => t.plugIn p) State.plugPayload) := rfl
  rw [hform, hok]

/-! ## The command (O35) -/

/-- The response's payload (log entry 28). -/
theorem plugPayload_eq {w : Session} (hses : s.ses = some w) (n : Nat) (hphase : (if s.prk.query.isSome then 1 else 2) = n) :
    s.plugPayload = u8 n ++ u32 w.cap ++ u32 w.e0 ++ u32 w.floor ++ u16 w.pAccept ++ u16 w.dischargeLimit := by
  have hcode : s.presenceCode = n := by
    rw [← hphase, State.presenceCode, State.isPending, hses]
    rfl
  unfold State.plugPayload
  rw [hcode, hses]
  simp only [List.append_assoc]

theorem openWindow_holds (hstation : u.lnk.station ≠ .unconfigured) (bus : Nat) : (u.openWindow bus).follow.Holds (.query bus) := by
  have hheld := State.enqueue_holds (u.setPrk { u.prk with query := some { busId := bus, countdown := 3, offers := 0, best := none } })
    (.query bus) hstation
  exact hheld

theorem plugIn_of_cold (hstation : s.lnk.station ≠ .unconfigured) (hcfg : s.cfg = some c) (he : s.prk.entryOf p.busId = none) :
    ∃ w, (s.plugIn p).ses = some w ∧ Plugged s p c w ∧
      (w.origin = .cold ∧ w.cap = p.cap ∧ w.e0 = (if p.cap = 0 then p.e0 else min p.e0 p.cap) ∧
        w.floor = (if p.cap = 0 then p.floor else min p.floor p.cap) ∧ w.chain = { legs := [], cursor := 0 } ∧
        (w.cumImp, w.cumExp, w.cumResp, w.sessions) = (0, 0, 0, 1)) ∧
      (s.plugIn p).prk = { s.prk with query := some { busId := p.busId, countdown := 3, offers := 0, best := none } } ∧
      (s.plugIn p).Holds (.query p.busId) := by
  obtain ⟨-, hlnk, hses, hprk, -⟩ := begun_frame s p
  rw [plugIn_cold he]
  refine ⟨s.newSession p, by simp [hses], newSession_plugged hcfg, ⟨rfl, rfl, rfl, rfl, rfl, rfl⟩, ?_, openWindow_holds (by rwa [hlnk]) _⟩
  simp [State.openWindow, hprk, Config.windowLength]

theorem plugIn_of_local (hin : PlugInRange p) (hcfg : s.cfg = some c) (he : s.prk.entryOf p.busId = some e) :
    ∃ w, (s.plugIn p).ses = some w ∧ Plugged s p c w ∧
      (w.origin = .locally ∧ w.cap = (if p.cap = 0 then e.ctx.cap else p.cap) ∧ w.e0 = min p.e0 w.cap ∧
        w.floor = min (if p.floor = 0 then e.ctx.floor else p.floor) w.cap ∧
        w.chain = { e.ctx.chain with legs := e.ctx.chain.legs.map fun l => { l with req := min l.req w.cap } } ∧
        (w.cumImp, w.cumExp, w.cumResp, w.sessions) =
          (e.ctx.cumImp, e.ctx.cumExp, e.ctx.cumResp, min 255 (e.ctx.sessions + 1)) ∧ w.energy = w.e0) ∧
      (s.plugIn p).prk = { s.prk with
        entries := s.prk.entries.filter (fun x => x.busId != p.busId)
        last := some { result := .locally, busId := p.busId, epoch := s.clk.epoch, offerer := 0, offers := 0,
                       lastE := e.ctx.lastE } } ∧
      (s.log.counters.length = 24 → (s.plugIn p).counter .plugLocal = min 63 (s.counter .plugLocal + 1)) ∧
      CaptureBetween s .plugLocal 0#32 none (fun r => r.detail = 0#32 ∧ r.busId = w.busId ∧ r.energy = w.energy) (s.plugIn p) ∧
      (e.offered ≠ none → UnqueuedAlone s (s.plugIn p) (.offer p.busId)) := by
  obtain ⟨hclk, hlnk, hses, hprk, -⟩ := begun_frame s p
  have hbus := ParkedFrames.busId_of_entryOf he
  have hentry : (begun s p).prk.entryOf e.busId = some e := by rw [hprk, hbus, he]
  have hkept {P : State → Prop} {out : List Cause} (hP : KeptByActs out P) (hc : Spares out [.dupBus]) (h : P s) : P (begun s p) :=
    hP.congr (hP.evalDupBus (s := arrived s p) hc (hP.congr h rfl rfl)) (by simp [begun]) (by simp [begun])
  obtain ⟨w, hw⟩ : ∃ w, (s.newSession p).restored e.ctx .locally = w := ⟨_, rfl⟩
  rw [plugIn_local he]
  refine ⟨w, by rw [restoreLocal_ses hses, hw], hw ▸ (newSession_plugged hcfg).restored _ _, newSession_restored hin e.ctx hw, ?_,
    fun h24 => ?_, restoreLocal_captures hses hw (hkept (logGrew_keptByActs s) (Spares.nil _) (LogGrew.refl s)), fun hoffered => ?_⟩
  · rw [restoreLocal_prk hentry, hprk, hclk, hbus]
  · exact restoreLocal_counts (hkept (keptByActs_counter .plugLocal (s.counter .plugLocal)) (by decide) ⟨h24, rfl⟩)
  · have hout := restoreLocal_unqueues hentry hoffered
    unfold UnqueuedAlone at hout ⊢
    rwa [hlnk, hbus] at hout

/-- Settles O35: the session that PLUG starts, LOCAL or COLD, and the checks of its fields. -/
theorem plugStartsASession : Obligations.PlugStartsASession := by
  intro p c s hstation hcfg hses hquery
  refine ⟨fun hin => ?_, fun hout => ?_⟩
  · have hexec := exec_plug (p := p) hstation hses
    rw [plugChecks_pass hin] at hexec
    refine Port.answers_of_taken hexec ?_
    obtain ⟨hclk, hclaim, halt, hsnap, hucfg, -⟩ := State.plugIn_frame s.counted p
    obtain ⟨hrsv, hptb⟩ := plugIn_registers s.counted p
    have hentries : (begun s.counted p).ptb.entries = s.ptb.entries := by simp [begun, arrived]
    have hanswer : (s.counted.plugIn p).prt.answer = nextAnswer s.prt.answer := by simp
    have hmask : (s.counted.plugIn p).prt.mask = s.prt.mask := by simp
    refine ⟨?_, fun hactive => ?_, fun q hq => ⟨plugIn_dupBus hq, fun hnew => ?_⟩, hclk, ?_, hclaim, halt, hsnap, hucfg, hmask⟩
    · cases he : s.prk.entryOf p.busId with
      | none =>
        obtain ⟨w, hw, hplugged, hfigures, hprk, hheld⟩ := plugIn_of_cold (s := s.counted) hstation hcfg he
        obtain ⟨h1, h2, h3, h4, h5, h6, h7⟩ := hplugged
        refine ⟨w, hw, h1, h2, h3, h4, h5, h6, h7, ?_, ?_⟩
        · have hpayload := plugPayload_eq hw 1 (by rw [hprk]; rfl)
          rw [hpayload]
          exact Port.responds_answerWith _ _ hanswer
        · obtain ⟨f1, f2, f3, f4, f5, f6⟩ := hfigures
          exact ⟨f1, f2, f3, f4, f5, f6, hprk, hheld⟩
      | some e =>
        obtain ⟨w, hw, hplugged, hfigures, hprk, hcount, hcapture, hout⟩ := plugIn_of_local (s := s.counted) hin hcfg he
        obtain ⟨h1, h2, h3, h4, h5, h6, h7⟩ := hplugged
        refine ⟨w, hw, h1, h2, h3, h4, h5, h6, h7, ?_, ?_⟩
        · have hpayload := plugPayload_eq hw 2 (by rw [hprk]; show (if s.prk.query.isSome then 1 else 2) = 2; rw [hquery]; rfl)
          rw [hpayload]
          exact Port.responds_answerWith _ _ hanswer
        · obtain ⟨f1, f2, f3, f4, f5, f6, henergy⟩ := hfigures
          rw [h1, henergy] at hcapture
          exact ⟨f1, f2, f3, f4, f5, f6, hprk, hcount,
            logged_of_between (s := s.counted) (t := s.counted.plugIn p) (fun g h => h) hcapture, hout⟩
    · show (s.counted.plugIn p).rsv.standing = _ ∧ (s.counted.plugIn p).rsv.share = 0
      rw [hrsv]
      exact begun_outside hactive
    · obtain ⟨hflag, hcapture⟩ := plugIn_begins_dupBus (s := s.counted) hq hnew
      exact ⟨hflag, logged_of_between (s := s.counted) (t := s.counted.plugIn p) (fun g h => h) hcapture⟩
    · show (s.counted.plugIn p).ptb.entries = _
      rw [hptb, hentries]
  · have hexec := exec_plug (p := p) hstation hses
    rw [plugChecks_fail hout] at hexec
    exact Port.refused_of_range hexec

end Sys2Proof.Proofs.Plug
end

section
/-!
The own claim at an epoch boundary (R68, R69): the moment at which it is built, and that it stands and is held to be sent at the
boundary's end.
-/
namespace Sys2Proof.Proofs.ClaimStage

open Sys2Proof Sys2Proof.Machine Sys2Proof.Proofs.Stages Sys2Proof.Proofs.Places

variable {s t y z : State}

/-- The claim built in the state `z` stands in `t`, and its frame is held to be sent. -/
structure Claimed (z t : State) : Prop where
  last : t.lastClaim = some { claim := z.buildClaim, epoch := z.clk.epoch }
  held : t.Holds (.claim z.buildClaim)

theorem Claimed.congr (h : Claimed z s) (hlast : t.lastClaim = s.lastClaim) (hplace : place t .claim = place s .claim) : Claimed z t :=
  ⟨hlast.trans h.last, (holds_congr hplace).mpr h.held⟩

theorem claimed_claimAndLatch (h : z.isClaiming = true) : Claimed z z.claimAndLatch := by
  have hstation : (z.setLastClaim (some { claim := z.buildClaim, epoch := z.clk.epoch })).lnk.station ≠ .unconfigured := by
    intro hs
    have hs' : z.lnk.station = .unconfigured := hs
    rw [State.isClaiming, hs'] at h
    exact Bool.false_ne_true h
  have hqueued := State.enqueue_holds (z.setLastClaim (some { claim := z.buildClaim, epoch := z.clk.epoch })) (.claim z.buildClaim) hstation
  have hlast : ((z.setLastClaim (some { claim := z.buildClaim, epoch := z.clk.epoch })).enqueue (.claim z.buildClaim)).lastClaim =
      some { claim := z.buildClaim, epoch := z.clk.epoch } := by simp
  have hclaimed : Claimed z ((z.setLastClaim (some { claim := z.buildClaim, epoch := z.clk.epoch })).enqueue (.claim z.buildClaim)) :=
    ⟨hlast, hqueued⟩
  unfold State.claimAndLatch
  rw [if_pos h]
  dsimp only
  split
  · exact hclaimed
  · exact hclaimed.congr (by simp) (place_of_lnk (by simp) _)

theorem isClaiming_congr (h : t.lnk.station = s.lnk.station) : t.isClaiming = s.isClaiming := by
  rw [State.isClaiming, State.isClaiming, h]

theorem claimed_sesBoundary (h : y.isClaiming = true) : Claimed y.sessionBoundary y.sesBoundary :=
  claimed_claimAndLatch ((isClaiming_congr (by simp)).trans h)

theorem claimed_reserveAndSession (h : s.isClaiming = true) :
    ∃ y, (y = s ∨ y = s.rsvCountdown) ∧ Claimed y.sessionBoundary s.reserveAndSession := by
  unfold State.reserveAndSession State.reserveAndClaim
  split
  · refine ⟨s, .inl rfl, (claimed_sesBoundary h).congr (by simp) ?_⟩
    rw [place_of_lnk (State.withdrawalCheck_frame _).2.1, place_rsvCountdown (k := .claim) _ nofun]
  · refine ⟨_, .inr rfl, (claimed_sesBoundary ((isClaiming_congr (by simp)).trans h)).congr (by simp) ?_⟩
    rw [place_of_lnk (State.withdrawalCheck_frame _).2.1]

theorem place_prkBoundary_claim (s : State) : place s.prkBoundary .claim = place s .claim := by
  unfold State.prkBoundary
  rw [place_holdsBoundary_other (k := .claim) _ fun _ => nofun, place_waitsBoundary_other (k := .claim) _ fun _ => nofun,
    place_windowBoundary (k := .claim) _ nofun nofun]

/-- The claim that a boundary builds in ACTIVE or ISOLATED: over the session made ready, before or after the event's countdown
(log entry 2), and before or after a window that closes for want (log entry 12). -/
theorem epochBoundary_claims (hend : s.AtEpochEnd) (h : (opened s).lnkBoundary.isClaiming = true) :
    ∃ x y, (x = (opened s).lnkBoundary ∨ x = (opened s).lnkBoundary.prkBoundary) ∧ (y = x ∨ y = x.rsvCountdown) ∧
      Claimed y.sessionBoundary s.epochBoundary := by
  rw [epochBoundary_stages hend]
  generalize (opened s).lnkBoundary = l at h
  obtain heq | ⟨-, heq⟩ := sessionAndPark_cases l <;> rw [heq]
  · obtain ⟨y, hy, hclaimed⟩ := claimed_reserveAndSession h
    refine ⟨l, y, .inl rfl, hy, hclaimed.congr (by simp) ?_⟩
    rw [place_of_lnk (s := l.reserveAndSession.prkBoundary) (by simp), place_prkBoundary_claim]
  · obtain ⟨y, hy, hclaimed⟩ := claimed_reserveAndSession (s := l.prkBoundary) ((isClaiming_congr (by simp)).trans h)
    exact ⟨l.prkBoundary, y, .inr rfl, hy, hclaimed.congr (by simp) (place_of_lnk (by simp) _)⟩

/-- With no window about to close the park table comes last, and the claim is built over the link's boundary. -/
theorem epochBoundary_claims_open (hend : s.AtEpochEnd) (hopen : ∀ q ∈ s.prk.query, 1 < q.countdown)
    (h : (opened s).lnkBoundary.isClaiming = true) :
    ∃ y, (y = (opened s).lnkBoundary ∨ y = (opened s).lnkBoundary.rsvCountdown) ∧ Claimed y.sessionBoundary s.epochBoundary := by
  rw [epochBoundary_stages hend, sessionAndPark_of_open (Countdown.linked_open hopen)]
  obtain ⟨y, hy, hclaimed⟩ := claimed_reserveAndSession h
  refine ⟨y, hy, hclaimed.congr (by simp) ?_⟩
  rw [place_of_lnk (s := (opened s).lnkBoundary.reserveAndSession.prkBoundary) (by simp), place_prkBoundary_claim]

end Sys2Proof.Proofs.ClaimStage
end

section
/-!
A TAKEN that expires unsent, and the end of the listening period (R21, R23, R28, R29; O30).
-/
namespace Sys2Proof.Proofs.Expiry

open Sys2Proof Sys2Proof.Machine Sys2Proof.Proofs.Acts Sys2Proof.Proofs.Stages Sys2Proof.Proofs.Places Sys2Proof.Proofs.Boundary

variable {s t u : State}

/-! ## The place of a TAKEN that expires -/

/-- What is left of a TAKEN's place at its fourth boundary: nothing, or what is driven with its removal or replacement held. -/
def expired (p : List QEntry × Option (List Byte × Option Held)) : List QEntry × Option (List Byte × Option Held) :=
  match p.2 with
  | none => ([], none)
  | some (bytes, held) => (p.1, some (bytes, some (held.getD .remove)))

theorem place_dequeue_same (s : State) (k : FrameKey) : place (s.dequeue k) k = match (place s k).2 with
    | none => ([], none)
    | some (bytes, _) => ((place s k).1, some (bytes, some .remove)) := by
  obtain ⟨hquiet, hdriven⟩ := emptied_dequeue s k
  cases hplace : (place s k).2 with
  | none =>
    obtain ⟨hqueue, hnone⟩ := hquiet hplace
    exact Prod.ext hqueue hnone
  | some driven =>
    obtain ⟨bytes, held⟩ := driven
    refine Prod.ext ?_ (hdriven bytes held hplace)
    have haccess := driving_iff.mp hplace
    unfold State.dequeue
    rw [haccess]
    simp [place]

theorem place_expireTaken (s : State) : place s.expireTaken .taken = expired (place s .taken) := by
  unfold State.expireTaken expired
  split
  · rename_i bytes held haccess
    rw [show (place s .taken).2 = some (bytes, some held) from driving_iff.mpr haccess]
    exact Prod.ext rfl (driving_iff.mpr haccess)
  · rename_i hfree
    rw [place_dequeue_same]
    cases hplace : (place s .taken).2 with
    | none => rfl
    | some driven =>
      obtain ⟨bytes, held⟩ := driven
      cases held with
      | none => rfl
      | some h => exact absurd (driving_iff.mp hplace) (hfree bytes h)

/-- LNK's boundary at which a TAKEN expires. -/
theorem place_lnkBoundary_expired (h : ∃ e ∈ s.lnk.queue, keyOf e.frame = .taken ∧ 3 ≤ e.age) :
    place s.lnkBoundary .taken = expired (aged (place s .taken)) := by
  unfold State.lnkBoundary
  dsimp only
  rw [place_rechoose, ← place_aged]
  have hexpires : (s.setLnk { s.lnk with queue := s.lnk.queue.map QEntry.boundary }).lnk.queue.any QEntry.isExpired = true := by
    obtain ⟨e, he, hkey, hage⟩ := h
    refine List.any_eq_true.mpr ⟨e.boundary, List.mem_map_of_mem he, ?_⟩
    have htaken : e.hasKey .taken = true := by simp [QEntry.hasKey, hkey]
    have hkept : e.boundary.hasKey .taken = true := htaken
    have hlate : e.boundary.age = e.age + 1 := if_pos htaken
    simp [QEntry.isExpired, hkept, hlate, Config.takenLife]
    omega
  generalize s.setLnk { s.lnk with queue := s.lnk.queue.map QEntry.boundary } = x at hexpires
  rw [if_pos hexpires, ← place_expireTaken]
  generalize x.expireTaken = y
  split
  · rfl
  · exact place_listeningBoundary y _
  · exact place_claimBoundary_other (k := .taken) y nofun
  · exact place_claimBoundary_other (k := .taken) y nofun

/-! ## The TAKEN of a window that closes -/

/-- A frame taken in where its place is empty stands alone there. -/
theorem place_enqueue_empty {f : Frame} (h : place s (keyOf f) = ([], none)) :
    place (s.enqueue f) (keyOf f) = ([], none) ∨ place (s.enqueue f) (keyOf f) = ([freshEntry f], none) := by
  obtain ⟨hqueue, hdriving⟩ := Prod.mk.inj h
  have hany : s.lnk.queue.any (QEntry.hasKey (keyOf f)) = false := by
    rw [List.any_eq_false]
    intro e he hkey
    have hmem : e ∈ keyed s.lnk.queue (keyOf f) := mem_keyed.mpr ⟨he, by simpa [QEntry.hasKey] using hkey⟩
    rw [hqueue] at hmem
    cases hmem
  have happend : keyed (s.lnk.queue ++ [freshEntry f]) (keyOf f) = [freshEntry f] := by
    have hsplit : keyed (s.lnk.queue ++ [freshEntry f]) (keyOf f) = keyed s.lnk.queue (keyOf f) ++ [freshEntry f] := by
      simp [keyed, freshEntry]
    rw [hsplit, hqueue]
    rfl
  unfold State.enqueue
  dsimp only
  split
  · exact .inl h
  · refine .inr ?_
    split
    · rename_i j bytes held haccess
      have hj : j ≠ keyOf f := fun hj => by simp [haccess, driving, hj] at hdriving
      rw [if_neg hj, hany, if_neg Bool.false_ne_true]
      exact Prod.ext happend (haccess ▸ hdriving)
    · rw [hany, if_neg Bool.false_ne_true, place_queueChanged]
      exact Prod.ext happend hdriving

/-- A window's boundary leaves the place of TAKEN, but for the TAKEN that its close with a candidate queues. -/
theorem place_windowBoundary_taken (s : State) : place s.windowBoundary .taken = place s .taken ∨
    ∃ q ∈ s.prk.query, ∃ c ∈ q.best, q.countdown ≤ 1 ∧ ∃ x, place x .taken = place s .taken ∧
      place s.windowBoundary .taken = place (x.enqueue (.taken q.busId c.bay)) .taken := by
  unfold State.windowBoundary
  split
  · exact .inl rfl
  · rename_i q hq
    split
    · rename_i hlast
      split
      · rename_i c hc
        refine .inr ⟨q, hq, c, hc, hlast, _, ?_, place_of_lnk (closeRestored_lnk s q c) _⟩
        exact (place_of_lnk (s := s.endWindow q.closed) (by simp) _).trans (place_endWindow (k := .taken) s _ nofun)
      · exact .inl ((place_of_lnk (closeCold_lnk s q) _).trans (place_endWindow (k := .taken) s _ nofun))
    · exact .inl rfl

theorem place_prkBoundary_taken (s : State) : place s.prkBoundary .taken = place s.windowBoundary .taken := by
  unfold State.prkBoundary
  rw [place_holdsBoundary_other (k := .taken) _ fun _ => nofun, place_waitsBoundary_other (k := .taken) _ fun _ => nofun]

/-- The boundary after LNK's part touches the place of TAKEN through the window alone. -/
theorem place_sessionAndPark_taken (s : State) : ∃ u, u.prk.query = s.prk.query ∧ place u .taken = place s .taken ∧
    place s.sessionAndPark .taken = place u.windowBoundary .taken := by
  obtain heq | ⟨-, heq⟩ := sessionAndPark_cases s <;> rw [heq]
  · exact ⟨_, by simp, place_reserveAndSession (k := .taken) s nofun nofun, place_prkBoundary_taken _⟩
  · refine ⟨s, rfl, rfl, ?_⟩
    rw [place_reserveAndSession (k := .taken) _ nofun nofun, place_prkBoundary_taken]

/-- A query's figures that no rollover moves. -/
theorem linked_query {q : Query} (hq : q ∈ (opened s).lnkBoundary.prk.query) : ∃ p ∈ s.prk.query,
    q.busId = p.busId ∧ q.countdown = p.countdown ∧ ∀ c ∈ q.best, ∃ d ∈ p.best, c.bay = d.bay := by
  rw [(State.lnkBoundary_frame _).2.2.2.2.2.1, opened_prk] at hq
  obtain ⟨p, hp, rfl⟩ := Option.map_eq_some_iff.mp hq
  refine ⟨p, hp, ?_⟩
  split
  · refine ⟨rfl, rfl, fun c hc => ?_⟩
    obtain ⟨d, hd, rfl⟩ := Option.map_eq_some_iff.mp hc
    exact ⟨d, hd, rfl⟩
  · exact ⟨rfl, rfl, fun c hc => ⟨c, hc, rfl⟩⟩

/-- The place of TAKEN at the end of the boundary at which one expires. -/
theorem epochBoundary_taken (hend : s.AtEpochEnd) (h : ∃ e ∈ s.lnk.queue, keyOf e.frame = .taken ∧ 3 ≤ e.age) :
    place s.epochBoundary .taken = expired (aged (place s .taken)) ∨
    ∃ q ∈ s.prk.query, ∃ c ∈ q.best, q.countdown ≤ 1 ∧ ∃ x, place x .taken = expired (aged (place s .taken)) ∧
      place s.epochBoundary .taken = place (x.enqueue (.taken q.busId c.bay)) .taken := by
  obtain ⟨-, hlnk, -⟩ := opened_frame s
  have hlinked : place (opened s).lnkBoundary .taken = expired (aged (place s .taken)) := by
    rw [place_lnkBoundary_expired (by rwa [hlnk]), place_of_lnk hlnk]
  have hlast : place s.epochBoundary .taken = place (opened s).lnkBoundary.sessionAndPark .taken := by
    rw [epochBoundary_stages hend]
    exact place_of_lnk (by simp) _
  obtain ⟨u, hquery, hplace, hwindow⟩ := place_sessionAndPark_taken (opened s).lnkBoundary
  rw [hlast, hwindow, ← hlinked, ← hplace]
  obtain hsame | ⟨q, hq, c, hc, hcount, x, hx, hqueued⟩ := place_windowBoundary_taken u
  · exact .inl hsame
  · rw [hquery] at hq
    obtain ⟨p, hp, hbus, hcountdown, hbest⟩ := linked_query hq
    obtain ⟨d, hd, hbay⟩ := hbest c hc
    exact .inr ⟨p, hp, d, hd, hcountdown ▸ hcount, x, hx, by rw [hqueued, hbus, hbay]⟩

/-- A TAKEN that is not being driven is gone, but for one that a closing window queues (R23). -/
theorem taken_gone (hend : s.AtEpochEnd) (h : ∃ e ∈ s.lnk.queue, keyOf e.frame = .taken ∧ 3 ≤ e.age)
    (hquiet : s.lnk.access.drives .taken = false) {x : QEntry} (hx : x ∈ s.epochBoundary.lnk.queue) (hkey : keyOf x.frame = .taken) :
    ∃ q ∈ s.prk.query, ∃ c ∈ q.best, q.countdown ≤ 1 ∧ x = { frame := .taken q.busId c.bay, attempts := 0, age := 0 } := by
  have hmem : x ∈ (place s.epochBoundary .taken).1 := mem_keyed.mpr ⟨hx, hkey⟩
  have hnone : (place s .taken).2 = none := driving_none_iff.mpr hquiet
  have hempty : expired (aged (place s .taken)) = ([], none) := by
    unfold expired aged
    rw [hnone]
  obtain hplace | ⟨q, hq, c, hc, hcount, y, hy, hplace⟩ := epochBoundary_taken hend h
  · rw [hplace, hempty] at hmem
    cases hmem
  · refine ⟨q, hq, c, hc, hcount, ?_⟩
    rw [hempty] at hy
    rw [hplace] at hmem
    obtain hgone | halone := place_enqueue_empty (f := .taken q.busId c.bay) hy
    · rw [show place (y.enqueue (.taken q.busId c.bay)) .taken = _ from hgone] at hmem
      cases hmem
    · rw [show place (y.enqueue (.taken q.busId c.bay)) .taken = _ from halone] at hmem
      exact List.mem_singleton.mp hmem

/-- A TAKEN that is being driven stays, with what is held for its end (R21, R23, log entry 46). -/
theorem taken_held {e : QEntry} {bytes : List Byte} {held : Option Held} (hend : s.AtEpochEnd) (he : e ∈ s.lnk.queue)
    (hkey : keyOf e.frame = .taken) (hage : e.age = 3) (haccess : s.lnk.access = .sending .taken bytes held)
    (hopen : ∀ q ∈ s.prk.query, q.best = none ∨ 1 < q.countdown) :
    (∃ x ∈ s.epochBoundary.lnk.queue, x = { e with attempts := 0, age := 4 }) ∧
      s.epochBoundary.lnk.access = .sending .taken bytes (some (held.getD .remove)) := by
  have hdriven : (place s .taken).2 = some (bytes, held) := driving_iff.mpr haccess
  have hplace : place s.epochBoundary .taken = expired (aged (place s .taken)) := by
    refine (epochBoundary_taken hend ⟨e, he, hkey, hage.ge⟩).resolve_right ?_
    rintro ⟨q, hq, c, hc, hcount, -⟩
    obtain hnone | hmore := hopen q hq
    · rw [hnone] at hc
      cases hc
    · omega
  have hleft : expired (aged (place s .taken)) = ((keyed s.lnk.queue .taken).map QEntry.boundary, some (bytes, some (held.getD .remove))) := by
    unfold expired aged
    rw [hdriven]
    rfl
  rw [hleft] at hplace
  obtain ⟨hqueue, haccess'⟩ := Prod.mk.inj hplace
  refine ⟨⟨e.boundary, ?_, ?_⟩, driving_iff.mp haccess'⟩
  · have hmem : e.boundary ∈ keyed s.epochBoundary.lnk.queue .taken := by
      rw [hqueue]
      exact List.mem_map_of_mem (mem_keyed.mpr ⟨he, hkey⟩)
    exact (mem_keyed.mp hmem).1
  · have htaken : e.hasKey .taken = true := by simp [QEntry.hasKey, hkey]
    simp [QEntry.boundary, htaken, hage]

/-! ## The end of the listening period (R29) -/

/-- The state in which the listening period's end is judged. -/
theorem lnkBoundary_listens (h : s.lnk.station = .listening) :
    ∃ x : State, s.lnkBoundary = x.listeningBoundary.rechoose ∧ x.lnk.listening = s.lnk.listening ∧ x.lnk.dupBay = s.lnk.dupBay ∧
      x.lnk.streak = s.lnk.streak := by
  unfold State.lnkBoundary
  dsimp only
  generalize hx : s.setLnk { s.lnk with queue := s.lnk.queue.map QEntry.boundary } = x
  generalize hy : (if x.lnk.queue.any QEntry.isExpired then x.expireTaken else x) = y
  have hkept : y.lnk.station = .listening ∧ y.lnk.listening = s.lnk.listening ∧ y.lnk.dupBay = s.lnk.dupBay ∧
      y.lnk.streak = s.lnk.streak := by
    rw [← hy, ← hx]
    split <;> simp [h]
  obtain ⟨hstation, hfigures⟩ := hkept
  rw [hstation]
  exact ⟨y, rfl, hfigures⟩

theorem listeningBoundary_ends (h : s.lnk.listening = 1) :
    s.listeningBoundary.lnk.station = (if s.lnk.dupBay then .isolated else .active) ∧ s.listeningBoundary.lnk.listening = 0 ∧
      s.listeningBoundary.lnk.streak = s.lnk.streak ∧ (s.lnk.dupBay = true → s.listeningBoundary.flagged .isolated = true) := by
  unfold State.listeningBoundary
  rw [if_pos (by omega)]
  dsimp only
  by_cases hdup : s.lnk.dupBay = true
  · rw [if_pos (by exact hdup), if_pos hdup, Isolation.enterIsolated_lnk]
    exact ⟨rfl, rfl, rfl, fun _ => by simp [State.enterIsolated]⟩
  · rw [if_neg (by exact hdup), if_neg hdup]
    exact ⟨rfl, rfl, rfl, fun h => absurd h hdup⟩

theorem sessionAndPark_kept {P : State → Prop} (hP : KeptByActs [] P) (h : P s) : P s.sessionAndPark :=
  sessionAndPark_preserves (P := P) (fun _ => hP.rsvCountdown (Spares.nil _)) (fun _ => hP.sessionBoundary (Spares.nil _))
    (fun _ => hP.claimAndLatch) (fun _ => hP.withdraw (Spares.nil _))
    (fun _ h => hP.holdsBoundary (Spares.nil _) (hP.waitsBoundary (hP.windowBoundary (Spares.nil _) h))) h

/-- Settles O30: the TAKEN that expires, and the station that has listened long enough. -/
theorem takenExpiryAndListeningEnd : Obligations.TakenExpiryAndListeningEnd := by
  intro s hend
  refine ⟨fun e he hkey hage honly => ?_, fun hstation hlast => ?_⟩
  · have hrow : (s.lnk.queue.any fun e => e.hasKey .taken && decide (Config.takenLife ≤ e.age + 1)) = true :=
      List.any_eq_true.mpr ⟨e, he, by simp [QEntry.hasKey, hkey, hage, Config.takenLife]⟩
    refine answers_of_boundaryWhere rfl hrow ⟨by rw [epochBoundary_clk hend], fun hquiet x hx hxkey => ?_, fun bytes held haccess hopen => ?_⟩
    · exact taken_gone hend ⟨e, he, hkey, hage.ge⟩ hquiet hx hxkey
    · obtain ⟨hstays, hheld⟩ := taken_held hend he hkey hage haccess hopen
      refine ⟨hstays, hheld.trans ?_⟩
      cases held <;> rfl
  · refine answers_of_boundaryWhere rfl (by simp [hstation, hlast]) ?_
    obtain ⟨-, hlnk, -⟩ := opened_frame s
    obtain ⟨x, hx, hlistening, hdup, hstreak⟩ := lnkBoundary_listens (s := opened s) (by rw [hlnk, hstation])
    rw [hlnk] at hlistening hdup hstreak
    obtain ⟨hends, hzero, hkept, hflag⟩ := listeningBoundary_ends (s := x) (by rw [hlistening, hlast])
    rw [hdup] at hends hflag
    have hlinked : (opened s).lnkBoundary.lnk.station = (if s.lnk.dupBay then .isolated else .active) := by
      rw [hx, ← hends]
      simp
    have hclaiming : (opened s).lnkBoundary.isClaiming = true := by
      rw [State.isClaiming, hlinked]
      split <;> rfl
    obtain ⟨l, y, hl, hy, hclaimed⟩ := ClaimStage.epochBoundary_claims hend hclaiming
    have hstages := epochBoundary_stages hend
    have hyl : y.sessionBoundary.lnk.station = (opened s).lnkBoundary.lnk.station ∧ y.sessionBoundary.clk.epoch = s.nextCount := by
      have hclk : (opened s).lnkBoundary.clk.epoch = s.nextCount := by
        rw [(State.lnkBoundary_frame _).1, (opened_frame s).1]
      rw [← hclk]
      obtain rfl | rfl := hl <;> obtain rfl | rfl := hy <;> simp
    refine ⟨?_, ?_, ?_, fun hd => ?_, _, hclaimed.last, hyl.2, ?_, hclaimed.held⟩
    · rw [hstages, ← hlinked]
      simp
    · rw [hstages, ← hzero, show x.listeningBoundary.lnk.listening = (opened s).lnkBoundary.lnk.listening by rw [hx]; simp]
      simp
    · rw [hstages, ← hstreak, ← hkept, show x.listeningBoundary.lnk.streak = (opened s).lnkBoundary.lnk.streak by rw [hx]; simp]
      simp
    · have hF := keptByActs_flagged .isolated
      have hset : (opened s).lnkBoundary.flagged .isolated = true := by
        rw [hx]
        exact hF.congr (hflag hd) (by simp) (by simp)
      rw [hstages]
      exact hF.congr (sessionAndPark_kept hF hset) (by simp) (by simp)
    · show (y.sessionBoundary.lnk.station == .isolated) = s.lnk.dupBay
      rw [hyl.1, hlinked]
      cases s.lnk.dupBay <;> rfl

end Sys2Proof.Proofs.Expiry
end

section
/-!
The claim that an epoch boundary builds, queues and latches, and the claims that it counts as missed (R22, R30, R68, R69, R73; O31).
-/
namespace Sys2Proof.Proofs.BoundaryClaim

open Sys2Proof Sys2Proof.Machine Sys2Proof.Proofs.Acts Sys2Proof.Proofs.Stages Sys2Proof.Proofs.Places Sys2Proof.Proofs.Countdown

variable {s t u y : State}

/-! ## Missed claims (R22, R30) -/

/-- The link's boundary of a station that claims, up to its new claim. -/
theorem lnkBoundary_claims (h : s.lnk.station = .active ∨ s.lnk.station = .isolated) :
    ∃ x : State, s.lnkBoundary = x.claimBoundary.rechoose ∧ x.lnk.station = s.lnk.station ∧ x.lnk.streak = s.lnk.streak ∧
      place x .claim = aged (place s .claim) := by
  unfold State.lnkBoundary
  dsimp only
  rw [← place_aged]
  generalize hx : s.setLnk { s.lnk with queue := s.lnk.queue.map QEntry.boundary } = x
  generalize hy : (if x.lnk.queue.any QEntry.isExpired then x.expireTaken else x) = y
  have hkept : y.lnk.station = s.lnk.station ∧ y.lnk.streak = s.lnk.streak ∧ place y .claim = place x .claim := by
    rw [← hy]
    split
    · exact ⟨by simp [← hx], by simp [← hx], place_expireTaken_other (k := .claim) x nofun⟩
    · exact ⟨by simp [← hx], by simp [← hx], rfl⟩
  obtain ⟨hstation, hfigures⟩ := hkept
  refine ⟨y, ?_, hstation, hfigures⟩
  rw [hstation]
  obtain h | h := h <;> rw [h]

/-- A claim that the next boundary counts as missed, by its place. -/
def Misses (p : List QEntry × Option (List Byte × Option Held)) : Prop :=
  (p.1 ≠ [] ∧ p.2 = none) ∨ ∃ bytes f, p.2 = some (bytes, some (.replace f))

theorem misses_iff : Misses (place s .claim) ↔ ((∃ e ∈ s.lnk.queue, keyOf e.frame = .claim) ∧ s.lnk.access.drives .claim = false) ∨
    ∃ bytes f, s.lnk.access = .sending .claim bytes (some (.replace f)) := by
  have hqueue : keyed s.lnk.queue .claim ≠ [] ↔ ∃ e ∈ s.lnk.queue, keyOf e.frame = .claim := by
    simp [keyed]
  unfold Misses place
  simp only [hqueue, driving_none_iff, driving_iff]

theorem misses_aged (p : List QEntry × Option (List Byte × Option Held)) : Misses (aged p) ↔ Misses p := by
  simp [Misses, aged]

/-- The claim of the last epoch counts as missed where it was still unsent (log entry 17). -/
theorem claimBoundary_misses (s : State) :
    (Misses (place s .claim) → ∃ x : State, s.claimBoundary = x.missEpoch ∧ x.lnk.streak = s.lnk.streak ∧ x.lnk.station = s.lnk.station) ∧
    (¬Misses (place s .claim) → s.claimBoundary = s) := by
  rw [misses_iff]
  obtain ⟨e, hreplaces, hrest⟩ | ⟨e, hreplaces⟩ | ⟨e, hdrives, hany⟩ := s.claimBoundary_cases
  · refine ⟨fun hmisses => ?_, fun _ => e⟩
    obtain ⟨⟨x, hx, hkey⟩, hquiet⟩ | ⟨bytes, f, haccess⟩ := hmisses
    · obtain hd | hnone := hrest
      · rw [hd] at hquiet
        cases hquiet
      · exact absurd (List.any_eq_false.mp hnone x hx) (by simp [QEntry.hasKey, hkey])
    · rw [haccess] at hreplaces
      cases hreplaces
  · refine ⟨fun _ => ⟨s, e, rfl, rfl⟩, fun hno => absurd (.inr ?_) hno⟩
    obtain ⟨bytes, f, haccess⟩ := Access.replaces_iff.mp hreplaces
    exact ⟨bytes, f, haccess⟩
  · refine ⟨fun _ => ⟨s.dequeue .claim, e, by simp, by simp⟩, fun hno => absurd (.inl ⟨?_, hdrives⟩) hno⟩
    obtain ⟨x, hx, hkey⟩ := List.any_eq_true.mp hany
    exact ⟨x, hx, by simpa [QEntry.hasKey] using hkey⟩

/-- The streak and the station state after the link's boundary of a station that claims (R30, R31). -/
theorem lnkBoundary_streak (h : s.lnk.station = .active ∨ s.lnk.station = .isolated) :
    (Misses (place s .claim) → s.lnkBoundary.lnk.streak = min 8 (s.lnk.streak + 1) ∧ s.lnkBoundary.lnk.station =
      if s.lnk.station = .active ∧ 7 ≤ s.lnk.streak then .isolated else s.lnk.station) ∧
    (¬Misses (place s .claim) → s.lnkBoundary.lnk.streak = s.lnk.streak ∧ s.lnkBoundary.lnk.station = s.lnk.station) := by
  obtain ⟨x, hx, hstation, hstreak, hplace⟩ := lnkBoundary_claims h
  obtain ⟨hmissed, hkept⟩ := claimBoundary_misses x
  rw [hplace, misses_aged] at hmissed hkept
  have hlnk : s.lnkBoundary.lnk.streak = x.claimBoundary.lnk.streak ∧ s.lnkBoundary.lnk.station = x.claimBoundary.lnk.station := by
    rw [hx]
    simp
  rw [hlnk.1, hlnk.2]
  refine ⟨fun hmisses => ?_, fun hno => ?_⟩
  · obtain ⟨z, hz, hzstreak, hzstation⟩ := hmissed hmisses
    rw [hz, Isolation.missEpoch_lnk, hzstreak, hzstation, hstreak, hstation]
    exact ⟨rfl, rfl⟩
  · rw [hkept hno]
    exact ⟨hstreak, hstation⟩

/-! ## Attempt counts (R22) -/

/-- Every frame of the queue has its attempts before it. -/
def Unattempted (s : State) : Prop := ∀ e ∈ s.lnk.queue, e.attempts = 0

theorem Unattempted.congr (h : Unattempted s) (hq : t.lnk.queue = s.lnk.queue) : Unattempted t := by
  unfold Unattempted
  rwa [hq]

theorem Unattempted.removeAt (h : Unattempted s) (k : FrameKey) (hq : t.lnk.queue = removeAt s.lnk.queue k) : Unattempted t := by
  unfold Unattempted
  rw [hq]
  exact fun e he => h e (List.mem_of_mem_filter he)

theorem Unattempted.dequeue (h : Unattempted s) (k : FrameKey) : Unattempted (s.dequeue k) := by
  unfold State.dequeue
  split
  · split
    · exact h.congr rfl
    · exact h.removeAt k rfl
  · exact h.removeAt k (by simp)

theorem Unattempted.enqueue (h : Unattempted s) (f : Frame) : Unattempted (s.enqueue f) := by
  have hreplace (k : FrameKey) : ∀ e ∈ replaceAt s.lnk.queue k f, e.attempts = 0 := by
    intro e he
    obtain ⟨x, hx, rfl⟩ := List.mem_map.mp he
    split
    · rfl
    · exact h x hx
  have happend : ∀ e ∈ s.lnk.queue ++ [freshEntry f], e.attempts = 0 := by
    intro e he
    obtain he | he := List.mem_append.mp he
    · exact h e he
    · rw [List.mem_singleton.mp he]
      rfl
  have hchanged (x : State) (k : FrameKey) (hx : Unattempted x) : Unattempted (x.queueChanged k) := hx.congr (by simp)
  unfold State.enqueue
  dsimp only
  split
  · exact h
  · split
    · split
      · exact h.congr rfl
      · split
        · exact hreplace _
        · exact happend
    · split
      · exact hchanged _ _ (hreplace _)
      · exact hchanged _ _ happend

theorem Unattempted.foldl {α : Type} {g : State → α → State} (hstep : ∀ (t : State) (x : α), Unattempted t → Unattempted (g t x))
    (xs : List α) (h : Unattempted s) : Unattempted (xs.foldl g s) := by
  induction xs generalizing s with
  | nil => exact h
  | cons x xs ih => exact ih (hstep s x h)

theorem Unattempted.endWindow (h : Unattempted s) (w : WindowFigures) : Unattempted (s.endWindow w) :=
  Unattempted.dequeue (s := s.setPrk { s.prk with query := none, idle := w }) h .query

theorem Unattempted.windowBoundary (h : Unattempted s) : Unattempted s.windowBoundary := by
  unfold State.windowBoundary
  split
  · exact h
  · split
    · split
      · rename_i q _ _ _ c _
        exact Unattempted.congr (Unattempted.enqueue (s := (s.endWindow q.closed).modSes fun v => v.restored c.ctx .restored)
          ((h.endWindow q.closed).congr (by simp)) _) (congrArg Lnk.queue (closeRestored_lnk s _ _))
      · exact (h.endWindow _).congr (congrArg Lnk.queue (closeCold_lnk s _))
    · exact h

theorem Unattempted.dropOffer (h : Unattempted s) (e : ParkEntry) : Unattempted (s.dropOffer e) := by
  unfold State.dropOffer
  split
  · exact h.dequeue _
  · exact h

theorem Unattempted.prkBoundary (h : Unattempted s) : Unattempted s.prkBoundary := by
  have hwaits : Unattempted s.windowBoundary.waitsBoundary :=
    Unattempted.foldl (fun t e ht => ht.dequeue _) _ (h.windowBoundary.congr rfl)
  refine Unattempted.foldl (fun t e ht => ?_) _ (hwaits.congr rfl)
  exact (ht.dropOffer e).congr (by simp [State.expireContext])

theorem Unattempted.sendEvent (h : Unattempted s) (d r : Nat) : Unattempted (s.sendEvent d r) := by
  rw [OwnEvents.sendEvent_eq]
  have hnumbered : Unattempted (OwnEvents.numbered s d r) :=
    Unattempted.enqueue (s := s.setRsv { s.rsv with ownSeq := (s.rsv.ownSeq + 1) % 256, refresh := 5 }) h _
  exact hnumbered.congr (by simp)

theorem Unattempted.rsvCountdown (h : Unattempted s) : Unattempted s.rsvCountdown := by
  unfold State.rsvCountdown State.refreshBoundary
  split
  · exact h
  · dsimp only
    split
    · exact h.congr (by simp)
    · split
      · split
        · exact Unattempted.sendEvent (s := s.setRsv { s.rsv with remaining := s.rsv.remaining - 1 }) h _ _
        · exact h
      · exact h

theorem Unattempted.claimAndLatch (h : Unattempted s) : Unattempted s.claimAndLatch := by
  unfold State.claimAndLatch
  dsimp only
  split
  · have hqueued := Unattempted.enqueue (s := s.setLastClaim (some { claim := s.buildClaim, epoch := s.clk.epoch })) h (.claim s.buildClaim)
    split
    · exact hqueued
    · exact hqueued.congr (by simp)
  · exact h

/-- LNK's boundary clears every attempt count (R22). -/
theorem unattempted_lnkBoundary (s : State) : Unattempted s.lnkBoundary := by
  unfold State.lnkBoundary
  dsimp only
  have hcleared : Unattempted (s.setLnk { s.lnk with queue := s.lnk.queue.map QEntry.boundary }) := by
    intro e he
    obtain ⟨x, -, rfl⟩ := List.mem_map.mp he
    rfl
  generalize s.setLnk { s.lnk with queue := s.lnk.queue.map QEntry.boundary } = x at hcleared
  have hexpired : Unattempted (if x.lnk.queue.any QEntry.isExpired then x.expireTaken else x) := by
    split
    · unfold State.expireTaken
      split
      · exact hcleared
      · exact hcleared.dequeue _
    · exact hcleared
  generalize (if x.lnk.queue.any QEntry.isExpired then x.expireTaken else x) = y at hexpired
  have hclaims : Unattempted y.claimBoundary := by
    obtain ⟨e, -⟩ | ⟨e, -⟩ | ⟨e, -⟩ := y.claimBoundary_cases <;> rw [e]
    · exact hexpired
    · exact hexpired.congr (by simp)
    · exact (hexpired.dequeue .claim).congr (by simp)
  have hlistens : Unattempted y.listeningBoundary := hexpired.congr (by
    unfold State.listeningBoundary
    split
    · dsimp only
      split
      · rw [Isolation.enterIsolated_lnk]
        rfl
      · rfl
    · rfl)
  have hchosen (z : State) (hz : Unattempted z) : Unattempted z.rechoose := hz.congr (by simp)
  apply hchosen
  split
  · exact hexpired
  · exact hlistens
  · exact hclaims
  · exact hclaims

theorem epochBoundary_unattempted (hend : s.AtEpochEnd) : Unattempted s.epochBoundary := by
  rw [epochBoundary_stages hend]
  refine Unattempted.congr (s := (opened s).lnkBoundary.sessionAndPark) ?_ (by simp)
  exact Boundary.sessionAndPark_preserves (P := Unattempted) (fun _ h => h.rsvCountdown) (fun _ h => h.congr (by simp))
    (fun _ h => h.claimAndLatch) (fun _ h => h.congr (by simp)) (fun _ h => h.prkBoundary) (unattempted_lnkBoundary _)

/-! ## The boundary around the claim -/

/-- What a boundary leaves after its link part where no window is about to close. -/
theorem epochBoundary_after (hend : s.AtEpochEnd) (hopen : ∀ q ∈ s.prk.query, 1 < q.countdown) :
    s.epochBoundary.ptb = (opened s).lnkBoundary.ptb ∧ s.epochBoundary.cfg = s.cfg ∧
      s.epochBoundary.lnk.station = (opened s).lnkBoundary.lnk.station ∧
      s.epochBoundary.lnk.streak = (opened s).lnkBoundary.lnk.streak ∧
      s.epochBoundary.ses = (opened s).lnkBoundary.sessionBoundary.ses ∧
      s.epochBoundary.alt = (opened s).lnkBoundary.reserveAndSession.alt := by
  have hcfg : (opened s).lnkBoundary.cfg = s.cfg := (EventBoundary.linked_around s).cfg
  rw [epochBoundary_stages hend, sessionAndPark_of_open (linked_open hopen), ← hcfg, ← SessionStage.reserveAndSession_ses]
  have hstill : ∀ q ∈ (opened s).lnkBoundary.reserveAndSession.prk.query, 1 < q.countdown := by
    simpa using linked_open hopen
  obtain ⟨p, hp⟩ := EventBoundary.windowBoundary_of_open hstill
  have hpark : (opened s).lnkBoundary.reserveAndSession.prkBoundary.ptb = (opened s).lnkBoundary.ptb ∧
      (opened s).lnkBoundary.reserveAndSession.prkBoundary.ses = (opened s).lnkBoundary.reserveAndSession.ses ∧
      (opened s).lnkBoundary.reserveAndSession.prkBoundary.alt = (opened s).lnkBoundary.reserveAndSession.alt := by
    unfold State.prkBoundary
    rw [hp]
    simp
  obtain ⟨hptb, hses, halt⟩ := hpark
  exact ⟨by simpa using hptb, by simp, by simp, by simp, by simpa using hses, by simpa using halt⟩

/-- The moment at which the claim is built, after the session was made ready. -/
structure Ready (s z : State) : Prop where
  epoch : z.clk.epoch = s.nextCount
  cfg : z.cfg = s.cfg
  station : z.lnk.station = (opened s).lnkBoundary.lnk.station
  ptb : z.ptb = (opened s).lnkBoundary.ptb
  measured : z.stg.measured = s.stg.measured
  grant : z.alt.grant = (opened s).lnkBoundary.alt.grant
  query : z.prk.query.isSome = s.prk.query.isSome
  ses : z.ses = (opened s).lnkBoundary.sessionBoundary.ses

theorem ready_of (hy : y = (opened s).lnkBoundary ∨ y = (opened s).lnkBoundary.rsvCountdown) : Ready s y.sessionBoundary := by
  have hclk : (opened s).lnkBoundary.clk.epoch = s.nextCount := by rw [(State.lnkBoundary_frame _).1, (opened_frame s).1]
  have hcfg : (opened s).lnkBoundary.cfg = s.cfg := (EventBoundary.linked_around s).cfg
  have hmeasured : (opened s).lnkBoundary.stg.measured = s.stg.measured := by
    have hrolled := (rolledIf_frame (s.clk.epoch == 43199) (dated s)).2.2.2.2.1
    simp [opened, State.ptbBoundary, hrolled]
    rfl
  have hquery : (opened s).lnkBoundary.prk.query.isSome = s.prk.query.isSome := by
    rw [(State.lnkBoundary_frame _).2.2.2.2.2.1, opened_prk, Option.isSome_map]
  obtain rfl | rfl := hy
  · exact ⟨by simpa using hclk, by simpa using hcfg, by simp, by simp, by simpa using hmeasured, by simp, by simpa using hquery, rfl⟩
  · exact ⟨by simpa using hclk, by simpa using hcfg, by simp, by simp, by simpa using hmeasured, by simp, by simpa using hquery,
      SessionStage.sessionBoundary_ses_congr (by simp) (by simp) (by simp) (by simp) (by simp)⟩

/-! ## What the claim says (R69) -/

theorem sessionBoundary_liveBus (s : State) : (opened s).lnkBoundary.sessionBoundary.ses.map Session.busId = s.ses.map Session.busId := by
  have hbus : ParkTable.liveBus? (opened s).lnkBoundary.sessionBoundary = ParkTable.liveBus? (opened s).lnkBoundary := ParkTable.liveBus_sessionBoundary _
  have hlinked : (opened s).lnkBoundary.ses.map Session.busId = s.ses.map Session.busId := by
    rw [(State.lnkBoundary_frame _).2.2.1, opened_ses, Option.map_map]
    congr 1
    funext v
    simp only [Function.comp_apply]
    split <;> rfl
  exact hbus.trans hlinked

theorem fairShare_congr (hptb : t.ptb = s.ptb) (hcfg : t.cfg = s.cfg) : t.fairShare = s.fairShare ∧ t.lEff = s.lEff := by
  have hleff : t.lEff = s.lEff := by rw [State.lEff, State.lEff, State.ownService, State.ownService, hptb, hcfg]
  exact ⟨by rw [State.fairShare, State.fairShare, hleff, State.bayCount, State.bayCount, hcfg], hleff⟩

/-- What the claim says of a session, from the session that stands at the boundary's end. -/
theorem buildClaim_session {z : State} {w : Session} (hw : z.ses = some w) :
    z.buildClaim.dep = (w.chain.legs[w.chain.cursor]?).map Leg.dep ∧ z.buildClaim.late = w.late ∧ z.buildClaim.atRisk = w.atRisk ∧
      (z.prk.query.isSome = true → (z.buildClaim.need, z.buildClaim.ask, z.buildClaim.pledge) = (0, 0, 0)) ∧
      (z.prk.query.isSome = false →
        z.buildClaim.ask = (if z.lnk.station = .isolated then min w.ask z.fairShare else w.ask) ∧
        z.buildClaim.need = (if z.lnk.station = .isolated then min w.need z.buildClaim.ask else w.need) ∧
        z.buildClaim.pledge = if z.rsv.active then (if z.rsv.standing = some .member then z.rsv.ownPledge else 0) else w.pledge) := by
  have hpending : z.isPending = z.prk.query.isSome := by simp [State.isPending, hw]
  have hneed : z.buildClaim.need = z.claimNeed w := by simp [State.buildClaim, hw]
  have hask : z.buildClaim.ask = z.claimAsk w := by simp [State.buildClaim, hw]
  have hpledge : z.buildClaim.pledge = z.claimPledge w := by simp [State.buildClaim, hw]
  have hdep : z.buildClaim.dep = (w.chain.legs[w.chain.cursor]?).map Leg.dep := by
    have haim : z.buildClaim.dep = w.aim.2 := by simp [State.buildClaim, hw]
    rw [haim, Session.aim, Chain.cursorLeg]
    cases w.chain.legs[w.chain.cursor]? <;> rfl
  refine ⟨hdep, by simp [State.buildClaim, hw], by simp [State.buildClaim, hw], fun hopen => ?_, fun hclosed => ?_⟩
  · rw [hneed, hask, hpledge, State.claimNeed, State.claimAsk, State.claimPledge, hpending, hopen]
    simp
  · rw [hask, hneed, hpledge, State.claimNeed, State.claimAsk, State.claimPledge, hpending, hclosed]
    exact ⟨rfl, rfl, rfl⟩

theorem buildClaim_none {z : State} (h : z.ses = none) :
    (z.buildClaim.dep, z.buildClaim.need, z.buildClaim.ask, z.buildClaim.pledge) = (none, 0, 0, 0) ∧
      (z.buildClaim.late, z.buildClaim.atRisk) = (false, false) := by
  simp [State.buildClaim, h]

/-! ## The event at the claim's moment (log entry 13) -/

/-- The link's boundary leaves the standing of an event. -/
theorem linked_standing (s : State) : (opened s).lnkBoundary.rsv.active = s.rsv.active ∧
    (opened s).lnkBoundary.rsv.standing = s.rsv.standing ∧ (opened s).lnkBoundary.rsv.ownPledge = s.rsv.ownPledge ∧
    (opened s).lnkBoundary.alt.flight = s.alt.flight := by
  obtain ⟨-, -, -, halt, -, hrsv, -⟩ := rolledIf_frame (s.clk.epoch == 43199) (dated s)
  simp only [State.lnkBoundary_keeps, opened, State.ptbBoundary, State.reevaluate_keeps, State.setPtb_rsv, State.setPtb_alt, hrsv, halt]
  exact ⟨rfl, rfl, rfl, rfl⟩

theorem rsvCountdown_idle (h : s.rsv.active = false) : s.rsvCountdown = s := by
  unfold State.rsvCountdown
  rw [h]
  rfl

theorem countedOn_ownPledge (own : Nat) (r : Rsv) : (countedOn own r).ownPledge = r.ownPledge := by
  unfold countedOn
  split
  · split <;> rfl
  · rfl

theorem ready_event (hok : s.ReserveOk) (hactive : s.rsv.active = true) (hmore : 1 < s.rsv.remaining)
    (hy : y = (opened s).lnkBoundary ∨ y = (opened s).lnkBoundary.rsvCountdown) :
    y.rsv.active = true ∧ y.rsv.standing = s.rsv.standing ∧ y.rsv.ownPledge = s.rsv.ownPledge ∧ y.alt.flight = s.alt.flight := by
  obtain ⟨hlactive, hlstanding, hlpledge, hlflight⟩ := linked_standing s
  obtain ⟨hs, -⟩ := EventBoundary.inProgress_of_ok hok hactive
  have haround := EventBoundary.linked_around s
  have hcount := rsvCountdown_goesOn (haround.inProgress hs) ((eventOf_figures haround.event).2.2.2.1 ▸ hmore)
  obtain ⟨hstanding, -, -, hin⟩ := EventBoundary.countedOn_standing (opened s).lnkBoundary.ownBay (opened s).lnkBoundary.rsv
  obtain rfl | rfl := hy
  · exact ⟨hlactive.trans hactive, hlstanding, hlpledge, hlflight⟩
  · rw [hcount]
    exact ⟨hin.trans (hlactive.trans hactive), hstanding.trans hlstanding, (countedOn_ownPledge _ _).trans hlpledge, hlflight⟩

theorem ready_idle (hidle : s.rsv.active = false)
    (hy : y = (opened s).lnkBoundary ∨ y = (opened s).lnkBoundary.rsvCountdown) : y = (opened s).lnkBoundary ∧ y.rsv.active = false := by
  obtain ⟨hactive, -⟩ := linked_standing s
  have hsame : y = (opened s).lnkBoundary := by
    obtain rfl | rfl := hy
    · rfl
    · exact rsvCountdown_idle (hactive.trans hidle)
  exact ⟨hsame, hsame ▸ hactive.trans hidle⟩

/-! ## The computation (R73) -/

theorem withdrawalCheck_alt (s : State) : s.withdrawalCheck.alt = s.alt := by simp

/-- With the reserve unit IDLE the claim's latch is what the boundary leaves of the allotment. -/
theorem reserveAndSession_latches (hidle : s.rsv.active = false) (hclaiming : s.isClaiming = true) : s.reserveAndSession.alt =
    { s.alt with flight := some { inputs := s.sessionBoundary.altInputs s.sessionBoundary.buildClaim, ticks := 0 }, discard := false } := by
  have hends : s.eventEnds = false := by simp [State.eventEnds, hidle]
  have hready : s.sessionBoundary.isClaiming = true ∧ s.sessionBoundary.rsv.active = false ∧ s.sessionBoundary.alt = s.alt :=
    ⟨(ClaimStage.isClaiming_congr (by simp)).trans hclaiming, by simpa using hidle, by simp⟩
  have hclaim : s.reserveAndClaim = s.sessionBoundary.claimAndLatch := by
    rw [State.reserveAndClaim, hends, rsvCountdown_idle hidle]
    rfl
  rw [State.reserveAndSession, withdrawalCheck_alt, hclaim, ← hready.2.2]
  generalize s.sessionBoundary = z at hready
  obtain ⟨hz, hzidle, -⟩ := hready
  unfold State.claimAndLatch
  rw [if_pos hz]
  dsimp only
  rw [if_neg (by simp [hzidle])]
  have hinputs (x : State) (hx : x.ptb = z.ptb ∧ x.cfg = z.cfg ∧ x.clk = z.clk ∧ x.alt = z.alt) : (x.altStart z.buildClaim).alt =
      { z.alt with flight := some { inputs := z.altInputs z.buildClaim, ticks := 0 }, discard := false } := by
    obtain ⟨hptb, hcfg, hclk, halt⟩ := hx
    have hlimits : x.lEff = z.lEff := (fairShare_congr hptb hcfg).2
    have hfeeders : x.fEff = z.fEff := by
      funext f
      rw [State.fEff, State.fEff, hptb, State.ownLimit, State.ownLimit, hcfg]
    simp only [State.altStart, State.setAlt_alt, State.altInputs, hlimits, hfeeders, hptb, hclk, halt, State.ownBay, State.bayCount, hcfg]
  exact hinputs _ (by simp)

/-- During an event the boundary latches nothing. -/
theorem claimAndLatch_flight (h : s.rsv.active = true) : s.claimAndLatch.alt.flight = s.alt.flight := by
  unfold State.claimAndLatch
  dsimp only
  split
  · rw [if_pos (by simpa using h)]
    simp
  · rfl

theorem epochBoundary_flight (hend : s.AtEpochEnd) (hopen : ∀ q ∈ s.prk.query, 1 < q.countdown) (hok : s.ReserveOk)
    (hactive : s.rsv.active = true) (hmore : 1 < s.rsv.remaining) : s.epochBoundary.alt.flight = s.alt.flight := by
  obtain ⟨-, -, -, -, -, halt⟩ := epochBoundary_after hend hopen
  obtain ⟨hin, -, -, hflight⟩ := ready_event hok hactive hmore (.inr rfl)
  have hends : (opened s).lnkBoundary.eventEnds = false := by
    have hleft := (eventOf_figures (EventBoundary.linked_around s).event).2.2.2.1
    rw [State.eventEnds, hleft, decide_eq_false (by omega), Bool.and_false]
  have hready : (opened s).lnkBoundary.rsvCountdown.sessionBoundary.rsv.active = true := by simpa using hin
  have hlatch := claimAndLatch_flight hready
  rw [halt, State.reserveAndSession, withdrawalCheck_alt, State.reserveAndClaim, hends]
  exact hlatch.trans (by simpa using hflight)

/-- The claim of a session at the boundary's end, in the statement's words. -/
theorem claim_of_session {z : State} (hz : Ready s z) (hend : s.AtEpochEnd) (hopen : ∀ q ∈ s.prk.query, 1 < q.countdown)
    (hses : s.ses ≠ none) : ∃ w, s.epochBoundary.ses = some w ∧
      z.buildClaim.dep = (w.chain.legs[w.chain.cursor]?).map Leg.dep ∧ z.buildClaim.late = w.late ∧ z.buildClaim.atRisk = w.atRisk ∧
      (s.prk.query ≠ none → (z.buildClaim.need, z.buildClaim.ask, z.buildClaim.pledge) = (0, 0, 0)) ∧
      (s.prk.query = none →
        z.buildClaim.ask = (if s.epochBoundary.lnk.station = .isolated then min w.ask s.epochBoundary.fairShare else w.ask) ∧
        z.buildClaim.need = (if s.epochBoundary.lnk.station = .isolated then min w.need z.buildClaim.ask else w.need) ∧
        z.buildClaim.pledge = if z.rsv.active then (if z.rsv.standing = some .member then z.rsv.ownPledge else 0) else w.pledge) := by
  obtain ⟨hptb, hcfg, hstation, -, htses, -⟩ := epochBoundary_after hend hopen
  obtain ⟨v, hv⟩ := Option.ne_none_iff_exists'.mp hses
  have hbus := sessionBoundary_liveBus s
  rw [hv, Option.map_some, Option.map_eq_some_iff] at hbus
  obtain ⟨w, hw, -⟩ := hbus
  obtain ⟨hdep, hlate, hrisk, hpending, hsettled⟩ := buildClaim_session (hz.ses.trans hw)
  have hshare := (fairShare_congr (hptb.trans hz.ptb.symm) (hcfg.trans hz.cfg.symm)).1
  rw [hz.query] at hpending hsettled
  rw [hz.station, ← hstation, ← hshare] at hsettled
  exact ⟨w, htses.trans hw, hdep, hlate, hrisk, fun hq => hpending (Option.isSome_iff_ne_none.mpr hq), fun hq => hsettled (by rw [hq]; rfl)⟩

/-- Settles O31: the claim over the boundary's figures, what it latches, and the claims missed. -/
theorem boundaryClaimsAndLatches : Obligations.BoundaryClaimsAndLatches := by
  intro s hend hopen hstation
  obtain ⟨hptb, hcfg, htstation, htstreak, htses, halt⟩ := epochBoundary_after hend hopen
  obtain ⟨-, hlnk, -⟩ := opened_frame s
  have hstreak := lnkBoundary_streak (s := opened s) (by rwa [hlnk])
  rw [place_of_lnk hlnk, hlnk, ← htstation, ← htstreak] at hstreak
  obtain ⟨hmissed, hkept⟩ := hstreak
  have hclaiming : (opened s).lnkBoundary.isClaiming = true := by
    have hstill : s.epochBoundary.lnk.station = .active ∨ s.epochBoundary.lnk.station = .isolated := by
      by_cases hm : Misses (place s .claim)
      · rw [(hmissed hm).2]
        split
        · exact .inr rfl
        · exact hstation
      · rwa [(hkept hm).2]
    rw [htstation] at hstill
    exact Setpoint.isClaiming_of_station hstill
  obtain ⟨y, hy, hclaimed⟩ := ClaimStage.epochBoundary_claims_open hend hopen hclaiming
  have hz := ready_of hy
  have hzrsv : y.sessionBoundary.rsv = y.rsv := by simp
  have hgrant : s.epochBoundary.alt.grant = (opened s).lnkBoundary.alt.grant := by
    rw [halt]
    simp
  refine ⟨_, Boundary.exec_epochBoundary s, ⟨_, hclaimed.last, hz.epoch, hclaimed.held, ?_, hz.measured, ?_, ?_, ?_, ?_, ?_, fun hnone => ?_,
    fun hses => ?_, fun hok hgoes => ?_, fun hidle => ?_⟩, ?_, fun hok hactive hmore => epochBoundary_flight hend hopen hok hactive hmore,
    epochBoundary_unattempted hend⟩
  · show (y.sessionBoundary.lnk.station == .isolated) = _
    rw [hz.station, htstation]
  · show y.sessionBoundary.ownFeeder = _
    rw [State.ownFeeder, State.ownFeeder, hz.cfg]
  · show y.sessionBoundary.ownService = _
    rw [State.ownService, State.ownService, hz.cfg]
  · show y.sessionBoundary.ownLimit y.sessionBoundary.ownFeeder = _
    rw [State.ownLimit, State.ownLimit, State.ownFeeder, State.ownFeeder, hz.cfg]
  · show y.sessionBoundary.liveBus = _
    rw [State.liveBus, State.liveBus, hz.ses, sessionBoundary_liveBus]
  · show y.sessionBoundary.alt.grant = _
    rw [hz.grant, hgrant]
  · have hgone : y.sessionBoundary.ses = none := by
      rw [hz.ses]
      exact Option.map_eq_none_iff.mp ((sessionBoundary_liveBus s).trans (by rw [hnone]; rfl))
    exact buildClaim_none hgone
  · obtain ⟨w, hw, hdep, hlate, hrisk, hpending, hsettled⟩ := claim_of_session hz hend hopen hses
    refine ⟨w, hw, hdep, hlate, hrisk, hpending, fun hq => ?_⟩
    obtain ⟨hask, hneed, hpledge⟩ := hsettled hq
    rw [hzrsv] at hpledge
    refine ⟨hask, hneed, fun hidle => ?_, fun hok hactive hmore => ?_⟩
    · rw [hpledge, (ready_idle hidle hy).2]
      rfl
    · obtain ⟨hin, hstanding, hown, -⟩ := ready_event hok hactive hmore hy
      rw [hpledge, hin, if_pos rfl, hstanding, hown]
  · show y.sessionBoundary.rsv.active = _ ∧ (y.sessionBoundary.rsv.standing == some .withdrawn) = _
    rw [hzrsv]
    by_cases hactive : s.rsv.active = true
    · obtain ⟨hin, hstanding, -⟩ := ready_event hok hactive (hgoes.resolve_left (by simp [hactive])) hy
      exact ⟨hin.trans hactive.symm, by rw [hstanding]⟩
    · have hidle := Bool.eq_false_iff.mpr hactive
      obtain ⟨rfl, hin⟩ := ready_idle hidle hy
      exact ⟨hin.trans hidle.symm, by rw [(linked_standing s).2.1]⟩
  · obtain ⟨rfl, hin⟩ := ready_idle hidle hy
    have hshare := (fairShare_congr (hptb.trans hz.ptb.symm) (hcfg.trans hz.cfg.symm)).2
    rw [halt, reserveAndSession_latches hin hclaiming]
    exact ⟨_, rfl, rfl, rfl, congrArg Ptb.entries (hz.ptb.trans hptb.symm), hz.epoch, by rw [← hz.epoch]; rfl, hshare.symm, rfl⟩
  · intro missed
    have hmisses : Misses (place s .claim) ↔ missed := misses_iff
    clear_value missed
    rw [hmisses] at hmissed hkept
    refine ⟨fun hm => (hmissed hm).1, fun hm => (hkept hm).1, fun hactive => ⟨fun ⟨hm, hseven⟩ => ?_, fun hno => ?_⟩⟩
    · rw [(hmissed hm).2, if_pos ⟨hactive, hseven⟩]
    · by_cases hm : missed
      · rw [(hmissed hm).2, if_neg (fun h => hno ⟨hm, h.2⟩), hactive]
      · rw [(hkept hm).2, hactive]

end Sys2Proof.Proofs.BoundaryClaim
end

section
/-!
The layout of numbers and command records, and the reading back of every record (R190, R193; O14).
-/
namespace Sys2Proof.Proofs.Records

open Sys2Proof

/-! ## Numbers (R190) -/

theorem unsigned_bytes (n : Nat) : u8 n = [BitVec.ofNat 8 n] ∧ u16 n = u8 (n / 256) ++ u8 n ∧ u24 n = u8 (n / 65536) ++ u16 n ∧
    u32 n = u16 (n / 65536) ++ u16 n := by
  refine ⟨rfl, rfl, ?_, ?_⟩
  · simp [u24, u16, u8, beBytes, Nat.div_div_eq_div_mul]
  · simp [u32, u16, beBytes, Nat.div_div_eq_div_mul]

theorem signed_bytes (x : Int) :
    i16 x = u16 (x % 65536).toNat ∧ i24 x = u24 (x % 16777216).toNat ∧ i32 x = u32 (x % 4294967296).toNat :=
  ⟨rfl, rfl, rfl⟩

/-! ## A record read back -/

/-- The command that a record spells is the one it was written from. -/
def ReadBack (i : Instr) : Prop := recordAt (encodeRecord i) = some i

theorem encodeRecord_of {i : Instr} {k : Nat} (hk : i.portKind = some k) : encodeRecord i = u8 k ++ i.fieldBytes := by
  simp [encodeRecord, hk]

theorem kind_encodeRecord {i : Instr} {k : Nat} (hk : i.portKind = some k) (hbyte : k < 256) : field (encodeRecord i) 0 1 = k := by
  rw [encodeRecord_of hk]
  exact field_u8 k _ hbyte

theorem decodeTransaction_encodeRecord {i : Instr} {k : Nat} (hw : i.wellFormed = true) (hk : i.portKind = some k)
    (hbyte : k < 256) (hlength : Laws.Record.Statement i) (hread : ReadBack i) (hlen : (encodeRecord i).length ≤ 256) :
    decodeTransaction (encodeRecord i) = i := by
  have hsome : (encodeRecord i).isEmpty = false := by
    rw [encodeRecord_of hk]
    simp [u8, beBytes]
  have hformat : formatOk (encodeRecord i) = true := by
    simp [formatOk, hlen, kind_encodeRecord hk hbyte, hlength hw k hk]
  rw [decodeTransaction, hsome, hformat, hread]
  rfl

/-! ## Each kind -/

variable {r : ConfigRecord}

theorem bandAt_head {b : BandCfg} (h : b.wellFormed = true) (ys : List Byte) : bandAt (b.bytes ++ ys) 0 = b := by
  simp only [BandCfg.wellFormed, fitsU, Nat.reducePow, Bool.and_eq_true, decide_eq_true_eq] at h
  obtain ⟨⟨⟨⟨⟨hlow, hhigh⟩, hresponse⟩, hdwell⟩, hrecovery⟩, henabled⟩ := h
  simp [bandAt, BandCfg.bytes, field_u8, field_u16, field_u8_skip, field_u16_skip, *]

theorem bandAt_skip (xs ys : List Byte) (a : Nat) (h : xs.length ≤ a) : bandAt (xs ++ ys) a = bandAt ys (a - xs.length) := by
  have hskip (d k : Nat) : field (xs ++ ys) (a + d) k = field ys (a - xs.length + d) k := by
    rw [field_skip xs ys _ k (by omega)]
    congr 1
    omega
  simp only [bandAt, hskip, field_skip xs ys a 2 h]

@[simp] theorem band_length (b : BandCfg) : b.bytes.length = 10 := by simp [BandCfg.bytes]

@[simp] theorem place_length (r : ConfigRecord) : r.placeBytes.length = 13 := by simp [ConfigRecord.placeBytes]

@[simp] theorem rating_length (r : ConfigRecord) : r.ratingBytes.length = 14 := by simp [ConfigRecord.ratingBytes]

theorem field_u24_mask (m : BitVec 24) : BitVec.ofNat 24 (field (u24 m.toNat) 0 3) = m := by
  rw [field_u24_last _ m.isLt, BitVec.ofNat_toNat, BitVec.setWidth_eq]

theorem configure_parts (r : ConfigRecord) : encodeRecord (.configure r) = u8 1 ++ (r.placeBytes ++ (r.ratingBytes ++
    (r.band0.bytes ++ (r.band1.bytes ++ (r.band2.bytes ++ (r.band3.bytes ++ u24 r.mask.toNat)))))) := by
  simp [encodeRecord, Instr.portKind, Instr.fieldBytes, ConfigRecord.bytes]

theorem readBack_configure (hw : (Instr.configure r).wellFormed = true) : ReadBack (.configure r) := by
  have hkind : field (encodeRecord (.configure r)) 0 1 = 1 := kind_encodeRecord rfl (by decide)
  have hread : configAt (encodeRecord (.configure r)) = r := by
    simp only [Instr.wellFormed, ConfigRecord.wellFormed, Bool.and_eq_true] at hw
    obtain ⟨⟨⟨⟨hfields, hband0⟩, hband1⟩, hband2⟩, hband3⟩ := hw
    simp only [fitsU, Nat.reducePow, decide_eq_true_eq] at hfields
    rw [configure_parts]
    simp [configAt, bandAt_skip, bandAt_head, field_u8_skip, field_skip _ _ _ 3, field_u24_mask, hband0, hband1, hband2, hband3]
    simp [ConfigRecord.placeBytes, ConfigRecord.ratingBytes, field_u8, field_u16, field_u8_skip, field_u16_skip, hfields]
  rw [ReadBack, recordAt, hkind]
  exact congrArg (some ∘ Instr.configure) hread

theorem readBack_setTime (e : Nat) (hw : (Instr.setTime e).wellFormed = true) : ReadBack (.setTime e) := by
  have hkind : field (encodeRecord (.setTime e)) 0 1 = 2 := kind_encodeRecord rfl (by decide)
  rw [ReadBack, recordAt, hkind]
  simp only [Instr.wellFormed, fitsU, Nat.reducePow, decide_eq_true_eq] at hw
  simp [encodeRecord_of (i := .setTime e) rfl, Instr.fieldBytes, field_u8_skip, field_u16_last, hw]

theorem readBack_plug (p : PlugFields) (hw : (Instr.plug p).wellFormed = true) : ReadBack (.plug p) := by
  have hkind : field (encodeRecord (.plug p)) 0 1 = 3 := kind_encodeRecord rfl (by decide)
  rw [ReadBack, recordAt, hkind]
  simp only [Instr.wellFormed, PlugFields.wellFormed, fitsU, Nat.reducePow, Bool.and_eq_true, decide_eq_true_eq] at hw
  simp [encodeRecord_of (i := .plug p) rfl, Instr.fieldBytes, field_u8, field_u16_last, field_u16, field_u32, field_u8_skip, field_u16_skip,
    field_u32_skip, hw]

theorem readBack_vehicleUpdate (a d c : Nat) (hw : (Instr.vehicleUpdate a d c).wellFormed = true) :
    ReadBack (.vehicleUpdate a d c) := by
  have hkind : field (encodeRecord (.vehicleUpdate a d c)) 0 1 = 4 := kind_encodeRecord rfl (by decide)
  rw [ReadBack, recordAt, hkind]
  simp only [Instr.wellFormed, fitsU, Nat.reducePow, Bool.and_eq_true, decide_eq_true_eq] at hw
  simp [encodeRecord_of (i := .vehicleUpdate a d c) rfl, Instr.fieldBytes, field_u16, field_u8_last, field_u8_skip, field_u16_skip, hw]

/-- A leg of a CHAIN_LOAD record is read back at its place. -/
theorem newLegAt_chainLoad {ls : List NewLeg} (hw : ∀ l ∈ ls, l.wellFormed = true) {i : Nat} {l : NewLeg} (hl : ls[i]? = some l) :
    newLegAt (encodeRecord (.chainLoad ls)) i = l := by
  have hfield (a k : Nat) (ha : a + k ≤ 6) : field (encodeRecord (.chainLoad ls)) (2 + 6 * i + a) k = field l.bytes a k := by
    have hleg := field_flatMap NewLeg.bytes 6 Laws.Record.newLeg_length ls i l hl a k ha []
    rw [List.append_nil] at hleg
    rw [← hleg, encodeRecord_of (i := .chainLoad ls) rfl, Instr.fieldBytes, field_u8_skip _ _ _ _ (by omega),
      field_u8_skip _ _ _ _ (by omega)]
    congr 1
    omega
  have hfits := hw l (List.mem_of_getElem? hl)
  simp only [NewLeg.wellFormed, fitsU, Nat.reducePow, Bool.and_eq_true, decide_eq_true_eq] at hfits
  have hday := hfield 0 1 (by omega)
  have hminute := hfield 1 2 (by omega)
  have hreq := hfield 3 3 (by omega)
  rw [NewLeg.bytes] at hday hminute hreq
  rw [newLegAt, show 3 + 6 * i = 2 + 6 * i + 1 by omega, show 5 + 6 * i = 2 + 6 * i + 3 by omega, hminute, hreq]
  simp only [Nat.add_zero] at hday
  rw [hday]
  simp [field_u8, field_u16, field_u24_last, field_u8_skip, field_u16_skip, hfits]

theorem readBack_chainLoad (ls : List NewLeg) (hw : (Instr.chainLoad ls).wellFormed = true) : ReadBack (.chainLoad ls) := by
  have hkind : field (encodeRecord (.chainLoad ls)) 0 1 = 5 := kind_encodeRecord rfl (by decide)
  simp only [Instr.wellFormed, Bool.and_eq_true, decide_eq_true_eq, List.all_eq_true] at hw
  obtain ⟨hcount, hfits⟩ := hw
  have hlegs : field (encodeRecord (.chainLoad ls)) 1 1 = ls.length := by
    rw [encodeRecord_of (i := .chainLoad ls) rfl, Instr.fieldBytes, field_u8_skip _ _ _ _ (by omega), field_u8 _ _ (by omega)]
  have hread : (List.range ls.length).map (newLegAt (encodeRecord (.chainLoad ls))) = ls := by
    refine List.ext_getElem (by simp) fun i hi hj => ?_
    rw [List.getElem_map, List.getElem_range]
    exact newLegAt_chainLoad hfits (List.getElem?_eq_getElem hj)
  rw [ReadBack, recordAt, hkind]
  simp only [hlegs, hread]

theorem readBack_dispatch (d m : Nat) (hw : (Instr.dispatch d m).wellFormed = true) : ReadBack (.dispatch d m) := by
  have hkind : field (encodeRecord (.dispatch d m)) 0 1 = 7 := kind_encodeRecord rfl (by decide)
  rw [ReadBack, recordAt, hkind]
  simp only [Instr.wellFormed, fitsU, Nat.reducePow, Bool.and_eq_true, decide_eq_true_eq] at hw
  simp [encodeRecord_of (i := .dispatch d m) rfl, Instr.fieldBytes, field_u16, field_u16_last, field_u8_skip, field_u16_skip, hw]

theorem readBack_mark (tag : BitVec 32) : ReadBack (.mark tag) := by
  have hkind : field (encodeRecord (.mark tag)) 0 1 = 8 := kind_encodeRecord rfl (by decide)
  rw [ReadBack, recordAt, hkind]
  simp [encodeRecord_of (i := .mark tag) rfl, Instr.fieldBytes, field_u8_skip, field_u32_last _ tag.isLt]

theorem readBack_releaseBank (b : Nat) (hw : (Instr.releaseBank b).wellFormed = true) : ReadBack (.releaseBank b) := by
  have hkind : field (encodeRecord (.releaseBank b)) 0 1 = 10 := kind_encodeRecord rfl (by decide)
  rw [ReadBack, recordAt, hkind]
  simp only [Instr.wellFormed, fitsU, Nat.reducePow, decide_eq_true_eq] at hw
  simp [encodeRecord_of (i := .releaseBank b) rfl, Instr.fieldBytes, field_u8_skip, field_u8_last, hw]

theorem readBack_readLog (b i : Nat) (hw : (Instr.readLog b i).wellFormed = true) : ReadBack (.readLog b i) := by
  have hkind : field (encodeRecord (.readLog b i)) 0 1 = 11 := kind_encodeRecord rfl (by decide)
  rw [ReadBack, recordAt, hkind]
  simp only [Instr.wellFormed, fitsU, Nat.reducePow, Bool.and_eq_true, decide_eq_true_eq] at hw
  simp [encodeRecord_of (i := .readLog b i) rfl, Instr.fieldBytes, field_u8, field_u8_skip, field_u8_last, hw]

theorem readBack_readPeerByIndex (x i : Nat) (hw : (Instr.readPeerByIndex x i).wellFormed = true) :
    ReadBack (.readPeerByIndex x i) := by
  have hkind : field (encodeRecord (.readPeerByIndex x i)) 0 1 = 14 := kind_encodeRecord rfl (by decide)
  rw [ReadBack, recordAt, hkind]
  simp only [Instr.wellFormed, fitsU, Nat.reducePow, Bool.and_eq_true, decide_eq_true_eq] at hw
  simp [encodeRecord_of (i := .readPeerByIndex x i) rfl, Instr.fieldBytes, field_u8, field_u8_skip, field_u8_last, hw]

theorem readBack_readPeerByBay (b : Nat) (hw : (Instr.readPeerByBay b).wellFormed = true) : ReadBack (.readPeerByBay b) := by
  have hkind : field (encodeRecord (.readPeerByBay b)) 0 1 = 14 := kind_encodeRecord rfl (by decide)
  rw [ReadBack, recordAt, hkind]
  simp only [Instr.wellFormed, fitsU, Nat.reducePow, decide_eq_true_eq] at hw
  simp [encodeRecord_of (i := .readPeerByBay b) rfl, Instr.fieldBytes, field_u8, field_u8_skip, field_u8_last, hw]

/-- A record of a set of flags. -/
theorem set_read {i : Instr} {k : Nat} {set : BitVec 24} (hk : i.portKind = some k) (hset : i.fieldBytes = u24 set.toNat) :
    BitVec.ofNat 24 (field (encodeRecord i) 1 3) = set := by
  rw [encodeRecord_of hk, hset, field_u8_skip _ _ _ _ (by omega)]
  exact field_u24_mask set

theorem readBack_clearFlags (set : BitVec 24) : ReadBack (.clearFlags set) := by
  have hkind : field (encodeRecord (.clearFlags set)) 0 1 = 17 := kind_encodeRecord rfl (by decide)
  rw [ReadBack, recordAt, hkind]
  simp only [set_read (i := .clearFlags set) rfl rfl]

theorem readBack_setNoticeMask (set : BitVec 24) : ReadBack (.setNoticeMask set) := by
  have hkind : field (encodeRecord (.setNoticeMask set)) 0 1 = 18 := kind_encodeRecord rfl (by decide)
  rw [ReadBack, recordAt, hkind]
  simp only [set_read (i := .setNoticeMask set) rfl rfl]

/-! ## Every record -/

/-- The record of a well-formed command holds at most 256 bytes: 42 legs at most stand in a CHAIN_LOAD (R176, R193). -/
theorem chainLoad_length {ls : List NewLeg} (h : ls.length ≤ 42) : (encodeRecord (.chainLoad ls)).length ≤ 256 := by
  rw [encodeRecord_of (i := .chainLoad ls) rfl, Instr.fieldBytes]
  simp only [List.length_append, u8_length, flatMap_length NewLeg.bytes 6 Laws.Record.newLeg_length]
  omega

theorem decodeTransaction_record (i : Instr) (hw : i.wellFormed = true) (hport : i.portKind.isSome = true) :
    decodeTransaction (encodeRecord i) = i := by
  cases i with
  | configure r =>
    exact decodeTransaction_encodeRecord hw rfl (by decide) (Laws.Record.configure r) (readBack_configure hw)
      (by simp [configure_parts])
  | setTime e =>
    exact decodeTransaction_encodeRecord hw rfl (by decide) (Laws.Record.setTime e) (readBack_setTime e hw)
      (by simp [encodeRecord, Instr.portKind, Instr.fieldBytes])
  | plug p =>
    exact decodeTransaction_encodeRecord hw rfl (by decide) (Laws.Record.plug p) (readBack_plug p hw)
      (by simp [encodeRecord, Instr.portKind, Instr.fieldBytes])
  | vehicleUpdate a d c =>
    exact decodeTransaction_encodeRecord hw rfl (by decide) (Laws.Record.vehicleUpdate a d c) (readBack_vehicleUpdate a d c hw)
      (by simp [encodeRecord, Instr.portKind, Instr.fieldBytes])
  | chainLoad ls =>
    have hcount : ls.length ≤ 42 := by
      simp only [Instr.wellFormed, Bool.and_eq_true, decide_eq_true_eq] at hw
      exact hw.1
    exact decodeTransaction_encodeRecord hw rfl (by decide) (Laws.Record.chainLoad ls) (readBack_chainLoad ls hw) (chainLoad_length hcount)
  | dispatch d m =>
    exact decodeTransaction_encodeRecord hw rfl (by decide) (Laws.Record.dispatch d m) (readBack_dispatch d m hw)
      (by simp [encodeRecord, Instr.portKind, Instr.fieldBytes])
  | mark tag =>
    exact decodeTransaction_encodeRecord hw rfl (by decide) (Laws.Record.mark tag) (readBack_mark tag)
      (by simp [encodeRecord, Instr.portKind, Instr.fieldBytes])
  | releaseBank b =>
    exact decodeTransaction_encodeRecord hw rfl (by decide) (Laws.Record.releaseBank b) (readBack_releaseBank b hw)
      (by simp [encodeRecord, Instr.portKind, Instr.fieldBytes])
  | readLog b i =>
    exact decodeTransaction_encodeRecord hw rfl (by decide) (Laws.Record.readLog b i) (readBack_readLog b i hw)
      (by simp [encodeRecord, Instr.portKind, Instr.fieldBytes])
  | readPeerByIndex x i =>
    exact decodeTransaction_encodeRecord hw rfl (by decide) (Laws.Record.readPeerByIndex x i) (readBack_readPeerByIndex x i hw)
      (by simp [encodeRecord, Instr.portKind, Instr.fieldBytes])
  | readPeerByBay b =>
    exact decodeTransaction_encodeRecord hw rfl (by decide) (Laws.Record.readPeerByBay b) (readBack_readPeerByBay b hw)
      (by simp [encodeRecord, Instr.portKind, Instr.fieldBytes])
  | clearFlags set =>
    exact decodeTransaction_encodeRecord hw rfl (by decide) (Laws.Record.clearFlags set) (readBack_clearFlags set)
      (by simp [encodeRecord, Instr.portKind, Instr.fieldBytes])
  | setNoticeMask set =>
    exact decodeTransaction_encodeRecord hw rfl (by decide) (Laws.Record.setNoticeMask set) (readBack_setNoticeMask set)
      (by simp [encodeRecord, Instr.portKind, Instr.fieldBytes])
  | unplug | closeBank | readStatus | readSession | snapshot | readSnapshot | clearCounters | bayReset => decide
  | _ => cases hport

/-- Settles O14: the layouts by their definitions, and the records read back kind by kind. -/
theorem commandRecordsRoundTrip : Obligations.CommandRecordsRoundTrip := by
  refine ⟨unsigned_bytes, signed_bytes, fun r => ?_, fun e => rfl, fun p => ?_, fun a d c => ?_, fun ls => ?_, fun d m => ?_, fun tag => rfl,
    fun b => rfl, fun b i => ?_, fun x i => ?_, fun b => ?_, fun set => ⟨rfl, rfl⟩, by decide, decodeTransaction_record⟩
  · simp [configure_parts, ConfigRecord.placeBytes, ConfigRecord.ratingBytes, BandCfg.bytes]
  all_goals simp [encodeRecord, Instr.portKind, Instr.fieldBytes]
  rfl

end Sys2Proof.Proofs.Records
end

section
/-!
The edges of the bay port and of RESETn, and what the format and state stages refuse (R176, R177, R179, R186, R187; O17).
-/
namespace Sys2Proof.Proofs.PortEdges

open Sys2Proof Sys2Proof.Machine Sys2Proof.Proofs.Port

variable {i : Instr} {s : State} {p : PortPins}

/-! ## Transactions -/

theorem edge_of_command (hcommand : p.command .selectRises = some i) : (p.edge s .selectRises).2 = exec i s := by
  rw [PortPins.edge, hcommand]

theorem edge_of_none {e : PortEdge} (hcommand : p.command e = none) : p.edge s e = (p.after e, .next s) := by
  rw [PortPins.edge, hcommand]

/-- A rise of chip select ends the transaction, but while power-on reset lasts (R176). -/
theorem after_selectRises (hp : p ≠ .inReset) : p.after .selectRises = .released := by
  cases p
  · exact absurd rfl hp
  all_goals rfl

theorem format_fails {bytes : List Byte} (hsome : bytes ≠ [])
    (hfails : 256 < bytes.length ∨ recordLength bytes (field bytes 0 1) ≠ some bytes.length) :
    bytes.isEmpty = false ∧ formatOk bytes = false := by
  refine ⟨by simpa using hsome, ?_⟩
  obtain hlong | hlength := hfails
  · simp [formatOk, hlong]
  · simp [formatOk, hlength]

/-- Bytes that fail the format stage spell its refusal (R179). -/
theorem decodeTransaction_refused {bytes : List Byte} (hsome : bytes ≠ [])
    (hfails : 256 < bytes.length ∨ recordLength bytes (field bytes 0 1) ≠ some bytes.length) :
    decodeTransaction bytes = .formatRefusal bytes := by
  obtain ⟨hempty, hformat⟩ := format_fails hsome hfails
  rw [decodeTransaction, hempty, hformat]
  rfl

/-- What the rise of chip select comes to after the bits of whole bytes, and of fewer than eight bits more (R176). -/
theorem transaction_edges (s : State) (bytes : List Byte) (short : List Bool) (hp : p ≠ .inReset) (hshort : short.length < 8) :
    let q := (clocked (bytes.flatMap bitsOf ++ short)).foldl PortPins.after (p.edge s .selectFalls).1
    (q.edge s .selectRises).1 = .released ∧ (q.edge s .selectRises).2 = exec (decodeTransaction bytes) s := by
  intro q
  have hq : q = .selected (bytes.flatMap bitsOf ++ short) (bytes.flatMap bitsOf ++ short).length := by
    show (clocked _).foldl PortPins.after (p.after .selectFalls) = _
    rw [p.after_selectFalls hp, PortPins.after_clocked, List.nil_append, Nat.zero_add]
  refine ⟨after_selectRises (by rw [hq]; nofun), edge_of_command ?_⟩
  exact PortPins.transaction bytes short p hshort hp

/-! ## The other edges -/

/-- Only the rise of chip select and the edges of RESETn bring a command. -/
theorem command_none (p : PortPins) {e : PortEdge} (he : e ∉ [.selectRises, .resetFalls, .resetRises]) : p.command e = none := by
  simp only [List.mem_cons, List.not_mem_nil, or_false, not_or] at he
  obtain ⟨hrises, hfalls, hends⟩ := he
  cases e with
  | selectRises => exact absurd rfl hrises
  | resetFalls => exact absurd rfl hfalls
  | resetRises => exact absurd rfl hends
  | _ => rfl

/-- With no transaction under way, no edge but a fall moves the pins or brings a command (R176). -/
theorem released_edge (s : State) {e : PortEdge} (he : e ∉ [.selectFalls, .resetFalls]) :
    PortPins.released.edge s e = (.released, .next s) := by
  simp only [List.mem_cons, List.not_mem_nil, or_false, not_or] at he
  obtain ⟨hselect, hreset⟩ := he
  cases e with
  | selectFalls => exact absurd rfl hselect
  | resetFalls => exact absurd rfl hreset
  | _ => rfl

theorem inReset_edge (s : State) {e : PortEdge} (he : e ∉ [.resetFalls, .resetRises]) :
    PortPins.inReset.edge s e = (.inReset, .next s) := by
  simp only [List.mem_cons, List.not_mem_nil, or_false, not_or] at he
  obtain ⟨hfalls, hrises⟩ := he
  obtain ⟨hstays, hcommand⟩ := PortPins.inReset_stays e hrises
  rw [edge_of_none (hcommand hfalls), hstays]

/-! ## ATTN (R186) -/

/-- The notices in the order of their bits (R184). -/
def notices : List Notice :=
  [.bankAFull, .bankBFull, .logOverflow, .eventTaken, .eventEnded, .shortfall, .withdrawn, .handoverDone, .legMissed, .atRisk, .late,
    .meterLost, .stageFault, .senseFault, .isolated, .dupBay, .dupBus, .clockUnset, .clockDisagree, .limitDisagree]

theorem notices_bits : notices.map Notice.bit = List.range 20 := by decide

/-- Every bit of the flags is a notice's. -/
theorem exists_notice {n : Nat} (h : n < 20) : ∃ x : Notice, x.bit = n := by
  have hbit : n ∈ notices.map Notice.bit := by simpa [notices_bits] using h
  obtain ⟨x, -, hx⟩ := List.mem_map.mp hbit
  exact ⟨x, hx⟩

theorem ne_zero_iff {w : Nat} (x : BitVec w) : x ≠ 0#w ↔ ∃ n < w, x.getLsbD n = true := by
  rw [not_iff_comm]
  constructor
  · intro hnone
    refine BitVec.eq_of_getLsbD_eq fun n hn => ?_
    rw [BitVec.getLsbD_zero]
    exact Bool.eq_false_iff.mpr fun hset => hnone ⟨n, hn, hset⟩
  · rintro rfl ⟨n, -, hset⟩
    simp at hset

theorem attn_iff (hp : p ≠ .inReset) : p.attn s = true ↔ ∃ n : Notice, s.flagged n = true ∧ s.prt.mask.getLsbD n.bit = true := by
  have hpin : p.attn s = s.attn := by simp [PortPins.attn, hp]
  rw [hpin, State.attn, decide_eq_true_eq, ne_zero_iff]
  simp only [BitVec.getLsbD_and, Bool.and_eq_true, State.flagged]
  constructor
  · rintro ⟨n, hn, hset⟩
    obtain ⟨x, rfl⟩ := exists_notice hn
    exact ⟨x, hset⟩
  · rintro ⟨x, hflag, hmask⟩
    exact ⟨x.bit, BitVec.lt_of_getLsbD hflag, hflag, hmask⟩

/-! ## Refusals -/

/-- A command whose state stage fails is refused with STATE (R179). -/
theorem refused_where {kind : Nat} {stateOk : Bool} {fail : Option Nat} {effect : State → State} {payload : State → List Byte}
    (h : exec i s = .next (s.command kind stateOk fail effect payload)) (hstate : stateOk = false) :
    Refused i s kind .state s.statePayload := by
  subst hstate
  exact refused_of_state h

theorem refused_of_format {bytes : List Byte} (hsome : bytes ≠ [])
    (hfails : 256 < bytes.length ∨ recordLength bytes (field bytes 0 1) ≠ some bytes.length) (s : State) :
    Refused (.formatRefusal bytes) s (field bytes 0 1) .format (formatPayload bytes) := by
  obtain ⟨hempty, hformat⟩ := format_fails hsome hfails
  have hrefuses : exec (.formatRefusal bytes) s =
      .next (if bytes.isEmpty || formatOk bytes then s else s.refuseFormat bytes) := rfl
  rw [hempty, hformat] at hrefuses
  exact hrefuses

theorem unconfigured_of (h : s.lnk.station = .unconfigured) : s.isConfigured = false := by simp [State.isConfigured, h]

theorem statePayload_eq (s : State) : s.statePayload = u8 (if s.ses = none then 0 else if s.prk.query = none then 2 else 1) ++
    u8 s.log.a.state.code ++ u8 s.log.b.state.code := by
  have hpresence : s.presenceCode = if s.ses = none then 0 else if s.prk.query = none then 2 else 1 := by
    rw [State.presenceCode, State.isPending]
    cases hses : s.ses with
    | none => simp
    | some v => cases hquery : s.prk.query <;> simp
  rw [State.statePayload, hpresence]

/-- Settles O17: the transactions and the edges at the pins, ATTN and data out, and the two refusals. -/
theorem formatAndStateRefusals : Obligations.FormatAndStateRefusals := by
  refine ⟨fun p s bytes short hp hshort => ?_, fun p s e => ?_, fun p s bits hp => ?_, fun s => rfl, fun bytes s hsome hfails => refused_of_format hsome hfails s, fun s => ?_⟩
  · obtain ⟨hends, hbrings⟩ := transaction_edges s bytes short hp hshort
    refine ⟨hends, fun hnone => ?_, fun i hw hport hrecord => ?_, fun hsome hfails => ?_⟩
    · subst hnone
      exact hbrings
    · rw [hrecord, Records.decodeTransaction_record i hw hport] at hbrings
      rwa [hrecord]
    · rw [decodeTransaction_refused hsome hfails] at hbrings
      exact hbrings
  · exact ⟨fun he => by rw [edge_of_none (command_none p he)], released_edge s, rfl, rfl, inReset_edge s, rfl, by simp [PortPins.attn],
      attn_iff, rfl⟩
  · obtain ⟨hout, -⟩ := PortPins.dataOut_clocked bits p s hp
    exact hout
  · refine ⟨statePayload_eq s, fun hset r => refused_where rfl (by simp [State.isConfigured, hset]), fun hstate p => refused_where rfl ?_,
      fun hnone => ⟨fun a d c => refused_where rfl (by simp [hnone]), refused_where rfl (by simp [hnone])⟩,
      fun hstate ls => refused_where rfl ?_, fun hunset d m => refused_where rfl (unconfigured_of hunset)⟩
    · obtain hunset | hlive := hstate
      · simp [unconfigured_of hunset]
      · simp [Option.isSome_iff_ne_none.mpr hlive]
    · obtain hnone | hopen := hstate
      · simp [State.isSettled, hnone]
      · simp [State.isSettled, Option.isSome_iff_ne_none.mpr hopen]

end Sys2Proof.Proofs.PortEdges
end

section
/-!
The layout and reading back of frames and MEASURE records, and their bits on a line at rest (R15, R191, R192; O15).
-/
namespace Sys2Proof.Proofs.FrameBytes

open Sys2Proof Sys2Proof.Machine

variable {bay epoch : Nat}

/-! ## Layout (R191) -/

theorem flagBits_claim (a b c d e : Bool) :
    flagBits [a, b, c, d, e] = a.toNat + 2 * b.toNat + 4 * c.toNat + 8 * d.toNat + 16 * e.toNat := by
  revert a b c d e
  decide

theorem flagBits_measure (a b : Bool) : flagBits [a, b] = a.toNat + 2 * b.toNat := by
  revert a b
  decide

theorem claim_payload (bay epoch : Nat) (c : Claim) : Frame.payload bay epoch (.claim c) =
    u16 epoch ++ u8 c.feeder ++ u8 c.busId ++ i24 (c.dep.getD 8388607) ++ u16 c.need ++ u16 c.ask ++ u16 c.pledge ++ i16 c.drawn ++
      u16 c.grant ++ u16 c.serviceLimit ++ u16 c.feederLimit ++
      u8 (c.late.toNat + 2 * c.atRisk.toNat + 4 * c.withdrawn.toNat + 8 * c.isolated.toNat + 16 * c.inEvent.toNat) := by
  simp only [Frame.payload, Claim.bytes, flagBits_claim, List.append_assoc]
  rfl

/-! ## The checks of R15 -/

/-- Bytes of at least five are those of a kind, a sender, a length, a payload and two bytes more. -/
theorem frame_parts {bytes : List Byte} (h : 5 ≤ bytes.length) : ∃ (kind bay len c1 c2 : Byte) (payload : List Byte),
    bytes = kind :: bay :: len :: (payload ++ [c1, c2]) := by
  match bytes, h with
  | kind :: bay :: len :: rest, h =>
    have hrest : 2 ≤ rest.length := by simpa using h
    obtain ⟨c1, c2, hlast⟩ := List.length_eq_two.mp (show (rest.drop (rest.length - 2)).length = 2 by simp; omega)
    exact ⟨kind, bay, len, c1, c2, rest.take (rest.length - 2), by rw [← hlast, List.take_append_drop]⟩

theorem field_byte {bs : List Byte} {a : Nat} {b : Byte} (h : bs[a]? = some b) : field bs a 1 = b.toNat := by
  obtain ⟨hlt, hb⟩ := List.getElem?_eq_some_iff.mp h
  rw [field, List.drop_eq_getElem_cons hlt, hb]
  simp [beNat]

variable {kind bayByte len c1 c2 : Byte} {payload : List Byte}

/-- The two bytes of the CRC, and what it covers. -/
theorem crc_parts : field (kind :: bayByte :: len :: (payload ++ [c1, c2])) (payload.length + 3) 2 = c1.toNat * 256 + c2.toNat ∧
    (kind :: bayByte :: len :: (payload ++ [c1, c2])).take (payload.length + 3) = kind :: bayByte :: len :: payload := by
  constructor
  · simp [field, beNat]
  · simp

/-- The payload length that chapter 11 gives the kind (R15). -/
def KindFits (kind : Byte) (payload : List Byte) : Prop :=
  (kind.toNat, payload.length) ∈ [(1, 22), (2, 6), (3, 1), (5, 2)] ∨
    (kind.toNat = 4 ∧ ∃ legs, payload[16]? = some legs ∧ payload.length = 31 + 7 * legs.toNat)

theorem payloadLength_iff : payloadLength (kind :: bayByte :: len :: (payload ++ [c1, c2])) kind.toNat = some payload.length ↔
    KindFits kind payload := by
  have hlegs {legs : Byte} (h : payload[16]? = some legs) :
      field (kind :: bayByte :: len :: (payload ++ [c1, c2])) 19 1 = legs.toNat := by
    obtain ⟨hlt, -⟩ := List.getElem?_eq_some_iff.mp h
    refine field_byte ?_
    show (payload ++ [c1, c2])[16]? = some legs
    rw [List.getElem?_append_left hlt, h]
  unfold KindFits
  generalize kind.toNat = n
  match n with
  | 0 => simp [payloadLength]
  | 1 => simp [payloadLength, eq_comm]
  | 2 => simp [payloadLength, eq_comm]
  | 3 => simp [payloadLength, eq_comm]
  | 5 => simp [payloadLength, eq_comm]
  | n + 6 => simp [payloadLength]
  | 4 =>
    simp only [payloadLength, Option.some.injEq, List.mem_cons, Prod.mk.injEq, List.not_mem_nil, true_and, or_false]
    constructor
    · intro hlength
      have hlt : 16 < payload.length := by omega
      rw [hlegs (List.getElem?_eq_getElem hlt)] at hlength
      exact .inr ⟨_, List.getElem?_eq_getElem hlt, hlength.symm⟩
    · rintro (hother | ⟨legs, hat, hlength⟩)
      · omega
      · rw [hlegs hat, hlength]

theorem structureOk_iff {whole : Bool} : structureOk (kind :: bayByte :: len :: (payload ++ [c1, c2])) whole = true ↔
    whole = true ∧ len.toNat = payload.length ∧ payload.length ≤ 96 ∧ (1 ≤ bayByte.toNat ∧ bayByte.toNat ≤ 64) ∧
      (crc16 (kind :: bayByte :: len :: payload)).toNat = c1.toNat * 256 + c2.toNat ∧ KindFits kind payload := by
  have hkind : field (kind :: bayByte :: len :: (payload ++ [c1, c2])) 0 1 = kind.toNat := field_byte rfl
  have hbay : field (kind :: bayByte :: len :: (payload ++ [c1, c2])) 1 1 = bayByte.toNat := field_byte rfl
  have hlen : field (kind :: bayByte :: len :: (payload ++ [c1, c2])) 2 1 = len.toNat := field_byte rfl
  have hlength : (kind :: bayByte :: len :: (payload ++ [c1, c2])).length = payload.length + 5 := by simp
  obtain ⟨hcrc, hcovers⟩ := crc_parts (kind := kind) (bayByte := bayByte) (len := len) (payload := payload) (c1 := c1) (c2 := c2)
  rw [structureOk, hlength, hkind, hbay, hlen, show payload.length + 5 - 2 = payload.length + 3 by omega, hcrc, hcovers]
  simp only [Bool.and_eq_true, decide_eq_true_eq, ← payloadLength_iff (bayByte := bayByte) (len := len) (c1 := c1) (c2 := c2)]
  constructor
  · rintro ⟨⟨⟨⟨⟨⟨hwhole, -⟩, hmax⟩, hcount⟩, hsum⟩, hfits⟩, hbays⟩
    have hsame : len.toNat = payload.length := by omega
    exact ⟨hwhole, hsame, hsame ▸ hmax, hbays, hsum.symm, hsame ▸ hfits⟩
  · rintro ⟨hwhole, hsame, hmax, hbays, hsum, hfits⟩
    rw [hsame]
    exact ⟨⟨⟨⟨⟨⟨hwhole, by omega⟩, hmax⟩, rfl⟩, hsum.symm⟩, hfits⟩, hbays⟩

theorem frameAt_isSome (hfits : KindFits kind payload) : (frameAt (kind :: bayByte :: len :: (payload ++ [c1, c2]))).isSome = true := by
  have hkind : field (kind :: bayByte :: len :: (payload ++ [c1, c2])) 0 1 = kind.toNat := field_byte rfl
  rw [frameAt, hkind]
  obtain hfixed | ⟨hoffer, -⟩ := hfits
  · simp only [List.mem_cons, Prod.mk.injEq, List.not_mem_nil, or_false] at hfixed
    obtain ⟨h, -⟩ | ⟨h, -⟩ | ⟨h, -⟩ | ⟨h, -⟩ := hfixed <;> rw [h] <;> rfl
  · rw [hoffer]
    rfl

theorem decodeFrame_isSome_iff (bytes : List Byte) (whole : Bool) : (decodeFrame bytes whole).isSome = true ↔ whole = true ∧
    ∃ (kind bay len c1 c2 : Byte) (payload : List Byte), bytes = kind :: bay :: len :: (payload ++ [c1, c2]) ∧
      len.toNat = payload.length ∧ payload.length ≤ 96 ∧ (1 ≤ bay.toNat ∧ bay.toNat ≤ 64) ∧
      (crc16 (kind :: bay :: len :: payload)).toNat = c1.toNat * 256 + c2.toNat ∧ KindFits kind payload := by
  constructor
  · intro hsome
    have hok : structureOk bytes whole = true := by
      by_contra hbad
      simp [decodeFrame, hbad] at hsome
    have hlong : 5 ≤ bytes.length := by
      simp only [structureOk, Bool.and_eq_true, decide_eq_true_eq] at hok
      obtain ⟨⟨⟨⟨⟨⟨-, h⟩, -⟩, -⟩, -⟩, -⟩, -⟩ := hok
      exact h
    obtain ⟨kind, bay, len, c1, c2, payload, rfl⟩ := frame_parts hlong
    obtain ⟨hwhole, hchecks⟩ := structureOk_iff.mp hok
    exact ⟨hwhole, kind, bay, len, c1, c2, payload, rfl, hchecks⟩
  · rintro ⟨hwhole, kind, bay, len, c1, c2, payload, rfl, hchecks⟩
    rw [decodeFrame, if_pos (structureOk_iff.mpr ⟨hwhole, hchecks⟩)]
    obtain ⟨-, -, -, -, hfits⟩ := hchecks
    exact frameAt_isSome hfits

/-! ## A frame that a station drives (R18) -/

theorem bytes_parts (f : Frame) (bay epoch : Nat) : f.bytes bay epoch = BitVec.ofNat 8 f.kindCode :: BitVec.ofNat 8 bay ::
    BitVec.ofNat 8 (f.payload bay epoch).length :: (f.payload bay epoch ++
      [BitVec.ofNat 8 ((crc16 (f.body bay epoch)).toNat / 256), BitVec.ofNat 8 (crc16 (f.body bay epoch)).toNat]) := by
  simp [Frame.bytes, Frame.body, u8, u16, beBytes]

theorem rawLeg_length (l : RawLeg) : l.bytes.length = 7 := by simp [RawLeg.bytes]

theorem offer_length (o : Offer) : o.bytes.length = 31 + 7 * o.legs.length := by
  simp only [Offer.bytes, List.length_append, flatMap_length RawLeg.bytes 7 rawLeg_length, u8_length, u16_length, u32_length, i32_length]

theorem offer_legCount (o : Offer) : o.bytes[16]? = some (BitVec.ofNat 8 o.legs.length) := by
  simp [Offer.bytes, u8, u16, u32, beBytes]

theorem offer_legs_le {o : Offer} (h : o.wellFormed = true) : o.legs.length ≤ 9 := by
  simp only [Offer.wellFormed, Bool.and_eq_true, decide_eq_true_eq] at h
  obtain ⟨⟨-, hlegs⟩, -⟩ := h
  exact hlegs

/-- The payload of a frame has the length that chapter 11 gives its kind, at most 94 bytes. -/
theorem payload_fits {f : Frame} (h : f.wellFormed = true) (bay epoch : Nat) :
    KindFits (BitVec.ofNat 8 f.kindCode) (f.payload bay epoch) ∧ (f.payload bay epoch).length ≤ 94 := by
  cases f with
  | offer o =>
    have hlegs := offer_legs_le h
    have hlength : (Frame.payload bay epoch (.offer o)).length = 31 + 7 * o.legs.length := offer_length o
    refine ⟨.inr ⟨rfl, _, offer_legCount o, ?_⟩, by omega⟩
    rw [hlength, BitVec.toNat_ofNat, Nat.mod_eq_of_lt (by omega)]
  | claim c =>
    have hlength : (Frame.payload bay epoch (.claim c)).length = 22 := by simp [Frame.payload, Claim.bytes]
    exact ⟨.inl (by simp [hlength, Frame.kindCode]), by omega⟩
  | event q d r => exact ⟨.inl (by simp [Frame.payload, Frame.kindCode]), by simp [Frame.payload]⟩
  | query b => exact ⟨.inl (by simp [Frame.payload, Frame.kindCode]), by simp [Frame.payload]⟩
  | taken b x => exact ⟨.inl (by simp [Frame.payload, Frame.kindCode]), by simp [Frame.payload]⟩

theorem structureOk_bytes {f : Frame} (h : f.wellFormed = true) (hlow : 1 ≤ bay) (hhigh : bay ≤ 64) :
    structureOk (f.bytes bay epoch) true = true := by
  obtain ⟨hfits, hshort⟩ := payload_fits h bay epoch
  have hbody : f.body bay epoch = BitVec.ofNat 8 f.kindCode :: BitVec.ofNat 8 bay :: BitVec.ofNat 8 (f.payload bay epoch).length ::
      f.payload bay epoch := rfl
  have hcrc := (crc16 (f.body bay epoch)).isLt
  rw [bytes_parts, structureOk_iff, ← hbody]
  have hbay : (BitVec.ofNat 8 bay : Byte).toNat = bay := by
    rw [BitVec.toNat_ofNat]
    omega
  refine ⟨rfl, ?_, by omega, ⟨hbay.symm ▸ hlow, hbay.symm ▸ hhigh⟩, ?_, hfits⟩
  · rw [BitVec.toNat_ofNat]
    omega
  · rw [BitVec.toNat_ofNat, BitVec.toNat_ofNat]
    omega

theorem bytes_fields (f : Frame) (bay epoch : Nat) : f.bytes bay epoch = u8 f.kindCode ++ (u8 bay ++ (u8 (f.payload bay epoch).length ++
    (f.payload bay epoch ++ u16 (crc16 (f.body bay epoch)).toNat))) := by
  simp [Frame.bytes, Frame.body]

/-- Past its first three bytes, a field of a frame is one of its payload. -/
theorem field_payload (f : Frame) (bay epoch a k : Nat) (h : a + k ≤ (f.payload bay epoch).length) :
    field (f.bytes bay epoch) (a + 3) k = field (f.payload bay epoch) a k := by
  rw [bytes_fields, field_u8_skip _ _ _ _ (by omega), field_u8_skip _ _ _ _ (by omega), field_u8_skip _ _ _ _ (by omega)]
  exact field_within _ _ _ _ h

theorem kind_bytes (f : Frame) (bay epoch : Nat) : field (f.bytes bay epoch) 0 1 = f.kindCode := by
  rw [bytes_fields, field_u8 _ _ (by cases f <;> simp [Frame.kindCode])]

theorem sender_bytes (f : Frame) (epoch : Nat) (h : bay ≤ 64) : field (f.bytes bay epoch) 1 1 = bay := by
  rw [bytes_fields, field_u8_skip _ _ _ _ (by omega), field_u8 _ _ (by omega)]

/-- The flags of a flag byte are read back. -/
theorem fieldFlag_head (flags : List Bool) (ys : List Byte) (i : Nat) (h : flags.length ≤ 8) :
    fieldFlag (u8 (flagBits flags) ++ ys) 0 i = flags.getD i false := by
  have hbyte : flagBits flags < 256 := (flagBits_lt flags).trans_le (Nat.pow_le_pow_right (show 0 < 2 by omega) h)
  rw [fieldFlag, field_u8 _ _ hbyte, flagBits_testBit]

theorem fieldFlag_skip (xs ys : List Byte) (a i : Nat) (h : xs.length ≤ a) :
    fieldFlag (xs ++ ys) a i = fieldFlag ys (a - xs.length) i := by
  rw [fieldFlag, field_skip xs ys a 1 h, fieldFlag]

/-- A CLAIM's fields are read back. -/
theorem claimAt_bytes {c : Claim} (h : c.wellFormed = true) : claimAt (Frame.bytes bay epoch (.claim c)) = c := by
  simp only [Claim.wellFormed, Bool.and_eq_true, fitsU, fitsI, Nat.reducePow, decide_eq_true_eq] at h
  obtain ⟨⟨⟨⟨⟨⟨⟨⟨⟨hfeeder, hbus⟩, hdep⟩, hneed⟩, hask⟩, hpledge⟩, hlow, hhigh⟩, hgrant⟩, hservice⟩, hlimit⟩ := h
  rw [bytes_fields]
  simp [claimAt, Frame.payload, Claim.bytes, field_u8, field_u16, field_u8_skip, field_u16_skip, field_i16_skip,
    field_departure_skip, fieldI_u8_skip, fieldI_u16_skip, fieldI_departure_skip, fieldI_i16 _ _ hlow hhigh, fieldDeparture_skip,
    fieldDeparture_head _ _ hdep, fieldFlag_skip, fieldFlag_head, *]

/-- The legs of an OFFER stand after 31 bytes. -/
theorem field_legs (o : Offer) (a k : Nat) : field o.bytes (31 + a) k = field (o.legs.flatMap RawLeg.bytes) a k := by
  have hlength : (u8 o.busId ++ u16 o.parkedEpoch ++ u8 o.dayAge ++ u32 o.cap ++ u32 o.floor ++ u32 o.lastE ++ u8 o.legs.length ++
      u8 o.cursor ++ i32 o.cumImp ++ i32 o.cumExp ++ i32 o.cumResp ++ u8 o.sessions).length = 31 := by simp
  rw [Offer.bytes, field_skip _ _ _ _ (by omega), hlength]
  congr 1
  omega

/-- A leg of an OFFER is read back at its place. -/
theorem rawLegAt_bytes {o : Offer} (hw : ∀ l ∈ o.legs, l.wellFormed = true) {i : Nat} {l : RawLeg} (hl : o.legs[i]? = some l) :
    rawLegAt (Frame.bytes bay epoch (.offer o)) i = l := by
  have hcount : i < o.legs.length := (List.getElem?_eq_some_iff.mp hl).1
  have hfield (a k : Nat) (ha : a + k ≤ 7) : field (Frame.bytes bay epoch (.offer o)) (34 + 7 * i + a) k = field l.bytes a k := by
    have hleg := field_flatMap RawLeg.bytes 7 rawLeg_length o.legs i l hl a k ha []
    have hpayload : Frame.payload bay epoch (.offer o) = o.bytes := rfl
    have hwithin : 31 + 7 * i + a + k ≤ (Frame.payload bay epoch (.offer o)).length := by
      rw [hpayload, offer_length]
      omega
    rw [List.append_nil] at hleg
    rw [show 34 + 7 * i + a = 31 + 7 * i + a + 3 by omega, field_payload _ _ _ _ _ hwithin, hpayload, ← hleg]
    rw [show 31 + 7 * i + a = 31 + (7 * i + a) by omega, field_legs]
  have hsigned (a k : Nat) (ha : a + k ≤ 7) : fieldI (Frame.bytes bay epoch (.offer o)) (34 + 7 * i + a) k = fieldI l.bytes a k := by
    rw [fieldI, hfield a k ha, fieldI]
  have hfits := hw l (List.mem_of_getElem? hl)
  simp only [RawLeg.wellFormed, fitsU, fitsI, Nat.reducePow, Bool.and_eq_true, decide_eq_true_eq] at hfits
  obtain ⟨⟨⟨hlow, hhigh⟩, hreq⟩, hstate⟩ := hfits
  rw [rawLegAt, show 37 + 7 * i = 34 + 7 * i + 3 by omega, show 40 + 7 * i = 34 + 7 * i + 6 by omega, hfield 3 3 (by omega),
    hfield 6 1 (by omega), show 34 + 7 * i = 34 + 7 * i + 0 by omega, hsigned 0 3 (by omega)]
  simp [RawLeg.bytes, fieldI_i24 _ _ hlow hhigh, field_i24_skip, field_u24_skip, field_u24, field_u8_last, hreq, hstate]

/-- An OFFER's fields are read back. -/
theorem offerAt_bytes {o : Offer} (h : o.wellFormed = true) : offerAt (Frame.bytes bay epoch (.offer o)) = o := by
  have hnine := offer_legs_le h
  simp only [Offer.wellFormed, Bool.and_eq_true, fitsU, fitsI, Nat.reducePow, decide_eq_true_eq, List.all_eq_true] at h
  obtain ⟨⟨⟨⟨⟨⟨⟨⟨⟨⟨⟨⟨hbus, hepoch⟩, hage⟩, hcap⟩, hfloor⟩, hlast⟩, hcursor⟩, himpLow, himpHigh⟩, hexpLow, hexpHigh⟩, hrespLow,
    hrespHigh⟩, hsessions⟩, -⟩, hlegs⟩ := h
  have hcount : field (Frame.bytes bay epoch (.offer o)) 19 1 = o.legs.length := by
    rw [field_payload (.offer o) bay epoch 16 1 (by show _ ≤ o.bytes.length; rw [offer_length]; omega)]
    exact (field_byte (offer_legCount o)).trans (by rw [BitVec.toNat_ofNat, Nat.mod_eq_of_lt (by omega)])
  have hread : (List.range o.legs.length).map (rawLegAt (Frame.bytes bay epoch (.offer o))) = o.legs := by
    refine List.ext_getElem (by simp) fun i hi hj => ?_
    rw [List.getElem_map, List.getElem_range]
    exact rawLegAt_bytes hlegs (List.getElem?_eq_getElem hj)
  rw [offerAt, hcount, hread, bytes_fields]
  simp [Frame.payload, Offer.bytes, field_u8, field_u16, field_u32, field_u8_skip, field_u16_skip, field_u32_skip, field_i32_skip,
    fieldI_u8_skip, fieldI_u16_skip, fieldI_u32_skip, fieldI_i32_skip, fieldI_i32 _ _ himpLow himpHigh, fieldI_i32 _ _ hexpLow hexpHigh,
    fieldI_i32 _ _ hrespLow hrespHigh, hbus, hepoch, hage, hcap, hfloor, hlast, hcursor, hsessions]

/-- Every frame that a station can drive is read back as the frame it was. -/
theorem decodeFrame_bytes {f : Frame} (h : f.wellFormed = true) (hlow : 1 ≤ bay) (hhigh : bay ≤ 64) (hepoch : epoch < 65536) :
    decodeFrame (f.bytes bay epoch) true = some (f.toInstr bay epoch) := by
  rw [decodeFrame, if_pos (structureOk_bytes h hlow hhigh), frameAt, kind_bytes, sender_bytes f epoch hhigh]
  cases f with
  | claim c =>
    have hsent : field (Frame.bytes bay epoch (.claim c)) 3 2 = epoch := by
      rw [field_payload (.claim c) bay epoch 0 2 (by simp [Frame.payload])]
      simp [Frame.payload, field_u16, hepoch]
    simp only [Frame.kindCode, hsent, claimAt_bytes h, Frame.toInstr]
  | offer o => simp only [Frame.kindCode, offerAt_bytes h, Frame.toInstr]
  | event q d r =>
    simp only [Frame.wellFormed, fitsU, Nat.reducePow, Bool.and_eq_true, decide_eq_true_eq] at h
    have hbay : bay < 256 := by omega
    simp [Frame.kindCode, Frame.toInstr, bytes_fields, Frame.payload, field_u8, field_u16, field_u8_skip, field_u16_skip, h, hbay]
  | query b =>
    simp only [Frame.wellFormed, fitsU, Nat.reducePow, decide_eq_true_eq] at h
    simp [Frame.kindCode, Frame.toInstr, bytes_fields, Frame.payload, field_u8, field_u8_skip, h]
  | taken b x =>
    simp only [Frame.wellFormed, fitsU, Nat.reducePow, Bool.and_eq_true, decide_eq_true_eq] at h
    simp [Frame.kindCode, Frame.toInstr, bytes_fields, Frame.payload, field_u8, field_u8_skip, h]

/-! ## Records of the stage line (R192) -/

theorem byteSum_eq (bs : List Byte) : byteSum bs = (bs.map BitVec.toNat).sum % 256 := by
  have hsum (acc : Nat) : bs.foldl (fun acc b => acc + b.toNat) acc = acc + (bs.map BitVec.toNat).sum := by
    induction bs generalizing acc with
    | nil => rfl
    | cons b bs ih => simp [ih, Nat.add_assoc]
  rw [byteSum, hsum, Nat.zero_add]

theorem withCheck_eq (bs : List Byte) : ∃ c : Byte, withCheck bs = bs ++ [c] := ⟨_, rfl⟩

/-- The check byte makes the bytes sum to 0 modulo 256. -/
theorem withCheck_sum (bs : List Byte) : ((withCheck bs).map BitVec.toNat).sum % 256 = 0 := by
  simp only [withCheck, byteSum_eq, u8, beBytes, List.map_append, List.sum_append, List.nil_append, List.map_cons, List.map_nil,
    List.sum_cons, List.sum_nil, BitVec.toNat_ofNat]
  omega

theorem measure_isSome_iff (bytes : List Byte) : (decodeMeasure bytes).isSome = true ↔
    bytes.length = 8 ∧ bytes[0]? = some 2#8 ∧ (bytes.map BitVec.toNat).sum % 256 = 0 := by
  have hkind : bytes.length = 8 → (field bytes 0 1 = 2 ↔ bytes[0]? = some 2#8) := by
    intro hlength
    have hat : bytes[0]? = some bytes[0] := List.getElem?_eq_getElem (by omega)
    rw [hat, field_byte hat, Option.some.injEq, ← BitVec.toNat_inj]
    rfl
  rw [decodeMeasure, byteSum_eq]
  split
  · rename_i hchecks
    obtain ⟨hlength, hfirst, hsum⟩ := hchecks
    exact ⟨fun _ => ⟨hlength, (hkind hlength).mp hfirst, hsum⟩, fun _ => rfl⟩
  · rename_i hfails
    refine ⟨nofun, fun hchecks => absurd ?_ hfails⟩
    obtain ⟨hlength, hfirst, hsum⟩ := hchecks
    exact ⟨hlength, (hkind hlength).mpr hfirst, hsum⟩

/-- Every MEASURE record is read back as the record it was. -/
theorem decodeMeasure_bytes {m : Measure} (hseq : m.seq < 256) (hlow : -32768 ≤ m.power) (hhigh : m.power ≤ 32767)
    (hvolts : m.volts < 65536) : decodeMeasure m.bytes = some m := by
  have hlength : m.bytes.length = 8 := by simp [Measure.bytes, withCheck]
  have hsum : byteSum m.bytes = 0 := by
    rw [byteSum_eq]
    exact withCheck_sum _
  obtain ⟨c, hbytes⟩ : ∃ c, m.bytes = u8 2 ++ u8 m.seq ++ i16 m.power ++ u16 m.volts ++ u8 (flagBits [m.fault, m.isOpen]) ++ c :=
    ⟨_, rfl⟩
  simp only [List.append_assoc] at hbytes
  have hkind : field m.bytes 0 1 = 2 := by rw [hbytes, field_u8 _ _ (by omega)]
  have hpower := fieldI_i16 m.power (u16 m.volts ++ (u8 (flagBits [m.fault, m.isOpen]) ++ c)) hlow (by omega)
  rw [decodeMeasure, if_pos ⟨hlength, hkind, hsum⟩, hbytes]
  simp [field_u8, field_u16, field_u8_skip, field_i16_skip, fieldI_u8_skip, hpower, fieldFlag_skip, fieldFlag_head, hseq, hvolts]

/-! ## Bit by bit -/

theorem frameCommand_unwhole (bytes : List Byte) : frameCommand (bytes, false) = .droppedFrame bytes false := by
  simp [frameCommand, decodeFrame, structureOk]

theorem bytes_ne_nil (f : Frame) (bay epoch : Nat) : f.bytes bay epoch ≠ [] := by simp [bytes_parts]

/-- Settles O15: the layouts, the checks, what is read back, and the bits of a frame and of a record. -/
theorem framesAndMeasuresRoundTrip : Obligations.FramesAndMeasuresRoundTrip := by
  refine ⟨fun f bay epoch => ?_, decodeFrame_isSome_iff, by decide +kernel, fun m seq applied => ?_, measure_isSome_iff,
    fun f bay epoch h hlow hhigh hepoch => decodeFrame_bytes h hlow hhigh hepoch,
    fun m hseq hlow hhigh hvolts => decodeMeasure_bytes hseq hlow hhigh hvolts, fun f bay epoch h hlow hhigh hepoch => ?_, fun m => ?_,
    fun bytes b bits n => ⟨?_, fun hshort => ?_⟩⟩
  · cases f with
    | claim c =>
      rw [Frame.bytes, Frame.body, claim_payload]
      rfl
    | event q d r => rfl
    | query b => rfl
    | offer o => rfl
    | taken b x => rfl
  · obtain ⟨c, hc⟩ := withCheck_eq (u8 2 ++ u8 m.seq ++ i16 m.power ++ u16 m.volts ++ u8 (m.fault.toNat + 2 * m.isOpen.toNat))
    refine ⟨c, _, ?_, rfl, withCheck_sum _, withCheck_sum _⟩
    rw [Measure.bytes, flagBits_measure, hc]
  · rw [LineWatch.hears_sent .depot _ 16 (bytes_ne_nil f bay epoch) (by decide)]
    simp [SerialLine.atBusy, SerialLine.atIdle, frameCommand, decodeFrame_bytes h hlow hhigh hepoch]
  · rw [LineWatch.hears_sent .stage _ 20 (by simp [Measure.bytes, withCheck, u8, beBytes]) (by decide)]
    rfl
  · rw [assemble_unstopped, frameCommand_unwhole]
  · rw [assemble_leftover _ _ hshort, frameCommand_unwhole]

end Sys2Proof.Proofs.FrameBytes
end

section
/-!
What READ_STATUS and READ_SESSION carry, group by group and field by field (R70, R182, R193; O19).
-/
namespace Sys2Proof.Proofs.StatusGroups

open Sys2Proof Sys2Proof.Machine Sys2Proof.Proofs.Port

/-! ## Pieces of a payload -/

/-- The `k` bytes of a payload from byte `a` on. -/
def piece (p : List Byte) (a k : Nat) : List Byte := (p.drop a).take k

variable {xs ys p : List Byte} {a k : Nat}

theorem piece_whole (h : xs.length = k) : piece xs 0 k = xs := by simp [piece, ← h]

theorem piece_head (h : xs.length = k) : piece (xs ++ ys) 0 k = xs := by simp [piece, ← h]

theorem piece_skip (h : xs.length ≤ a) : piece (xs ++ ys) a k = piece ys (a - xs.length) k := by
  simp [piece, List.drop_append, List.drop_of_length_le h]

/-- A piece of a piece. -/
theorem piece_of_piece {w b : Nat} (h : b + k ≤ w) : piece p (a + b) k = piece (piece p a w) b k := by
  unfold piece
  rw [List.drop_take, List.drop_drop, List.take_take, Nat.min_eq_left (by omega)]

/-- Two pieces, one after the other. -/
theorem piece_add (p : List Byte) (a k l : Nat) : piece p a (k + l) = piece p a k ++ piece p (a + k) l := by
  rw [piece, piece, piece, List.take_add, List.drop_drop]

/-- A piece of one of the parts of a payload. -/
theorem piece_of_part {part : List Byte} {w b : Nat} (hpart : piece p a w = part) (h : b + k ≤ w) :
    piece p (a + b) k = piece part b k := hpart ▸ piece_of_piece h

/-! ## The groups of READ_STATUS (R182) -/

variable (s : State)

@[simp] theorem clock_length : s.clockGroup.length = 5 := by simp [State.clockGroup]

@[simp] theorem link_length : s.linkGroup.length = 9 := by simp [State.linkGroup]

@[simp] theorem peer_length : s.peerGroup.length = 34 := by simp [State.peerGroup]

@[simp] theorem flight_length : s.flightBytes.length = 4 := by
  unfold State.flightBytes
  split <;> simp

@[simp] theorem result_length : s.resultBytes.length = 15 := by
  unfold State.resultBytes
  split <;> simp

@[simp] theorem allotment_length : s.allotmentGroup.length = 21 := by simp [State.allotmentGroup]

@[simp] theorem stage_length : s.stageGroup.length = 18 := by simp [State.stageGroup]

@[simp] theorem band_length (i : Nat) : (s.bandBytes i).length = 4 := by simp [State.bandBytes]

@[simp] theorem sensing_length : s.sensingBytes.length = 19 := by simp [State.sensingBytes]

@[simp] theorem demand_length : s.demandBytes.length = 9 := by simp [State.demandBytes]

@[simp] theorem event_length : s.eventBytes.length = 8 := by
  unfold State.eventBytes
  split <;> simp

@[simp] theorem share_length : s.shareBytes.length = 20 := by simp [State.shareBytes]

@[simp] theorem reserve_length : s.reserveGroup.length = 56 := by simp [State.reserveGroup]

@[simp] theorem slot_length (i : Nat) : (s.parkSlot i).length = 18 := by
  unfold State.parkSlot
  split
  · simp
  · rename_i e _
    cases e.offered <;> simp

@[simp] theorem query_length : s.queryBytes.length = 8 := by
  unfold State.queryBytes
  split <;> simp

@[simp] theorem handover_length : s.handoverBytes.length = 11 := by
  unfold State.handoverBytes
  split
  · simp [flatMap_length _ 1 (fun _ => u8_length _)]
  · simp

@[simp] theorem park_length : s.parkGroup.length = 92 := by simp [State.parkGroup]

@[simp] theorem banks_length : s.banksPayload.length = 4 := by simp [State.banksPayload]

theorem log_length (h : s.log.counters.length = 24) : s.logGroup.length = 35 := by
  simp [State.logGroup, flatMap_length u8 1 u8_length, h]

@[simp] theorem config_length (r : ConfigRecord) : r.bytes.length = 70 := Laws.Record.config_length r

theorem port_length (answer : Nat) : (s.portGroup answer).length = 79 := by
  unfold State.portGroup
  split
  · simp
  · simp [flatMap_length _ 1 (fun _ => u8_length _)]

/-- Where each group of the status payload stands. -/
structure Grouped (p : List Byte) (answer : Nat) : Prop where
  whole : p.length = 349
  clock : piece p 0 5 = s.clockGroup
  link : piece p 5 9 = s.linkGroup
  peer : piece p 14 34 = s.peerGroup
  allotment : piece p 48 21 = s.allotmentGroup
  stage : piece p 69 18 = s.stageGroup
  reserve : piece p 87 56 = s.reserveGroup
  park : piece p 143 92 = s.parkGroup
  log : piece p 235 35 = s.logGroup
  port : piece p 270 79 = s.portGroup answer
  rest : p.drop 270 = s.portGroup answer

theorem grouped (answer : Nat) (h : s.log.counters.length = 24) : Grouped s (s.statusPayload answer) answer := by
  have hlog := log_length s h
  have hport := port_length s answer
  have hrest : (s.statusPayload answer).drop 270 = s.portGroup answer := by
    rw [State.statusPayload]
    exact List.drop_left' (by simp [hlog])
  have hpieces (a k : Nat) : piece (s.statusPayload answer) a k = piece (s.clockGroup ++ (s.linkGroup ++ (s.peerGroup ++
      (s.allotmentGroup ++ (s.stageGroup ++ (s.reserveGroup ++ (s.parkGroup ++ (s.logGroup ++ s.portGroup answer)))))))) a k := by
    simp only [State.statusPayload, List.append_assoc]
  refine ⟨by simp [State.statusPayload, hlog, hport], ?_, ?_, ?_, ?_, ?_, ?_, ?_, ?_, ?_, hrest⟩
  · rw [hpieces, piece_head (by simp)]
  · rw [hpieces, piece_skip (by simp), clock_length, piece_head (by simp)]
  all_goals
    rw [hpieces]
    simp [piece_skip, piece_head, piece_whole, hlog, hport]

/-! ## The parts of the groups -/

theorem allotment_parts : piece s.allotmentGroup 0 2 = u16 s.alt.grant ∧ piece s.allotmentGroup 2 4 = s.flightBytes ∧
    piece s.allotmentGroup 6 15 = s.resultBytes := by
  have hparts : s.allotmentGroup = u16 s.alt.grant ++ (s.flightBytes ++ s.resultBytes) := by simp [State.allotmentGroup]
  rw [hparts]
  simp [piece_skip, piece_head, piece_whole]

/-- Whether a computation is in flight, its latch epoch and the discard mark (R92, log entry 43). -/
theorem flight_parts : piece s.flightBytes 0 1 = u8 (if s.alt.flight.isSome then 1 else 0) ∧
    (∀ f ∈ s.alt.flight, piece s.flightBytes 1 2 = u16 f.inputs.epoch) ∧ piece s.flightBytes 3 1 = yesNo s.alt.discard := by
  unfold State.flightBytes
  cases s.alt.flight with
  | none => simp [piece_skip, piece_head, piece_whole]
  | some f => simp [piece_skip, piece_head, piece_whole]

/-- Whether there is a result table, and its figures, 0 where there is none (R92). -/
theorem result_parts : piece s.resultBytes 0 1 = yesNo s.alt.result.isSome ∧
    (∀ r ∈ s.alt.result, piece s.resultBytes 1 14 = u16 r.epoch ++ u8 r.origin ++ u16 r.service ++ u16 r.feeders.f0 ++
      u16 r.feeders.f1 ++ u16 r.feeders.f2 ++ u16 r.feeders.f3 ++ u8 r.rows.length) ∧
    (s.alt.result = none → piece s.resultBytes 4 11 = List.replicate 11 0#8) := by
  unfold State.resultBytes
  cases s.alt.result with
  | none =>
    have hzero : u8 0 = [0#8] := rfl
    simp [piece_skip, piece_head, piece_whole, hzero]
  | some r => simp [piece_skip, piece_head, piece_whole]

theorem reserve_parts : piece s.reserveGroup 0 19 = s.sensingBytes ∧ piece s.reserveGroup 19 9 = s.demandBytes ∧
    piece s.reserveGroup 28 8 = s.eventBytes ∧ piece s.reserveGroup 36 20 = s.shareBytes := by
  have hparts : s.reserveGroup = s.sensingBytes ++ (s.demandBytes ++ (s.eventBytes ++ s.shareBytes)) := by simp [State.reserveGroup]
  rw [hparts]
  simp [piece_skip, piece_head, piece_whole]

theorem sensing_parts : piece s.sensingBytes 0 3 = u16 (s.rsv.freq.getD 0) ++ yesNo s.rsv.senseFault ∧
    ∀ i < 4, piece s.sensingBytes (3 + 4 * i) 4 = s.bandBytes i := by
  have hparts : s.sensingBytes = (u16 (s.rsv.freq.getD 0) ++ yesNo s.rsv.senseFault) ++
      (s.bandBytes 0 ++ (s.bandBytes 1 ++ (s.bandBytes 2 ++ s.bandBytes 3))) := by simp [State.sensingBytes]
  rw [hparts]
  refine ⟨piece_head (by simp), fun i hi => ?_⟩
  interval_cases i <;> simp [piece_skip, piece_head, piece_whole]

/-- A monitor's state, mark and count (R115). -/
theorem band_parts {i : Nat} {b : Band} (hb : s.rsv.bands[i]? = some b) : piece (s.bandBytes i) 0 1 = u8 b.phase.code ∧
    piece (s.bandBytes i) 3 1 = yesNo b.mark ∧ (b.phase ≠ .triggered → piece (s.bandBytes i) 1 2 = u16 b.count) := by
  unfold State.bandBytes
  rw [hb, Option.getD_some]
  refine ⟨?_, ?_, fun hcounts => ?_⟩
  · simp [piece_head]
  · simp [piece_skip, piece_whole]
  · simp [piece_skip, piece_head, hcounts]

/-- Whether an event is in progress, and its figures, 0 while there is none (R140). -/
theorem event_parts : piece s.eventBytes 0 1 = u8 (if s.rsv.active then 1 else 0) ∧
    (s.rsv.active = true → piece s.eventBytes 1 7 =
      u8 (s.rsv.holder.getD 0) ++ u8 s.rsv.lastSeq ++ u16 s.rsv.dActive ++ u16 s.rsv.remaining ++ u8 s.rsv.refresh) ∧
    (s.rsv.active = false → piece s.eventBytes 1 7 = List.replicate 7 0#8) := by
  unfold State.eventBytes
  cases s.rsv.active with
  | false => exact ⟨rfl, nofun, fun _ => rfl⟩
  | true => simp [piece_skip, piece_head, piece_whole]

theorem park_parts : piece s.parkGroup 0 1 = u8 s.prk.entries.length ∧ (∀ i < 4, piece s.parkGroup (1 + 18 * i) 18 = s.parkSlot i) ∧
    piece s.parkGroup 73 8 = s.queryBytes ∧ piece s.parkGroup 81 11 = s.handoverBytes := by
  have hparts : s.parkGroup = u8 s.prk.entries.length ++ (s.parkSlot 0 ++ (s.parkSlot 1 ++ (s.parkSlot 2 ++ (s.parkSlot 3 ++
      (s.queryBytes ++ s.handoverBytes))))) := by simp [State.parkGroup]
  rw [hparts]
  refine ⟨piece_head (by simp), fun i hi => ?_, ?_, ?_⟩
  · interval_cases i <;> simp [piece_skip, piece_head]
  · simp [piece_skip, piece_head]
  · simp [piece_skip, piece_whole]

/-- A park entry's figures, with its wait and its rivals while it is OFFERED (R158). -/
theorem slot_parts {i : Nat} {e : ParkEntry} (he : s.prk.entries[i]? = some e) :
    piece (s.parkSlot i) 0 16 = u8 e.busId ++ u8 (if e.offered.isSome then 1 else 0) ++ u16 e.parkedEpoch ++ u8 e.dayAge ++
      i24 e.parked ++ u16 e.hold ++ u32 e.ctx.lastE ++ u8 e.ctx.chain.legs.length ++ u8 e.ctx.chain.cursor ∧
    ∀ w ∈ e.offered, piece (s.parkSlot i) 16 2 = u8 w.wait ++ u8 w.rivals.length := by
  unfold State.parkSlot
  rw [he]
  dsimp only
  refine ⟨piece_head (by simp), fun w hw => ?_⟩
  rw [Option.mem_def.mp hw, piece_skip (by simp)]
  exact piece_whole (by simp)

theorem slot_empty {i : Nat} (h : s.prk.entries.length ≤ i) : s.parkSlot i = List.replicate 18 0#8 := by
  rw [State.parkSlot, List.getElem?_eq_none h]

theorem handover_parts : piece s.handoverBytes 0 1 = yesNo s.prk.last.isSome ∧ ∀ h ∈ s.prk.last, piece s.handoverBytes 1 10 =
    u8 h.result.code ++ u8 h.busId ++ u16 h.epoch ++ u8 h.offerer ++ u8 h.offers ++ u32 h.lastE := by
  unfold State.handoverBytes
  cases s.prk.last with
  | none => exact ⟨piece_head (by simp), nofun⟩
  | some h => simp [piece_skip, piece_head, piece_whole]

theorem log_parts (h : s.log.counters.length = 24) : piece s.logGroup 0 8 = u8 s.log.a.state.code ++ u8 s.log.a.records.length ++
    u8 s.log.b.state.code ++ u8 s.log.b.records.length ++ u8 (fillingCode s.log) ++ u16 s.log.seq ++ u8 s.log.lost ∧
    piece s.logGroup 8 24 = s.log.counters.flatMap u8 ∧ piece s.logGroup 32 3 = u24 s.log.mask.toNat := by
  have hcounters : (s.log.counters.flatMap u8).length = 24 := by simp [flatMap_length u8 1 u8_length, h]
  have hparts : s.logGroup = (u8 s.log.a.state.code ++ u8 s.log.a.records.length ++ u8 s.log.b.state.code ++ u8 s.log.b.records.length ++
      u8 (fillingCode s.log) ++ u16 s.log.seq ++ u8 s.log.lost) ++ (s.log.counters.flatMap u8 ++ u24 s.log.mask.toNat) := by
    simp only [State.logGroup, State.banksPayload, List.append_assoc]
  rw [hparts]
  refine ⟨piece_head (by simp), ?_, ?_⟩
  · simp [piece_skip, piece_head, hcounters]
  · simp [piece_skip, piece_whole, hcounters]

theorem port_parts (answer : Nat) : piece (s.portGroup answer) 0 9 =
    u24 s.prt.flags.toNat ++ u24 s.prt.mask.toNat ++ yesNo s.attn ++ u8 answer ++ yesNo s.cfg.isSome ∧
    ∀ r ∈ s.cfg, (s.portGroup answer).drop 9 = r.bytes := by
  unfold State.portGroup
  refine ⟨piece_head (by simp), fun r hr => ?_⟩
  rw [Option.mem_def.mp hr]
  exact List.drop_left' (by simp)

/-! ## READ_SESSION (R70) -/

@[simp] theorem vehicle_length (v : Session) : v.vehicleBytes.length = 20 := by simp [Session.vehicleBytes]

@[simp] theorem readiness_length (v : Session) : (s.readinessBytes v).length = 17 := by simp [State.readinessBytes]

@[simp] theorem totals_length (v : Session) : v.totalsBytes.length = 25 := by simp [Session.totalsBytes]

theorem leg_length (l : Leg) : l.bytes.length = 7 := by simp [Leg.bytes]

theorem sessionPayload_none (h : s.ses = none) : s.sessionPayload = List.replicate 63 0#8 := by
  rw [State.sessionPayload, State.presenceCode, h]
  rfl

/-- The figures of a live session: its presence and 62 bytes, then its legs. -/
theorem sessionPayload_some {v : Session} (h : s.ses = some v) : ∃ head : List Byte, head.length = 63 ∧
    s.sessionPayload = head ++ v.chain.legs.flatMap Leg.bytes ∧
    head = u8 (if s.prk.query.isSome then 1 else 2) ++ v.vehicleBytes ++ s.readinessBytes v ++ v.totalsBytes := by
  have hpresence : s.presenceCode = if s.prk.query.isSome then 1 else 2 := by
    rw [State.presenceCode, State.isPending, h]
    rfl
  refine ⟨_, ?_, ?_, rfl⟩
  · simp
  · rw [State.sessionPayload, h, hpresence]
    simp only [State.liveSessionBytes, List.append_assoc]

/-! ## The fields of READ_STATUS -/

section

variable {s} {answer : Nat}

theorem allotment_fields (hg : Grouped s p answer) : (p.drop 48).take 2 = u16 s.alt.grant ∧
    (p.drop 50).take 1 = u8 (if s.alt.flight.isSome then 1 else 0) ∧ (∀ f ∈ s.alt.flight, (p.drop 51).take 2 = u16 f.inputs.epoch) ∧
    (p.drop 53).take 2 = yesNo s.alt.discard ++ yesNo s.alt.result.isSome := by
  obtain ⟨hgrant, hflight, hresult⟩ := allotment_parts s
  obtain ⟨hpresent, hlatch, hdiscard⟩ := flight_parts s
  obtain ⟨htable, -, -⟩ := result_parts s
  have hat (b k : Nat) (h : b + k ≤ 4) : piece p (50 + b) k = piece s.flightBytes b k :=
    piece_of_part ((piece_of_part hg.allotment (b := 2) (by omega)).trans hflight) h
  have hmark : piece p 53 1 = yesNo s.alt.discard := (hat 3 1 (by omega)).trans hdiscard
  have hhas : piece p (54 + 0) 1 = yesNo s.alt.result.isSome :=
    (piece_of_part ((piece_of_part hg.allotment (b := 6) (by omega)).trans hresult) (by omega)).trans htable
  refine ⟨(piece_of_part hg.allotment (b := 0) (by omega)).trans hgrant, (hat 0 1 (by omega)).trans hpresent,
    fun f hf => (hat 1 2 (by omega)).trans (hlatch f hf), ?_⟩
  rw [← hmark, ← hhas]
  exact piece_add p 53 1 1

theorem result_fields (hg : Grouped s p answer) :
    (∀ r ∈ s.alt.result, (p.drop 55).take 14 = u16 r.epoch ++ u8 r.origin ++ u16 r.service ++ u16 r.feeders.f0 ++
      u16 r.feeders.f1 ++ u16 r.feeders.f2 ++ u16 r.feeders.f3 ++ u8 r.rows.length) ∧
    (s.alt.result = none → (p.drop 58).take 11 = List.replicate 11 0#8) := by
  obtain ⟨-, -, hresult⟩ := allotment_parts s
  obtain ⟨-, hfigures, hzeros⟩ := result_parts s
  have hat (b k : Nat) (h : b + k ≤ 15) : piece p (54 + b) k = piece s.resultBytes b k :=
    piece_of_part ((piece_of_part hg.allotment (b := 6) (by omega)).trans hresult) h
  exact ⟨fun r hr => (hat 1 14 (by omega)).trans (hfigures r hr), fun hnone => (hat 4 11 (by omega)).trans (hzeros hnone)⟩

theorem sensing_fields (hg : Grouped s p answer) : (p.drop 87).take 3 = u16 (s.rsv.freq.getD 0) ++ yesNo s.rsv.senseFault ∧
    ∀ i b, i < 4 → s.rsv.bands[i]? = some b →
      (p.drop (90 + 4 * i)).take 1 = u8 b.phase.code ∧ (p.drop (93 + 4 * i)).take 1 = yesNo b.mark ∧
      (b.phase ≠ .triggered → (p.drop (91 + 4 * i)).take 2 = u16 b.count) := by
  obtain ⟨hsensing, -⟩ := reserve_parts s
  obtain ⟨hfreq, hbands⟩ := sensing_parts s
  have hat (b k : Nat) (h : b + k ≤ 19) : piece p (87 + b) k = piece s.sensingBytes b k :=
    piece_of_part ((piece_of_part hg.reserve (b := 0) (by omega)).trans hsensing) h
  refine ⟨(hat 0 3 (by omega)).trans hfreq, fun i b hi hb => ?_⟩
  have hband (c k : Nat) (h : c + k ≤ 4) : (p.drop (90 + c + 4 * i)).take k = piece (s.bandBytes i) c k := by
    rw [show 90 + c + 4 * i = 87 + (3 + 4 * i) + c by omega]
    exact piece_of_part ((hat (3 + 4 * i) 4 (by omega)).trans (hbands i hi)) h
  obtain ⟨hphase, hmark, hcounts⟩ := band_parts s hb
  exact ⟨(hband 0 1 (by omega)).trans hphase, (hband 3 1 (by omega)).trans hmark,
    fun htriggered => (hband 1 2 (by omega)).trans (hcounts htriggered)⟩

theorem event_fields (hg : Grouped s p answer) : (p.drop 115).take 1 = u8 (if s.rsv.active then 1 else 0) ∧
    (s.rsv.active = true → (p.drop 116).take 7 =
      u8 (s.rsv.holder.getD 0) ++ u8 s.rsv.lastSeq ++ u16 s.rsv.dActive ++ u16 s.rsv.remaining ++ u8 s.rsv.refresh) ∧
    (s.rsv.active = false → (p.drop 116).take 7 = List.replicate 7 0#8) := by
  obtain ⟨-, -, hevent, -⟩ := reserve_parts s
  obtain ⟨hactive, hserved, hidle⟩ := event_parts s
  have hat (b k : Nat) (h : b + k ≤ 8) : piece p (115 + b) k = piece s.eventBytes b k :=
    piece_of_part ((piece_of_part hg.reserve (b := 28) (by omega)).trans hevent) h
  exact ⟨(hat 0 1 (by omega)).trans hactive, fun h => (hat 1 7 (by omega)).trans (hserved h),
    fun h => (hat 1 7 (by omega)).trans (hidle h)⟩

theorem slot_fields (hg : Grouped s p answer) :
    (∀ i e, i < 4 → s.prk.entries[i]? = some e →
      (p.drop (144 + 18 * i)).take 16 = u8 e.busId ++ u8 (if e.offered.isSome then 1 else 0) ++ u16 e.parkedEpoch ++ u8 e.dayAge ++
        i24 e.parked ++ u16 e.hold ++ u32 e.ctx.lastE ++ u8 e.ctx.chain.legs.length ++ u8 e.ctx.chain.cursor ∧
      ∀ w ∈ e.offered, (p.drop (160 + 18 * i)).take 2 = u8 w.wait ++ u8 w.rivals.length) ∧
    (∀ i, i < 4 → s.prk.entries.length ≤ i → (p.drop (144 + 18 * i)).take 18 = List.replicate 18 0#8) := by
  obtain ⟨-, hslots, -⟩ := park_parts s
  have hat (i : Nat) (hi : i < 4) : piece p (143 + (1 + 18 * i)) 18 = s.parkSlot i :=
    (piece_of_part hg.park (by omega)).trans (hslots i hi)
  have hslot (i b k : Nat) (hi : i < 4) (h : b + k ≤ 18) : (p.drop (144 + b + 18 * i)).take k = piece (s.parkSlot i) b k := by
    rw [show 144 + b + 18 * i = 143 + (1 + 18 * i) + b by omega]
    exact piece_of_part (hat i hi) h
  refine ⟨fun i e hi he => ?_, fun i hi hnone => ?_⟩
  · obtain ⟨hfigures, hoffered⟩ := slot_parts s he
    exact ⟨(hslot i 0 16 hi (by omega)).trans hfigures, fun w hw => (hslot i 16 2 hi (by omega)).trans (hoffered w hw)⟩
  · rw [← slot_empty s hnone, ← hat i hi, show 143 + (1 + 18 * i) = 144 + 18 * i by omega]
    rfl

theorem handover_fields (hg : Grouped s p answer) : (p.drop 224).take 1 = yesNo s.prk.last.isSome ∧
    ∀ h ∈ s.prk.last, (p.drop 225).take 10 =
      u8 h.result.code ++ u8 h.busId ++ u16 h.epoch ++ u8 h.offerer ++ u8 h.offers ++ u32 h.lastE := by
  obtain ⟨-, -, -, hhandover⟩ := park_parts s
  obtain ⟨hlast, hfigures⟩ := handover_parts s
  have hat (b k : Nat) (h : b + k ≤ 11) : piece p (224 + b) k = piece s.handoverBytes b k :=
    piece_of_part ((piece_of_part hg.park (b := 81) (by omega)).trans hhandover) h
  exact ⟨(hat 0 1 (by omega)).trans hlast, fun h hh => (hat 1 10 (by omega)).trans (hfigures h hh)⟩

theorem log_fields (hg : Grouped s p answer) (hcounters : s.log.counters.length = 24) :
    (p.drop 235).take 8 = u8 s.log.a.state.code ++ u8 s.log.a.records.length ++ u8 s.log.b.state.code ++
      u8 s.log.b.records.length ++ u8 (fillingCode s.log) ++ u16 s.log.seq ++ u8 s.log.lost ∧
    (p.drop 243).take 24 = s.log.counters.flatMap u8 ∧ (p.drop 267).take 3 = u24 s.log.mask.toNat := by
  obtain ⟨hbanks, hcauses, hmask⟩ := log_parts s hcounters
  exact ⟨(piece_of_part hg.log (b := 0) (by omega)).trans hbanks, (piece_of_part hg.log (b := 8) (by omega)).trans hcauses,
    (piece_of_part hg.log (b := 32) (by omega)).trans hmask⟩

theorem port_fields (hg : Grouped s p answer) : (p.drop 270).take 9 =
    u24 s.prt.flags.toNat ++ u24 s.prt.mask.toNat ++ yesNo s.attn ++ u8 answer ++ yesNo s.cfg.isSome ∧
    ∀ r ∈ s.cfg, p.drop 279 = r.bytes := by
  obtain ⟨hfigures, hrecord⟩ := port_parts s answer
  refine ⟨(piece_of_part hg.port (b := 0) (by omega)).trans hfigures, fun r hr => ?_⟩
  rw [← hrecord r hr, ← hg.rest, List.drop_drop]

end

/-! ## The two readings -/

/-- Settles O19: the groups of the status payload and the fields of each, and the session's figures. -/
theorem statusAndSessionAreReadWhole : Obligations.StatusAndSessionAreReadWhole := by
  intro s
  refine ⟨fun hcounters => answers_of_taken (effect := State.bumpChoices) (payload := fun t => t.statusPayload t.prt.answer) rfl ?_,
    answers_of_taken (effect := id) (payload := State.sessionPayload) rfl ?_⟩
  · intro p
    have hg : Grouped s.counted.bumpChoices p (nextAnswer s.prt.answer) := grouped _ _ hcounters
    have hresponds : Responds s (s.counted.bumpChoices.answerWith 12 .ok p) 12 .ok p := responds_answerWith _ _ rfl
    have hp : s.counted.bumpChoices.statusPayload s.counted.bumpChoices.prt.answer = p := rfl
    obtain ⟨hgrant, hpresent, hlatch, hdiscard⟩ := allotment_fields hg
    obtain ⟨hfigures, hzeros⟩ := result_fields hg
    obtain ⟨hfreq, hbands⟩ := sensing_fields hg
    obtain ⟨hactive, hserved, hidle⟩ := event_fields hg
    obtain ⟨-, hdemand, -, hshare⟩ := reserve_parts s.counted.bumpChoices
    obtain ⟨hcount, -, hquery, -⟩ := park_parts s.counted.bumpChoices
    obtain ⟨hslots, hempty⟩ := slot_fields hg
    obtain ⟨hlast, hhandover⟩ := handover_fields hg
    obtain ⟨hbanks, hcauses, hmask⟩ := log_fields hg hcounters
    obtain ⟨hport, hrecord⟩ := port_fields hg
    dsimp only
    rw [hp]
    clear_value p
    exact ⟨rfl, rfl, rfl, hresponds, hg.whole, hg.clock, hg.link, hg.peer, hgrant, hpresent, hlatch, hdiscard, hfigures, hzeros, hg.stage,
      hfreq, hbands, (piece_of_part hg.reserve (b := 19) (by omega)).trans hdemand, hactive, hserved, hidle,
      (piece_of_part hg.reserve (b := 36) (by omega)).trans hshare, (piece_of_part hg.park (b := 0) (by omega)).trans hcount, hslots, hempty,
      (piece_of_part hg.park (b := 73) (by omega)).trans hquery, hlast, hhandover, hbanks, hcauses, hmask, hport, hrecord⟩
  · refine ⟨rfl, responds_answerWith _ _ rfl, fun hnone => sessionPayload_none _ hnone, fun v hv => ?_⟩
    obtain ⟨head, hlength, hpayload, hhead⟩ := sessionPayload_some s.counted hv
    show s.counted.sessionPayload.length = _ ∧ s.counted.sessionPayload.take 63 = _ ∧ s.counted.sessionPayload.drop 63 = _
    rw [hpayload]
    refine ⟨?_, ?_, List.drop_left' hlength⟩
    · rw [List.length_append, hlength, flatMap_length Leg.bytes 7 leg_length]
    · rw [List.take_left' hlength, hhead]
      simp only [Session.vehicleBytes, State.readinessBytes, Session.totalsBytes, List.append_assoc]
      rfl

end Sys2Proof.Proofs.StatusGroups
end
